-- ==== Sys2Proof/Word.lean ====
section
/-! DEFINITION. Words and bytes: registers are 32 bits wide (R39); a byte is 8 bits. -/
namespace Sys2Proof

/-- A 32-bit register value or host word (R39). -/
abbrev Word := BitVec 32

/-- One byte. -/
abbrev Byte := BitVec 8

end Sys2Proof
end

