-- ==== Sys2Proof/Syntax.lean ====
section
/-! DEFINITION. Syntax: the commands the hub takes, one constructor for each row of spec/opcode_table.json, and the
types of their operands. Every command carries first the instant at which it happens, in ns of the frame clock. What the
hub reads from outside (a descriptor, a ring context, doorbell slots, a frame, a flit, a sensor, the verdict of a
cryptographic check, the outcome of a flash operation) is an operand of the command that reads it. Links 0 to 15 are the
downstream links; link 16 is the upstream link of a branch. -/
namespace Sys2Proof

/-- The PCIe functions (spec/03, functions). -/
inductive Fn where
  | pf0 | pf1
  deriving DecidableEq, Repr

/-- The initiators of register accesses (R60). -/
inductive Initiator where
  | pf (f : Fn)
  | branchCtl (f : Fn)
  | maint
  | jtag
  | mgmt
  deriving DecidableEq, Repr

/-- A submission entry as the hub fetches it, with the bytes of its data buffer where the opcode reads one; the opcode
is the command's row (R80, SQ entry). -/
structure SqEntry where
  fn : Fn
  sq : BitVec 8
  fence : Bool
  quiet : Bool
  dirIn : Bool
  tag : Word
  tea : BitVec 24
  length : Word
  dataAddr : BitVec 64
  args : List Byte
  data : List Byte
  deriving DecidableEq, Repr

/-- A register access: the address, the bytes it covers, the byte enables and data of the aligned 8-byte unit (R40). -/
structure Access where
  ini : Initiator
  addr : BitVec 24
  size : Nat
  be : BitVec 8
  data : BitVec 64
  deriving DecidableEq, Repr

/-- Bytes 0 to 31 of a ring context as the hub reads them at enable, and whether the host answered the read (R72). -/
structure CtxIn where
  base : BitVec 64
  size : Word
  cq : BitVec 16
  vector : BitVec 16
  weight : Byte
  flags : Byte
  profile : Byte
  readOk : Bool
  deriving DecidableEq, Repr, Inhabited

/-- One doorbell slot as read (R75). -/
structure Doorbell where
  ring : BitVec 11
  value : Word
  deriving DecidableEq, Repr

/-- One 64-bit word of the summary block: its number, its value as read, and what the AtomicOp Swap returned (R74, R76). -/
structure SummaryWord where
  word : BitVec 5
  read : BitVec 64
  swapped : BitVec 64
  deriving DecidableEq, Repr

/-- The unfetched part of one SQ as the hub reads it at a takeover: the tail, and TAG and QUIET of each entry (R106). -/
structure Unfetched where
  sq : Byte
  tail : Word
  entries : List (Word × Bool)
  deriving DecidableEq, Repr

/-- What a named hub answers to the checks of a schedule (R366). -/
structure HubReport where
  hub : Nat
  absent : Bool
  complete : Bool
  busy : Bool
  lost : Bool
  deriving DecidableEq, Repr

/-- A maintenance command block (R343). -/
structure MaintCmd where
  tag : BitVec 16
  arg0 : Word
  arg1 : Word
  len : Word
  data : List Byte
  deriving DecidableEq, Repr

/-- What a start finds: the straps, the boot ROM's checks of both volumes (1 passed, 2 signature failed, 3 hash, PART
or version failed), the checks of the kept memory regions, the engines and cores that fail their self-test, and the
Folio positions that are neither blank nor valid (R13, R256, R265, R359, R378, R388, R399). -/
structure BootIn where
  role : BitVec 2
  volA : BitVec 2
  volB : BitVec 2
  regionsOk : Bool
  gustOk : Bool
  selfTestFail : Bool
  badEngines : List Nat
  badCores : List Nat
  folBad : List Nat
  deriving DecidableEq, Repr, Inhabited

/-- A VFP frame as received: its bytes, the verdict on its security tag, the ns since its first bit (R109, R123, R152). -/
structure RxFrame where
  bytes : List Byte
  tagOk : Bool
  since : Nat
  deriving DecidableEq, Repr

/-- A flit as received: its 256 bytes, whether the FEC could correct every codeword it overlaps, the codewords that
ended with it (their lane and corrected symbols, 16 and more for one that cannot be corrected), and the lanes on which a
marker expected meanwhile was not found (R205, R206). -/
structure Flit where
  bytes : List Byte
  fecOk : Bool
  codewords : List (BitVec 2 × BitVec 5)
  missed : List (BitVec 2)
  deriving DecidableEq, Repr

/-- What a lane reports at marker lock: the lane number and the WIDTH of its marker, its polarity, skew and
signal-to-noise ratio, and whether the partner's training frames on it say that the partner holds lock too (R203, R204,
R225). -/
structure MarkerIn where
  lane : BitVec 2
  logical : BitVec 2
  width : BitVec 4
  lpLock : Bool
  polInv : Bool
  skewPs : Nat
  snr : Nat
  deriving DecidableEq, Repr

/-- A completion entry (spec/03, CQ entry). -/
structure CqEntry where
  tag : Nat
  status : Nat
  late : Bool
  effLen : Nat
  sqHead : Nat
  fetchTime : Nat
  doneTime : Nat
  deriving DecidableEq, Repr

/-- An event record: the 24-byte header and its data bytes (spec/03, EQ record header). A record of 41 to 64 data
bytes stands as one record here and is written as two entries (R94). -/
structure EqRecord where
  tea : Nat
  kind : Nat
  tq : Nat
  late : Bool
  coalesced : Bool
  seq : Nat
  capture : Nat
  delivery : Nat
  data : List Byte
  deriving DecidableEq, Repr

/-- A late-fault record (R92). -/
structure FqRecord where
  tag : Nat
  cause : Nat
  originPf1 : Bool
  copy : Bool
  opcode : Nat
  sq : Nat
  tea : Nat
  finalStatus : Nat
  submitTime : Nat
  failTime : Nat
  count : Nat
  deriving DecidableEq, Repr

/-- The upstream parameter set of R221, as words of the root's LNK registers. -/
structure UpParams where
  cfg : Word
  vcWeight : Word
  hold : Word
  orphan : Word
  asym : Word
  deriving DecidableEq, Repr

/-- The partner's LID body as far as the hub uses it (R217). -/
structure LidBody where
  identity : BitVec 64
  cls : Nat
  lifecycle : Nat
  port : BitVec 4
  width : BitVec 4
  deriving DecidableEq, Repr

/-- The verdicts on the partner's LAUTH, and the first 16 bytes of SHA-384 over its key (R217, R232, R372). -/
structure LauthBody where
  sigOk : Bool
  certOk : Bool
  edgeInput : Bool
  keyFp : BitVec 128
  deriving DecidableEq, Repr

/-- TIME_SYNC (R220). -/
structure SyncMsg where
  t1 : Nat
  frac1 : Nat
  frame : Nat
  boundary : Nat
  downPs : Int
  tq : BitVec 8
  deriving DecidableEq, Repr

/-- TIME_REPLY (R220). -/
structure ReplyMsg where
  t3 : Nat
  frac3 : Nat
  t2 : Nat
  frac2 : Nat
  deriving DecidableEq, Repr

/-- Bits of one copy of a triplicated register turned over since the last scrub (R58). -/
structure Upset where
  addr : BitVec 24
  copy : BitVec 2
  flip : Word
  deriving DecidableEq, Repr

/-- The SRAM regions (R396, FOL_POISON.REGION). -/
inductive SramRegion where
  | contexts | pool | linkQueues | bookmark | gustRules | serviceCore | management | tables
  deriving DecidableEq, Repr

/-- The tests of a breaker (R296). -/
inductive TripTest where
  | curve | inrush | instant
  deriving DecidableEq, Repr

/-- How a service core fails (R259). -/
inductive CoreFault where
  | heartbeat | ecc | trap
  deriving DecidableEq, Repr

/-- How a segment engine fails by itself (R257). -/
inductive EngineFault where
  | selfCheck | lateStart | ecc
  deriving DecidableEq, Repr

/-- A watch sample polled in Lull (R318). -/
structure WatchSample where
  tea : BitVec 24
  bytes : List Byte
  deriving DecidableEq, Repr

/-- Which host access failed (R102, R250). -/
inductive DmaWhere where
  | ring (idx : BitVec 11) (addr : BitVec 64)
  | doorbells (addr : BitVec 64)
  | reserve (addr : BitVec 64)
  deriving DecidableEq, Repr

/-- A PD message as received: its header and data bytes (R336). -/
structure PdBlock where
  header : BitVec 16
  data : List Byte
  deriving DecidableEq, Repr

/-- How a flash operation ended: its bank, its length in µs, the most corrected bits in one word at the verify, and
whether an erased sector verified blank (R350, R353). -/
structure FlashResult where
  bank : BitVec 2
  us : Nat
  worst : Nat
  blank : Bool
  deriving DecidableEq, Repr

/-- A PD_MSG_SEND descriptor, and how many of the message's transmissions meet no GoodCRC (R331, R335). -/
structure PdSendIn where
  entry : SqEntry
  misses : BitVec 2
  deriving DecidableEq, Repr

/-- What the hub reads of the other function's rings at a takeover: the unfetched entries of its SQs, and the doorbell
slots of its CQs, EQs and FQ (R106). -/
structure OtherRings where
  left : List Unfetched
  heads : List Doorbell
  deriving DecidableEq, Repr

/-- What one doorbell sweep reads: the summary words that are not 0, and the slots of their bits (R76). -/
structure SweepIn where
  words : List SummaryWord
  slots : List Doorbell
  deriving DecidableEq, Repr

/-- A partner on a link, and the rates that its module supports, bit r - 1 for rate r (R197, R198). -/
structure PresenceIn where
  link : BitVec 5
  rates : BitVec 4
  deriving DecidableEq, Repr

/-- A descriptor in a DESC message, and for a Gale command its age in ns at its arrival (R82, R216). -/
structure DescBody where
  entry : SqEntry
  age : Option Nat
  deriving DecidableEq, Repr

/-- A completion in a CPL message, and the data for the host's buffer (R216). -/
structure CplBody where
  entry : CqEntry
  bytes : List Byte
  deriving DecidableEq, Repr

/-- The USB host configures the maintenance function at an instant, at high speed or at full speed (R342). -/
structure Configured where
  instant : Nat
  highSpeed : Bool
  deriving DecidableEq, Repr

/-- The commands, in the order of spec/opcode_table.json. -/
inductive Instr where
  | nop (t : Nat) (d : SqEntry)
  | writeEp (t : Nat) (d : SqEntry)
  | writeEpConfirmed (t : Nat) (d : SqEntry)
  | readEp (t : Nat) (d : SqEntry)
  | configEp (t : Nat) (d : SqEntry)
  | configEpQuery (t : Nat) (d : SqEntry)
  | controlXfer (t : Nat) (d : SqEntry)
  | regAccessRead (t : Nat) (d : SqEntry)
  | regAccessWrite (t : Nat) (d : SqEntry)
  | bulkXferOut (t : Nat) (d : SqEntry)
  | bulkXferIn (t : Nat) (d : SqEntry)
  | streamXferIn (t : Nat) (d : SqEntry)
  | streamXferOut (t : Nat) (d : SqEntry)
  | shelfDefine (t : Nat) (d : SqEntry)
  | shelfDelete (t : Nat) (d : SqEntry)
  | shelfQuery (t : Nat) (d : SqEntry)
  | placeHintClear (t : Nat) (d : SqEntry)
  | pinRing (t : Nat) (d : SqEntry)
  | pinStacks (t : Nat) (d : SqEntry)
  | affinity (t : Nat) (d : SqEntry)
  | preferReserve (t : Nat) (d : SqEntry)
  | gustLoad (t : Nat) (d : SqEntry)
  | gustEnable (t : Nat) (d : SqEntry)
  | gustDisable (t : Nat) (d : SqEntry)
  | segPowerOff (t : Nat) (d : SqEntry)
  | segPowerOn (t : Nat) (d : SqEntry)
  | segPowerQuery (t : Nat) (d : SqEntry)
  | segStateDisable (t : Nat) (d : SqEntry)
  | segStateEnable (t : Nat) (d : SqEntry)
  | segStateSuspend (t : Nat) (d : SqEntry)
  | segStateResume (t : Nat) (d : SqEntry)
  | segStateSetGen (t : Nat) (d : SqEntry)
  | approve (t : Nat) (d : SqEntry)
  | deny (t : Nat) (d : SqEntry)
  | forget (t : Nat) (d : SqEntry)
  | nodePolicy (t : Nat) (d : SqEntry)
  | pinKey (t : Nat) (d : SqEntry)
  | nodeFwDistribute (t : Nat) (d : SqEntry)
  | distAbort (t : Nat) (d : SqEntry)
  | distQuery (t : Nat) (d : SqEntry)
  | timeSet (t : Nat) (d : SqEntry)
  | timeAdj (t : Nat) (d : SqEntry)
  | imageManifest (t : Nat) (d : SqEntry) (keyOk sigOk : Bool)
  | imagePiece (t : Nat) (d : SqEntry) (tagOk : Bool)
  | imageAbandon (t : Nat) (d : SqEntry)
  | imageScheduleArm (t : Nat) (d : SqEntry) (hubs : List HubReport)
  | imageScheduleCancel (t : Nat) (d : SqEntry)
  | imageStatus (t : Nat) (d : SqEntry)
  | folioRead (t : Nat) (d : SqEntry)
  | censusTake (t : Nat) (d : SqEntry)
  | pdMsgSend (t : Nat) (d : PdSendIn)
  | leaseRenew (t : Nat) (d : SqEntry)
  | roleTake (t : Nat) (d : SqEntry) (other : OtherRings)
  | unknownOpcode (t : Nat) (d : SqEntry) (opcode : Byte)
  | registerWrite (t : Nat) (a : Access)
  | lowerWordRead (t : Nat) (a : Access)
  | rcFieldRead (t : Nat) (a : Access)
  | glbFrameRead (t : Nat) (a : Access)
  | cenWindowRead (t : Nat) (a : Access)
  | glbCensusTake (t : Nat) (ini : Initiator)
  | warmReset (t : Nat) (ini : Initiator) (v : Word) (b : BootIn)
  | protHoldRelease (t : Nat) (ini : Initiator) (v : Word)
  | ringEnable (t : Nat) (fn : Fn) (ring : BitVec 11) (ctx : CtxIn)
  | ringDisable (t : Nat) (fn : Fn) (ring : BitVec 11)
  | kick (t : Nat) (fn : Fn) (slots : List Doorbell)
  | bar4Access (t : Nat) (ini : Initiator) (addr : BitVec 20) (isWrite : Bool)
  | secLock (t : Nat) (ini : Initiator)
  | hostApprove (t : Nat) (ini : Initiator)
  | healthConfirm (t : Nat) (ini : Initiator)
  | nvmCmdErase (t : Nat) (ini : Initiator) (v : Word)
  | nvmCmdBlankCheck (t : Nat) (ini : Initiator) (v : Word) (blank : Bool)
  | nvmCmdVerify (t : Nat) (ini : Initiator) (v : Word) (worst : BitVec 2)
  | nvmScan (t : Nat) (ini : Initiator)
  | spwStore (t : Nat) (ini : Initiator)
  | spwCtrlOnWrite (t : Nat) (ini : Initiator) (port : Nat) (v : Word)
  | lnkEnable (t : Nat) (ini : Initiator) (link : BitVec 4)
  | lnkDisable (t : Nat) (ini : Initiator) (link : BitVec 4)
  | rateUp (t : Nat) (ini : Initiator) (link : BitVec 4)
  | rateDown (t : Nat) (ini : Initiator) (link : BitVec 4)
  | retrain (t : Nat) (ini : Initiator) (link : BitVec 4)
  | lnkPolicyApprove (t : Nat) (ini : Initiator) (link : BitVec 4)
  | lnkPolicyDeny (t : Nat) (ini : Initiator) (link : BitVec 4)
  | libEngineMove (t : Nat) (ini : Initiator) (v : Word)
  | vacatedClear (t : Nat) (ini : Initiator) (v : Word)
  | rsvFaultClear (t : Nat) (ini : Initiator) (v : Word)
  | pwrTargetA0 (t : Nat) (ini : Initiator) (v : Word)
  | pwrTargetA1 (t : Nat) (ini : Initiator) (v : Word)
  | pwrTargetLull (t : Nat) (ini : Initiator) (v : Word)
  | pwrTargetVault (t : Nat) (ini : Initiator) (v : Word)
  | watchStore (t : Nat) (ini : Initiator) (v : Word)
  | watchLoad (t : Nat) (ini : Initiator) (v : Word)
  | sealTest (t : Nat) (ini : Initiator)
  | flush (t : Nat) (ini : Initiator)
  | folioErase (t : Nat) (ini : Initiator) (v : Word)
  | disconnect (t : Nat) (ini : Initiator)
  | pdPolicyWrite (t : Nat) (ini : Initiator) (v : Word)
  | identify (t : Nat) (c : MaintCmd)
  | regRead (t : Nat) (c : MaintCmd)
  | regWrite (t : Nat) (c : MaintCmd)
  | maintFolioRead (t : Nat) (c : MaintCmd)
  | maintImagePiece (t : Nat) (c : MaintCmd) (tagOk : Bool)
  | maintImageStatus (t : Nat) (c : MaintCmd)
  | restart (t : Nat) (c : MaintCmd) (b : BootIn)
  | maintUnknownOp (t : Nat) (c : MaintCmd) (op : Byte)
  | frameBoundary (t : Nat)
  | gustSlotBoundary (t : Nat)
  | epochBoundary (t : Nat)
  | doorbellSweep (t : Nat) (fn : Fn) (d : SweepIn)
  | voteScrub (t : Nat) (upsets : List Upset)
  | parityFault (t : Nat) (addr : BitVec 24) (threeWay : Bool)
  | sramPatrolScrub (t : Nat) (corrected : List Nat)
  | sramUncorrectable (t : Nat) (region : SramRegion) (page off : Nat) (items : List Nat)
  | leaseExpiry (t : Nat)
  | orphanStartTimeout (t : Nat)
  | interruptModerationTimeout (t : Nat) (fn : Fn) (ring : BitVec 11)
  | nodeKeepalive (t : Nat) (port : Nat) (node : Byte)
  | discoverSweep (t : Nat) (port : Nat)
  | discoverRepeat (t : Nat) (port : Nat)
  | replyWindowExpiry (t : Nat) (port : Nat)
  | controlTimeout (t : Nat) (port : Nat) (node : Byte)
  | bulkNakTimeout (t : Nat) (port : Nat)
  | resumeEnd (t : Nat) (port : Nat)
  | cov (t : Nat) (port : Nat) (f : RxFrame)
  | data (t : Nat) (port : Nat) (f : RxFrame) (authOk keyEdge sigEdge : Bool)
  | ack (t : Nat) (port : Nat) (f : RxFrame)
  | nyet (t : Nat) (port : Nat) (f : RxFrame)
  | nak (t : Nat) (port : Nat) (f : RxFrame)
  | stall (t : Nat) (port : Nat) (f : RxFrame)
  | hello (t : Nat) (port : Nat) (slot : BitVec 4) (f : RxFrame)
  | foreignFrame (t : Nat) (port : Nat)
  | currentStep (t : Nat) (port : Nat)
  | currentDrop (t : Nat) (port : Nat)
  | remoteWake (t : Nat) (port : Nat)
  | lineFault (t : Nat) (port : Nat)
  | linkPresence (t : Nat) (p : PresenceIn)
  | autonegComplete (t : Nat) (link : BitVec 5) (lp : Byte)
  | c2mRateTrialTimeout (t : Nat) (link : BitVec 5)
  | trainingComplete (t : Nat) (link : BitVec 5) (txeq : List Word)
  | trainingTimeout (t : Nat) (link : BitVec 5)
  | markerLock (t : Nat) (link : BitVec 5) (m : MarkerIn)
  | noPartnerTimeout (t : Nat) (link : BitVec 5)
  | laneFail (t : Nat) (link : BitVec 5) (lane : BitVec 2) (los : Bool)
  | laneRejoinAttempt (t : Nat) (link : BitVec 5)
  | replayTimeout (t : Nat) (link : BitVec 5)
  | noFlitsTimeout (t : Nat) (link : BitVec 5)
  | presenceLost (t : Nat) (link : BitVec 5)
  | rateChangeTimeout (t : Nat) (link : BitVec 5)
  | linkHoldTimeout (t : Nat) (link : BitVec 4) (fn : Fn) (sq : BitVec 8) (tag : Word)
  | cplHoldExpiry (t : Nat) (link : BitVec 4)
  | goodbyeDrainEnd (t : Nat) (link : BitVec 5)
  | llctlNak (t : Nat) (link : BitVec 5) (seq : BitVec 12)
  | creditInit (t : Nat) (link : BitVec 5) (c0 c1 c2 c3 : BitVec 12)
  | rateStep (t : Nat) (link : BitVec 5) (rate : BitVec 3) (marker : Word)
  | laneDrop (t : Nat) (link : BitVec 5) (lanes : BitVec 4)
  | laneRejoin (t : Nat) (link : BitVec 5) (lanes : BitVec 4) (marker : Word)
  | goodbye (t : Nat) (link : BitVec 5) (cause : Byte)
  | desc (t : Nat) (opcode : Byte) (d : DescBody) (ok : Bool)
  | cpl (t : Nat) (link : BitVec 4) (fn : Fn) (sq : BitVec 8) (b : CplBody)
  | record (t : Nat) (link : BitVec 4) (gen : BitVec 2) (rs : List EqRecord)
  | fault (t : Nat) (link : BitVec 4) (fn : Fn) (r : FqRecord)
  | gustSense (t : Nat) (link : BitVec 4) (tea : BitVec 24) (cap : Nat) (bytes : List Byte)
  | gustAct (t : Nat) (tea : BitVec 24) (ra : BitVec 21) (gale : Bool) (cap : Nat) (bytesMask : Byte) (bytes : List Byte)
  | gustSubscribe (t : Nat) (tea : BitVec 24) (gale : Bool)
  | gustUnsubscribe (t : Nat) (tea : BitVec 24)
  | gustDeposit (t : Nat) (ra : BitVec 21) (rule : BitVec 256)
  | gustWithdraw (t : Nat) (ra : BitVec 21)
  | gustResult (t : Nat) (link : BitVec 4) (tea : BitVec 24) (ra : BitVec 21) (outcome : Byte) (at_ : Nat)
  | config (t : Nat) (p : UpParams)
  | lid (t : Nat) (link : BitVec 5) (b : LidBody)
  | lauth (t : Nat) (link : BitVec 5) (b : LauthBody)
  | role (t : Nat) (hub : BitVec 5) (frame : Word) (ftime : Nat) (p : UpParams)
  | roleAck (t : Nat) (link : BitVec 4) (accepted : Bool)
  | timeSyncSend (t : Nat) (link : BitVec 4)
  | timeSync (t : Nat) (m : SyncMsg)
  | timeReply (t : Nat) (link : BitVec 4) (m : ReplyMsg)
  | timeSyncLoss (t : Nat)
  | vfpMessage (t : Nat) (link : BitVec 4) (f : RxFrame)
  | stream (t : Nat) (link : BitVec 4) (tag : BitVec 16) (ep : BitVec 5) (bytes : List Byte)
  | streamAck (t : Nat) (link : BitVec 4) (tag : BitVec 16) (stalled : Bool)
  | grantTimeout (t : Nat) (link : BitVec 4) (tag : BitVec 16)
  | streamAckTimeout (t : Nat) (link : BitVec 4) (tag : BitVec 16)
  | ptmExchange (t : Nat) (fn : Fn) (offset : Option Int)
  | ppsInEdge (t : Nat) (falling : Bool)
  | ppsLoss (t : Nat)
  | zdaSentence (t : Nat) (utc : Nat) (checksumOk : Bool) (sincePulseMs : Nat)
  | holdoverExpiry (t : Nat)
  | slewComplete (t : Nat)
  | ppsOutPulse (t : Nat)
  | timeRefLoss (t : Nat)
  | timeRefRestore (t : Nat)
  | refclkSysLoss (t : Nat)
  | refclkSysRestore (t : Nat) (b : BootIn)
  | confirmWindowExpiry (t : Nat) (b : BootIn)
  | activating (t : Nat)
  | scheduledActivation (t : Nat) (b : BootIn)
  | backoffExpiry (t : Nat) (port : Nat)
  | retryCountReset (t : Nat) (port : Nat)
  | rampComplete (t : Nat) (port : Nat)
  | breakerTrip (t : Nat) (port : Nat) (test : TripTest) (point : BitVec 3)
  | openSenseTest (t : Nat) (bank : Nat) (shifts : List Int)
  | squallLatch (t : Nat)
  | squallShed (t : Nat)
  | sealComplete (t : Nat)
  | squallRecovery (t : Nat)
  | watchCycle (t : Nat) (bank : Nat) (samples : List WatchSample)
  | thermalReading (t : Nat) (temps : List Int)
  | thermalAutoRestart (t : Nat) (b : BootIn)
  | vaultTimerExpiry (t : Nat) (b : BootIn)
  | domainWakeStepTimeout (t : Nat) (dom : BitVec 4) (wakeStep : BitVec 2)
  | serviceCoreFailure (t : Nat) (core : BitVec 3) (cause : CoreFault) (b : BootIn)
  | engineFailure (t : Nat) (port : Nat) (cause : EngineFault)
  | lockstepMismatch (t : Nat) (b : BootIn)
  | watchdogExpiry (t : Nat) (b : BootIn)
  | bootSyncComplete (t : Nat)
  | censusCopyComplete (t : Nat)
  | folioProgram (t : Nat)
  | folioEraseAheadDone (t : Nat)
  | hostDmaError (t : Nat) (fn : Fn) (w : DmaWhere)
  | atomicFail (t : Nat) (fn : Fn)
  | busMasterEnable (t : Nat) (fn : Fn) (slots : List Doorbell)
  | powerOnReset (t : Nat) (b : BootIn)
  | perst (t : Nat) (b : BootIn)
  | singlePerst (t : Nat) (fn : Fn)
  | typecAttach (t : Nat) (source : Bool) (orient : Bool) (rp : BitVec 2) (b : BootIn)
  | typecDetach (t : Nat)
  | pdMessage (t : Nat) (m : PdBlock)
  | hardReset (t : Nat)
  | senderResponseTimeout (t : Nat)
  | hostResponseTimeout (t : Nat)
  | errorRecoveryEnd (t : Nat)
  | frsVbusCheck (t : Nat) (mv : BitVec 16)
  | vbusRemoved (t : Nat) (b : BootIn)
  | deadBatteryStart (t : Nat)
  | flitReceived (t : Nat) (link : BitVec 5) (f : Flit)
  | flashOperationComplete (t : Nat) (r : FlashResult)
  | nvmScrubScan (t : Nat)
  | nvmScanEnd (t : Nat) (words : Nat)
  | trngHealthFailure (t : Nat) (adaptive : Bool)
  | trngRecovery (t : Nat)
  | powerTransitionComplete (t : Nat)
  | calibrationComplete (t : Nat) (link : BitVec 5)
  | pcieLinkUp (t : Nat) (fn : Fn) (width : BitVec 5) (speed : BitVec 4)
  | perstNRelease (t : Nat) (fn : Fn) (b : BootIn)
  | busMasterEnableClear (t : Nat) (fn : Fn)
  | atomicopRequesterEnable (t : Nat) (fn : Fn) (on : Bool)
  | msixUnmask (t : Nat) (fn : Fn) (vec : BitVec 11)
  | hostTlpInLull (t : Nat) (fn : Fn)
  | aoRailChange (t : Nat) (present : Bool)
  | senseSample (t : Nat) (port : Nat) (ma10 : BitVec 12)
  | softStartEnd (t : Nat) (port : Nat)
  | ppsOutFall (t : Nat)
  | lineFaultEnd (t : Nat) (port : Nat)
  | maintConfigured (c : Configured)
  deriving DecidableEq, Repr

end Sys2Proof
end

