-- ==== Sys2Proof/Machine/Bits.lean ====
section
/-! DEFINITION. Bit fields, byte order and list helpers shared by the whole machine (R3, R4, R5). -/
namespace Sys2Proof.Machine

/-- A field of a word: its lowest bit and its width. -/
structure BitRange where
  lo : Nat
  width : Nat
  deriving DecidableEq, Repr

/-- The value of a field of a number. -/
def bitsOf (v lo width : Nat) : Nat := (v >>> lo) % 2 ^ width

/-- One bit of a number. -/
def bitOf (v i : Nat) : Bool := bitsOf v i 1 == 1

/-- Replace a field of a number; the new value is cut to the field's width. -/
def setBits (v lo width x : Nat) : Nat :=
  v - bitsOf v lo width * 2 ^ lo + (x % 2 ^ width) * 2 ^ lo

/-- The value of a field of a word. -/
def getField (w : Word) (f : BitRange) : Nat := bitsOf w.toNat f.lo f.width

/-- A word with one field replaced. -/
def putField (w : Word) (f : BitRange) (x : Nat) : Word := BitVec.ofNat 32 (setBits w.toNat f.lo f.width x)

/-- The mask of a field. -/
def fieldMask (f : BitRange) : Word := BitVec.ofNat 32 ((2 ^ f.width - 1) * 2 ^ f.lo)

/-- The i-th byte of a list, 0 beyond its end. -/
def byteAt (bs : List Byte) (i : Nat) : Nat := (bs.getD i 0).toNat

/-- n bytes from offset i, little-endian (R3). -/
def leAt (bs : List Byte) (i : Nat) : Nat → Nat
  | 0 => 0
  | n + 1 => byteAt bs i + 256 * leAt bs (i + 1) n

/-- n bytes from offset i, most significant first (R4). -/
def beAt (bs : List Byte) (i n : Nat) : Nat :=
  (List.range n).foldl (fun a k => a * 256 + byteAt bs (i + k)) 0

/-- A number as n little-endian bytes (R3). -/
def leBytes : Nat → Nat → List Byte
  | 0, _ => []
  | n + 1, v => BitVec.ofNat 8 v :: leBytes n (v / 256)

/-- A number as n bytes, most significant first (R4). -/
def beBytes (n v : Nat) : List Byte := (leBytes n v).reverse

/-- A list cut or zero-filled to a length. -/
def fitBytes (n : Nat) (bs : List Byte) : List Byte := bs.take n ++ List.replicate (n - bs.length) 0

/-- Bool as a bit. -/
def b2n (b : Bool) : Nat := if b then 1 else 0

/-- Clamp a number to a range. -/
def clampNat (lo hi v : Nat) : Nat := if v < lo then lo else if hi < v then hi else v

/-- The numbers below 256 whose bit is set in a mask, rising. -/
def bitList (n v : Nat) : List Nat := (List.range n).filter fun i => bitOf v i

/-- A two's complement reading of the low n bits. -/
def toSigned (n v : Nat) : Int :=
  let x := v % 2 ^ n
  if n ≠ 0 ∧ 2 ^ (n - 1) ≤ x then (x : Int) - 2 ^ n else x

/-- The low n bits of an integer in two's complement. -/
def ofSigned (n : Nat) (i : Int) : Nat := (i % (2 ^ n : Int)).toNat

/-- An integer held to the signed range of n bits. -/
def satSigned (n : Nat) (i : Int) : Int :=
  let m : Int := 2 ^ (n - 1)
  if i < -m then -m else if m - 1 < i then m - 1 else i

/-- Saturate a count at n bits. -/
def satNat (n v : Nat) : Nat := if 2 ^ n ≤ v then 2 ^ n - 1 else v

/-- Division rounded up. -/
def ceilDiv (a b : Nat) : Nat := (a + b - 1) / b

/-- The i-th element replaced, when there is one. -/
def listSet {α : Type} (l : List α) (i : Nat) (v : α) : List α := l.set i v

/-- Is a number a member. -/
def memNat (l : List Nat) (n : Nat) : Bool := l.any (· == n)

/-- Remove a number. -/
def dropNat (l : List Nat) (n : Nat) : List Nat := l.filter (· != n)

/-- Add a number at the end when it is not there yet. -/
def addNat (l : List Nat) (n : Nat) : List Nat := if memNat l n then l else l ++ [n]

/-- A bitmap of numbers, bit n for member n. -/
def bitmapOf (l : List Nat) : Nat := l.foldl (fun a n => if bitOf a n then a else a + 2 ^ n) 0

/-- Insertion sort by a strict order given as a test. -/
def insertBy {α : Type} (lt : α → α → Bool) (x : α) : List α → List α
  | [] => [x]
  | y :: r => if lt y x then y :: insertBy lt x r else x :: y :: r

/-- A stable sort. -/
def sortBy {α : Type} (lt : α → α → Bool) (l : List α) : List α := l.foldr (insertBy lt) []

end Sys2Proof.Machine
end

