-- ==== Sys2Proof/Machine/Crc.lean ====
section
/-! DEFINITION. Checksums of frames and flits (R110, R111, R207). -/
namespace Sys2Proof.Machine

/-- One step of a reflected CRC register. -/
def crcReflBit (poly c : Nat) : Nat := if c % 2 = 1 then (c / 2) ^^^ poly else c / 2

/-- One byte into a reflected CRC register. -/
def crcReflByte (poly c : Nat) (b : Byte) : Nat :=
  (List.range 8).foldl (fun c _ => crcReflBit poly c) (c ^^^ b.toNat)

/-- CRC-64 with polynomial 0x42F0_E1EB_A9EA_3693, reflected, initial value and final XOR all ones (R207). -/
def crc64 (bs : List Byte) : Nat :=
  (bs.foldl (crcReflByte 0xC96C5795D7870F42) 0xFFFFFFFFFFFFFFFF) ^^^ 0xFFFFFFFFFFFFFFFF

/-- CRC-32C, reflected, initial value and final XOR all ones. -/
def crc32c (bs : List Byte) : Nat := (bs.foldl (crcReflByte 0x82F63B78) 0xFFFFFFFF) ^^^ 0xFFFFFFFF

/-- One step of the header CRC register, most significant bit first. -/
def crc8Bit (c : Nat) : Nat := if 128 ≤ c then ((c * 2) % 256) ^^^ 0x2F else c * 2

/-- One byte into the header CRC register. -/
def crc8Byte (c : Nat) (b : Byte) : Nat := (List.range 8).foldl (fun c _ => crc8Bit c) (c ^^^ b.toNat)

end Sys2Proof.Machine
end

