-- ==== Sys2Proof/Config.lean ====
section
/-! DEFINITION. Configuration and free values: constants without a body, which nothing in Lean can evaluate. Each
stands for a value the spec leaves open; a statement that reads one holds for every value of it. The counter that is
their argument is State.freeCtr (the model's own field). -/
namespace Sys2Proof.Config

/-- The n-th 16-byte nonce of the TRNG (R151, R217, R373) (DESIGN CHOICE, log entry 10). -/
opaque nonce : Nat → BitVec 128

/-- The n-th ephemeral P-256 public key, X then Y (R151, R217) (DESIGN CHOICE, log entry 10). -/
opaque ephKey : Nat → BitVec 512

/-- The session key K of the n-th challenge with the static key of a node and its identity: the first 32 bytes of SHA-384
over the ECDH secret, the nonce and the identity (R152) (DESIGN CHOICE, log entry 10). -/
opaque sessionKey : Nat → BitVec 512 → BitVec 64 → BitVec 256

/-- The first 8 bytes of an AES-256-GCM tag of a key, an IV and the authenticated data, with empty plaintext (R152)
(DESIGN CHOICE, log entry 10). -/
opaque gcmTag : BitVec 256 → List Byte → List Byte → BitVec 64

/-- Bytes of a cut-through frame that went out before one was missing; none when every byte was present when due: the
spec gives no rate at which the fabric fills the queue (R189) (DESIGN CHOICE, log entry 24). -/
opaque underrunAt : Nat → Option Nat

/-- The signature, r then s, of the n-th LAUTH the hub sends (R217) (DESIGN CHOICE, log entry 10). -/
opaque lauthSig : Nat → BitVec 512

/-- The family's signature over IDENTITY and key of a Provisioned part, r then s: each part has its own (R217) (DESIGN
CHOICE, log entry 10). -/
opaque cert : BitVec 768

/-- The first 16 bytes of SHA-384 over a 64-byte public key (R151, R372): cryptography is not computed in the model
(DESIGN CHOICE, log entry 10). -/
opaque keyFp : Nat → BitVec 128

/-- Time of the n-th Gust evaluation in ns (R267). -/
opaque evalNs : Nat → BitVec 13

/-- Length of the n-th seal in µs (R383). -/
opaque sealUs : Nat → BitVec 12

/-- Length of the n-th domain wake in µs (PWR_DOM.WAKE_US). -/
opaque wakeUs : Nat → BitVec 12

/-- Busy share of a service core over the n-th epoch (LIB_CORE.LOAD_PCT). -/
opaque loadPct : Nat → BitVec 7

/-- The management core's program counter at an unplanned restart, 0 when not captured (R379). -/
opaque mgmtPc : Nat → BitVec 64

/-- CAUSE byte of the n-th GOODBYE the hub sends: the LLCTL table gives no code (R208) (DEDUCED, log entry 78). -/
opaque goodbyeCause : Nat → BitVec 8

/-- Marker index of the n-th RATE_STEP or LANE_REJOIN the hub sends, counted by the receiver of the lane (R208). -/
opaque stepMarker : Nat → BitVec 32

/-- Length in µs of the n-th erase whose end was reported without it (R376) (DESIGN CHOICE, log entry 45). -/
opaque eraseUs : Nat → BitVec 17

/-- VALUE of the n-th maintenance response: the commands table gives none (R343) (DESIGN CHOICE, log entry 14). -/
opaque maintValue : Nat → BitVec 32

/-- Does the check of a register still fail after the n-th reload from its source (R59) (DESIGN CHOICE, log entry 66). -/
opaque reloadFails : Nat → BitVec 1

/-- What the n-th start finds that a command without that operand brings about (a register write, a poisoned page):
straps, checks of volumes and regions, failing engines and cores (R359, R395) (DESIGN CHOICE, log entry 11). -/
opaque bootFound : Nat → BootIn

/-- Bytes 0 to 31 of the ring context that a write to HIF_RING_ENABLE through a plain register access makes the hub
read (R72) (DESIGN CHOICE, log entry 11). -/
opaque ctxFound : Nat → CtxIn

/-- TAG in bits 31 to 0 and QUIET in bit 32 of the n-th unfetched entry that a ROLE_TAKE does not list (R106) (DESIGN CHOICE,
log entry 11). -/
opaque entryFound : Nat → BitVec 33

/-- What the n-th VERIFY or BLANK_CHECK of NVM_CMD finds when a plain register access commands it (R352) (DESIGN
CHOICE, log entry 11). -/
opaque checkFound : Nat → BitVec 2

/-- What the n-th secure read of the debug SRAM window returns: the spec gives no contents (R62) (DESIGN CHOICE, log
entry 13). -/
opaque debugWord : Nat → BitVec 64

end Sys2Proof.Config
end

