-- ==== Sys2Proof/Machine/RegMap.lean ====
section
/-! DEFINITION. The register map of BAR0, from the field tables of spec/ and the block map of R67: for every register
its place, its reset word and its fields with access type, suffixes /S and /T, the boundary at which a write applies
and the silent clamp of R53. Field resets that the tables word otherwise (OTP, Ledger, Image, Strap, Scan) stand as 0
here; Ops.resetWord names the model's values. -/
namespace Sys2Proof.Machine

/-- Access types (R45). -/
inductive Acc where
  | rw | ro | w1c | w1s | wo | rc
  deriving DecidableEq, Repr

/-- Boundaries at which a written value applies (R47, R48, R50). -/
inductive Applies where
  | imm | slot | frame | epoch | boot
  deriving DecidableEq, Repr

/-- Silent clamps (R53): none; to a range; keep the previous value below or above a code; low bits read 0. -/
inductive Clamp where
  | none
  | range (lo hi : Nat)
  | keepBelow (n : Nat)
  | keepAbove (n : Nat)
  | alignLow (bits : Nat)
  deriving DecidableEq, Repr

/-- One field of a register. -/
structure FieldDef where
  lo : Nat
  width : Nat
  acc : Acc
  sec : Bool
  trip : Bool
  ap : Applies
  clamp : Clamp
  deriving DecidableEq, Repr

/-- One register, or an array of n registers a stride apart. -/
structure RegDef where
  off : Nat
  n : Nat
  stride : Nat
  reset : Nat
  fields : List FieldDef
  deriving DecidableEq, Repr

/-- One block of BAR0 (R67): base, instances, stride between them, its bit in the block-bit table of R59. -/
structure BlockDef where
  base : Nat
  inst : Nat
  stride : Nat
  bit : Nat
  regs : List RegDef
  deriving DecidableEq, Repr

/-- Registers of block CEN. -/
def Reg.tableCEN : List RegDef := [
  ⟨0x0, 600, 0x4, 0x0, [⟨0, 32, .ro, false, false, .imm, .none⟩]⟩]

/-- Registers of block GLB. -/
def Reg.tableGLB : List RegDef := [
  ⟨0x0, 1, 0x4, 0x51120100, [⟨16, 16, .ro, false, false, .imm, .none⟩, ⟨8, 8, .ro, false, false, .imm, .none⟩]⟩,
  ⟨0x4, 1, 0x4, 0x0, [⟨11, 5, .ro, false, false, .imm, .none⟩, ⟨8, 3, .ro, false, false, .imm, .none⟩, ⟨0, 2, .ro, false, true, .imm, .none⟩]⟩,
  ⟨0x8, 1, 0x4, 0x2, [⟨0, 2, .rw, true, true, .boot, .none⟩]⟩,
  ⟨0xC, 1, 0x4, 0x2, [⟨10, 1, .w1c, false, false, .imm, .none⟩, ⟨9, 1, .w1c, false, false, .imm, .none⟩, ⟨8, 1, .w1c, false, false, .imm, .none⟩, ⟨0, 2, .ro, false, false, .imm, .none⟩]⟩,
  ⟨0x10, 1, 0x4, 0x0, [⟨0, 14, .w1c, false, false, .imm, .none⟩]⟩,
  ⟨0x14, 1, 0x4, 0x0, [⟨31, 1, .ro, false, false, .imm, .none⟩, ⟨0, 24, .ro, false, false, .imm, .none⟩]⟩,
  ⟨0x18, 1, 0x4, 0x0, [⟨31, 1, .ro, false, false, .imm, .none⟩, ⟨0, 24, .ro, false, false, .imm, .none⟩]⟩,
  ⟨0x1C, 1, 0x4, 0x0, [⟨17, 1, .ro, false, false, .imm, .none⟩, ⟨16, 1, .ro, false, false, .imm, .none⟩, ⟨0, 14, .ro, false, false, .imm, .none⟩]⟩,
  ⟨0x20, 1, 0x4, 0x0, [⟨16, 16, .wo, false, false, .imm, .none⟩, ⟨0, 1, .wo, false, false, .imm, .none⟩]⟩,
  ⟨0x24, 1, 0x4, 0x0, [⟨31, 1, .ro, false, false, .imm, .none⟩, ⟨1, 1, .w1c, false, false, .imm, .none⟩, ⟨0, 1, .w1s, false, false, .imm, .none⟩]⟩,
  ⟨0x28, 1, 0x4, 0x0, [⟨0, 32, .ro, false, false, .imm, .none⟩]⟩,
  ⟨0x2C, 1, 0x4, 0x0, [⟨0, 32, .ro, false, false, .imm, .none⟩]⟩,
  ⟨0x30, 1, 0x4, 0x0, [⟨0, 32, .ro, false, false, .imm, .none⟩]⟩,
  ⟨0x34, 1, 0x4, 0x0, [⟨0, 32, .ro, false, false, .imm, .none⟩]⟩,
  ⟨0x38, 1, 0x4, 0x0, [⟨20, 3, .ro, false, false, .imm, .none⟩, ⟨0, 20, .ro, false, false, .imm, .none⟩]⟩,
  ⟨0x3C, 1, 0x4, 0x0, [⟨0, 32, .ro, false, false, .imm, .none⟩]⟩,
  ⟨0x40, 1, 0x4, 0x0, [⟨0, 32, .ro, false, false, .imm, .none⟩]⟩,
  ⟨0x44, 1, 0x4, 0x1, [⟨6, 1, .ro, false, false, .imm, .none⟩, ⟨5, 1, .ro, false, false, .imm, .none⟩, ⟨4, 1, .ro, false, false, .imm, .none⟩, ⟨3, 1, .ro, false, false, .imm, .none⟩, ⟨2, 1, .ro, false, false, .imm, .none⟩, ⟨1, 1, .ro, false, false, .imm, .none⟩, ⟨0, 1, .ro, false, false, .imm, .none⟩]⟩,
  ⟨0x48, 1, 0x4, 0x0, [⟨0, 32, .ro, false, false, .imm, .none⟩]⟩,
  ⟨0x4C, 1, 0x4, 0x0, [⟨3, 1, .w1c, false, false, .imm, .none⟩, ⟨2, 1, .w1c, false, false, .imm, .none⟩, ⟨1, 1, .w1c, false, false, .imm, .none⟩, ⟨0, 1, .w1c, false, false, .imm, .none⟩]⟩,
  ⟨0x50, 1, 0x4, 0x0, [⟨16, 11, .rw, false, false, .imm, .none⟩, ⟨0, 4, .rw, false, false, .imm, .none⟩]⟩,
  ⟨0x54, 1, 0x4, 0x301008, [⟨16, 8, .ro, false, false, .imm, .none⟩, ⟨8, 8, .ro, false, false, .imm, .none⟩, ⟨0, 8, .ro, false, false, .imm, .none⟩]⟩,
  ⟨0x58, 1, 0x4, 0x0, [⟨31, 1, .ro, false, false, .imm, .none⟩, ⟨29, 2, .ro, false, false, .imm, .none⟩, ⟨28, 1, .ro, false, false, .imm, .none⟩, ⟨0, 24, .ro, false, false, .imm, .none⟩]⟩,
  ⟨0x5C, 1, 0x4, 0x0, [⟨0, 32, .ro, false, false, .imm, .none⟩]⟩,
  ⟨0x80, 16, 0x4, 0x0, [⟨0, 32, .rw, false, false, .imm, .none⟩]⟩,
  ⟨0x100, 24, 0x4, 0x0, [⟨0, 32, .ro, false, false, .imm, .none⟩]⟩]

/-- Registers of block HIF. -/
def Reg.tableHIF : List RegDef := [
  ⟨0x0, 1, 0x4, 0x0, [⟨0, 1, .rw, false, false, .imm, .none⟩]⟩,
  ⟨0x4, 1, 0x4, 0x0, [⟨31, 1, .ro, false, false, .imm, .none⟩, ⟨30, 1, .ro, false, false, .imm, .none⟩, ⟨29, 1, .ro, false, false, .imm, .none⟩, ⟨4, 5, .ro, false, false, .imm, .none⟩, ⟨0, 4, .ro, false, false, .imm, .none⟩]⟩,
  ⟨0x8, 1, 0x4, 0x0, [⟨0, 32, .rw, false, false, .imm, .alignLow 12⟩]⟩,
  ⟨0xC, 1, 0x4, 0x0, [⟨0, 32, .rw, false, false, .imm, .none⟩]⟩,
  ⟨0x10, 1, 0x4, 0x0, [⟨0, 32, .rw, false, false, .imm, .alignLow 12⟩]⟩,
  ⟨0x14, 1, 0x4, 0x0, [⟨0, 32, .rw, false, false, .imm, .none⟩]⟩,
  ⟨0x18, 1, 0x4, 0x4, [⟨0, 9, .rw, false, false, .imm, .range 1 256⟩]⟩,
  ⟨0x1C, 1, 0x4, 0x64, [⟨0, 14, .rw, false, false, .imm, .range 10 10000⟩]⟩,
  ⟨0x20, 1, 0x4, 0x0, [⟨31, 1, .ro, false, false, .imm, .none⟩, ⟨30, 1, .ro, false, false, .imm, .none⟩, ⟨29, 1, .ro, false, false, .imm, .none⟩, ⟨16, 8, .ro, false, false, .imm, .none⟩, ⟨0, 16, .ro, false, false, .imm, .none⟩]⟩,
  ⟨0x24, 1, 0x4, 0x0, [⟨0, 32, .ro, false, false, .imm, .none⟩]⟩,
  ⟨0x28, 1, 0x4, 0x200, [⟨0, 11, .rw, false, false, .imm, .range 512 1535⟩]⟩,
  ⟨0x2C, 1, 0x4, 0x0, [⟨16, 11, .ro, false, false, .imm, .none⟩, ⟨4, 1, .w1c, false, false, .imm, .none⟩, ⟨3, 1, .w1c, false, false, .imm, .none⟩, ⟨2, 1, .w1c, false, false, .imm, .none⟩, ⟨1, 1, .w1c, false, false, .imm, .none⟩, ⟨0, 1, .w1c, false, false, .imm, .none⟩]⟩,
  ⟨0x30, 1, 0x4, 0x0, [⟨0, 32, .ro, false, false, .imm, .none⟩]⟩,
  ⟨0x34, 1, 0x4, 0x0, [⟨0, 32, .ro, false, false, .imm, .none⟩]⟩,
  ⟨0x38, 1, 0x4, 0x0, [⟨16, 11, .rw, false, false, .imm, .none⟩, ⟨0, 5, .rw, false, false, .imm, .none⟩]⟩,
  ⟨0x3C, 1, 0x4, 0x0, [⟨16, 16, .ro, false, false, .imm, .none⟩, ⟨0, 11, .ro, false, false, .imm, .none⟩]⟩,
  ⟨0x40, 8, 0x4, 0x0, [⟨0, 32, .rw, false, false, .imm, .none⟩]⟩,
  ⟨0x80, 32, 0x4, 0x1, [⟨16, 16, .rw, false, false, .imm, .none⟩, ⟨0, 16, .rw, false, false, .imm, .range 1 65535⟩]⟩,
  ⟨0x100, 64, 0x4, 0x0, [⟨0, 32, .rw, false, false, .imm, .none⟩]⟩]

/-- Registers of block SEG. -/
def Reg.tableSEG : List RegDef := [
  ⟨0x0, 1, 0x4, 0x0, [⟨4, 2, .rw, false, false, .frame, .none⟩, ⟨1, 1, .rw, false, false, .frame, .none⟩, ⟨0, 1, .rw, false, false, .frame, .none⟩]⟩,
  ⟨0x4, 1, 0x4, 0x0, [⟨24, 8, .ro, false, false, .imm, .none⟩, ⟨16, 8, .ro, false, false, .imm, .none⟩, ⟨4, 1, .ro, false, false, .imm, .none⟩, ⟨3, 1, .ro, false, false, .imm, .none⟩, ⟨0, 3, .ro, false, false, .imm, .none⟩]⟩,
  ⟨0x8, 1, 0x4, 0x1F4001, [⟨8, 16, .rw, false, false, .frame, .range 500 12000⟩, ⟨0, 1, .rw, false, false, .frame, .none⟩]⟩,
  ⟨0xC, 1, 0x4, 0x920, [⟨8, 8, .rw, false, false, .frame, .range 2 255⟩, ⟨0, 8, .rw, false, false, .frame, .range 1 255⟩]⟩,
  ⟨0x10, 1, 0x4, 0x88B5, [⟨0, 16, .rw, false, false, .frame, .keepBelow 0x600⟩]⟩,
  ⟨0x14, 1, 0x4, 0x0, [⟨0, 1, .rw, false, false, .frame, .none⟩]⟩,
  ⟨0x18, 1, 0x4, 0x2000010, [⟨24, 4, .rw, false, false, .frame, .range 1 15⟩, ⟨0, 20, .rw, false, false, .frame, .none⟩]⟩,
  ⟨0x1C, 1, 0x4, 0x0, [⟨16, 16, .ro, false, false, .imm, .none⟩, ⟨0, 11, .ro, false, false, .imm, .none⟩]⟩,
  ⟨0x20, 1, 0x4, 0x100, [⟨0, 12, .rw, false, false, .frame, .range 64 2048⟩]⟩,
  ⟨0x24, 1, 0x4, 0x0, [⟨0, 17, .ro, false, false, .imm, .none⟩]⟩,
  ⟨0x28, 1, 0x4, 0x0, [⟨31, 1, .ro, false, false, .imm, .none⟩, ⟨0, 6, .ro, false, false, .imm, .none⟩]⟩,
  ⟨0x2C, 1, 0x4, 0x640000, [⟨16, 14, .ro, false, false, .imm, .none⟩, ⟨12, 1, .ro, false, false, .imm, .none⟩, ⟨8, 3, .ro, false, false, .imm, .none⟩, ⟨0, 8, .ro, false, false, .imm, .none⟩]⟩,
  ⟨0x30, 1, 0x4, 0x0, [⟨16, 16, .ro, false, false, .imm, .none⟩, ⟨8, 8, .ro, false, false, .imm, .none⟩, ⟨0, 2, .ro, false, false, .imm, .none⟩]⟩,
  ⟨0x34, 1, 0x4, 0x0, [⟨24, 8, .ro, false, false, .imm, .none⟩, ⟨16, 8, .ro, false, false, .imm, .none⟩, ⟨0, 16, .ro, false, false, .imm, .none⟩]⟩,
  ⟨0x38, 1, 0x4, 0x0, [⟨4, 1, .w1c, false, false, .imm, .none⟩, ⟨3, 1, .w1c, false, false, .imm, .none⟩, ⟨2, 1, .w1c, false, false, .imm, .none⟩, ⟨1, 1, .w1c, false, false, .imm, .none⟩, ⟨0, 1, .w1c, false, false, .imm, .none⟩]⟩,
  ⟨0x3C, 1, 0x4, 0x0, [⟨16, 11, .rw, false, false, .imm, .none⟩, ⟨0, 5, .rw, false, false, .imm, .none⟩]⟩,
  ⟨0x80, 8, 0x4, 0x0, [⟨0, 32, .ro, false, false, .imm, .none⟩]⟩,
  ⟨0xA0, 8, 0x4, 0x0, [⟨0, 32, .ro, false, false, .imm, .none⟩]⟩,
  ⟨0xC0, 8, 0x4, 0x0, [⟨0, 32, .ro, false, false, .imm, .none⟩]⟩,
  ⟨0xE0, 8, 0x4, 0x0, [⟨0, 32, .ro, false, false, .imm, .none⟩]⟩,
  ⟨0x40, 8, 0x4, 0x0, [⟨0, 32, .ro, false, false, .imm, .none⟩]⟩]

/-- Registers of block LNK. -/
def Reg.tableLNK : List RegDef := [
  ⟨0x0, 1, 0x4, 0x0, [⟨3, 1, .w1s, false, false, .imm, .none⟩, ⟨2, 1, .w1s, false, false, .imm, .none⟩, ⟨1, 1, .w1s, false, false, .imm, .none⟩, ⟨0, 1, .rw, false, true, .frame, .none⟩]⟩,
  ⟨0x4, 1, 0x4, 0x2F0, [⟨9, 1, .rw, false, false, .frame, .none⟩, ⟨8, 1, .rw, false, false, .frame, .none⟩, ⟨4, 4, .rw, false, false, .frame, .keepBelow 1⟩, ⟨0, 2, .rw, false, false, .frame, .none⟩]⟩,
  ⟨0x8, 1, 0x4, 0x0, [⟨24, 8, .ro, false, false, .imm, .none⟩, ⟨15, 1, .ro, false, false, .imm, .none⟩, ⟨14, 1, .ro, false, false, .imm, .none⟩, ⟨10, 4, .ro, false, false, .imm, .none⟩, ⟨7, 3, .ro, false, false, .imm, .none⟩, ⟨0, 4, .ro, false, false, .imm, .none⟩]⟩,
  ⟨0xC, 1, 0x4, 0x0, [⟨20, 4, .ro, false, false, .imm, .none⟩, ⟨16, 3, .ro, false, false, .imm, .none⟩, ⟨8, 8, .ro, false, false, .imm, .none⟩, ⟨0, 8, .ro, false, false, .imm, .none⟩]⟩,
  ⟨0x10, 1, 0x4, 0x0, [⟨16, 5, .ro, false, false, .imm, .none⟩, ⟨12, 4, .ro, false, false, .imm, .none⟩, ⟨8, 4, .ro, false, false, .imm, .none⟩, ⟨7, 1, .ro, false, false, .imm, .none⟩, ⟨6, 1, .ro, false, false, .imm, .none⟩, ⟨5, 1, .ro, false, false, .imm, .none⟩, ⟨0, 3, .ro, false, false, .imm, .none⟩]⟩,
  ⟨0x14, 1, 0x4, 0x0, [⟨0, 32, .ro, false, false, .imm, .none⟩]⟩,
  ⟨0x18, 1, 0x4, 0x0, [⟨0, 32, .ro, false, false, .imm, .none⟩]⟩,
  ⟨0x1C, 1, 0x4, 0x301, [⟨8, 8, .rw, false, false, .frame, .range 1 255⟩, ⟨0, 8, .rw, false, false, .frame, .range 1 255⟩]⟩,
  ⟨0x20, 4, 0x4, 0x0, [⟨16, 12, .ro, false, false, .imm, .none⟩, ⟨0, 12, .ro, false, false, .imm, .none⟩]⟩,
  ⟨0x30, 1, 0x4, 0xA, [⟨0, 14, .rw, false, false, .imm, .range 1 10000⟩]⟩,
  ⟨0x34, 1, 0x4, 0xA0040, [⟨16, 8, .rw, false, false, .imm, .range 1 255⟩, ⟨0, 9, .rw, false, false, .imm, .range 1 256⟩]⟩,
  ⟨0x38, 1, 0x4, 0x0, [⟨16, 16, .ro, false, false, .imm, .none⟩, ⟨0, 16, .ro, false, false, .imm, .none⟩]⟩,
  ⟨0x3C, 1, 0x4, 0x0, [⟨9, 1, .w1s, false, false, .imm, .none⟩, ⟨8, 1, .w1s, false, false, .imm, .none⟩, ⟨0, 2, .rw, false, false, .frame, .keepAbove 2⟩]⟩,
  ⟨0x40, 4, 0x4, 0x0, [⟨0, 32, .rw, false, false, .frame, .none⟩]⟩,
  ⟨0x50, 1, 0x4, 0x0, [⟨0, 32, .rw, false, false, .imm, .none⟩]⟩,
  ⟨0x54, 1, 0x4, 0x0, [⟨0, 32, .ro, false, false, .imm, .none⟩]⟩,
  ⟨0x58, 1, 0x4, 0x0, [⟨5, 1, .w1c, false, false, .imm, .none⟩, ⟨4, 1, .w1c, false, false, .imm, .none⟩, ⟨3, 1, .w1c, false, false, .imm, .none⟩, ⟨2, 1, .w1c, false, false, .imm, .none⟩, ⟨1, 1, .w1c, false, false, .imm, .none⟩, ⟨0, 1, .w1c, false, false, .imm, .none⟩]⟩,
  ⟨0x5C, 1, 0x4, 0x0, [⟨16, 11, .rw, false, false, .imm, .none⟩, ⟨0, 6, .rw, false, false, .imm, .none⟩]⟩,
  ⟨0xC0, 8, 0x4, 0x0, [⟨0, 32, .ro, false, false, .imm, .none⟩]⟩,
  ⟨0x100, 16, 0x4, 0x0, [⟨0, 32, .ro, false, false, .imm, .none⟩]⟩,
  ⟨0x200, 4, 0x20, 0x0, [⟨5, 2, .ro, false, false, .imm, .none⟩, ⟨4, 1, .ro, false, false, .imm, .none⟩, ⟨3, 1, .ro, false, false, .imm, .none⟩, ⟨2, 1, .ro, false, false, .imm, .none⟩, ⟨1, 1, .ro, false, false, .imm, .none⟩, ⟨0, 1, .ro, false, false, .imm, .none⟩]⟩,
  ⟨0x204, 4, 0x20, 0xF83800, [⟨24, 8, .rw, false, false, .frame, .none⟩, ⟨16, 8, .rw, false, false, .frame, .none⟩, ⟨8, 8, .rw, false, false, .frame, .none⟩, ⟨0, 8, .rw, false, false, .frame, .none⟩]⟩,
  ⟨0x208, 4, 0x20, 0x0, [⟨0, 16, .ro, false, false, .imm, .none⟩]⟩,
  ⟨0x20C, 4, 0x20, 0x0, [⟨0, 16, .ro, false, false, .imm, .none⟩]⟩,
  ⟨0x210, 4, 0x20, 0x0, [⟨0, 32, .ro, false, false, .imm, .none⟩]⟩,
  ⟨0x214, 4, 0x20, 0x0, [⟨0, 32, .ro, false, false, .imm, .none⟩]⟩,
  ⟨0x218, 4, 0x20, 0x0, [⟨0, 32, .ro, false, false, .imm, .none⟩]⟩,
  ⟨0x80, 12, 0x4, 0x0, [⟨0, 32, .ro, false, false, .imm, .none⟩]⟩]

/-- Registers of block LIB. -/
def Reg.tableLIB : List RegDef := [
  ⟨0x0, 1, 0x4, 0x3, [⟨1, 1, .rw, false, false, .epoch, .none⟩, ⟨0, 1, .rw, false, false, .epoch, .none⟩]⟩,
  ⟨0x4, 1, 0x4, 0x3E8, [⟨0, 16, .rw, false, false, .epoch, .range 100 60000⟩]⟩,
  ⟨0x8, 1, 0x4, 0x0, [⟨0, 32, .ro, false, false, .imm, .none⟩]⟩,
  ⟨0xC, 1, 0x4, 0x4080000, [⟨24, 3, .ro, false, false, .imm, .none⟩, ⟨16, 4, .ro, false, false, .imm, .none⟩, ⟨4, 1, .ro, false, false, .imm, .none⟩, ⟨3, 1, .w1c, false, false, .imm, .none⟩, ⟨2, 1, .w1c, false, false, .imm, .none⟩, ⟨1, 1, .w1c, false, false, .imm, .none⟩]⟩,
  ⟨0x10, 1, 0x4, 0xA00040, [⟨16, 16, .rw, false, false, .epoch, .range 0 640⟩, ⟨0, 16, .rw, false, false, .epoch, .range 0 640⟩]⟩,
  ⟨0x14, 1, 0x4, 0xA0000, [⟨0, 20, .ro, false, false, .imm, .none⟩]⟩,
  ⟨0x18, 1, 0x4, 0x400007D, [⟨16, 16, .rw, false, false, .epoch, .none⟩, ⟨0, 8, .rw, false, false, .epoch, .range 101 255⟩]⟩,
  ⟨0x1C, 1, 0x4, 0x0, [⟨16, 16, .wo, false, false, .imm, .none⟩, ⟨0, 6, .wo, false, false, .imm, .none⟩]⟩,
  ⟨0x20, 1, 0x4, 0x0, [⟨0, 32, .rw, false, false, .imm, .alignLow 12⟩]⟩,
  ⟨0x24, 1, 0x4, 0x0, [⟨0, 32, .rw, false, false, .imm, .none⟩]⟩,
  ⟨0x30, 1, 0x4, 0x0, [⟨0, 32, .rw, false, false, .imm, .alignLow 12⟩]⟩,
  ⟨0x34, 1, 0x4, 0x0, [⟨0, 32, .rw, false, false, .imm, .none⟩]⟩,
  ⟨0x28, 1, 0x4, 0x0, [⟨0, 13, .rw, false, false, .imm, .range 0 4096⟩]⟩,
  ⟨0x38, 1, 0x4, 0x0, [⟨0, 13, .rw, false, false, .imm, .range 0 4096⟩]⟩,
  ⟨0x2C, 1, 0x4, 0x0, [⟨0, 27, .ro, false, false, .imm, .none⟩]⟩,
  ⟨0x3C, 1, 0x4, 0x0, [⟨0, 27, .ro, false, false, .imm, .none⟩]⟩,
  ⟨0x40, 1, 0x4, 0x0, [⟨1, 16, .w1c, false, false, .imm, .none⟩]⟩,
  ⟨0x44, 1, 0x4, 0x0, [⟨1, 16, .ro, false, false, .imm, .none⟩]⟩,
  ⟨0x48, 1, 0x4, 0x0, [⟨4, 1, .w1c, false, false, .imm, .none⟩, ⟨3, 1, .w1c, false, false, .imm, .none⟩, ⟨2, 1, .w1c, false, false, .imm, .none⟩, ⟨1, 1, .w1c, false, false, .imm, .none⟩, ⟨0, 1, .w1c, false, false, .imm, .none⟩]⟩,
  ⟨0x4C, 1, 0x4, 0x0, [⟨16, 11, .rw, false, false, .imm, .none⟩, ⟨0, 5, .rw, false, false, .imm, .none⟩]⟩,
  ⟨0x50, 8, 0x4, 0x0, [⟨0, 32, .ro, false, false, .imm, .none⟩]⟩,
  ⟨0x84, 16, 0x4, 0x0, [⟨31, 1, .ro, false, false, .imm, .none⟩, ⟨8, 16, .ro, false, false, .imm, .none⟩, ⟨0, 5, .ro, false, false, .imm, .none⟩]⟩,
  ⟨0x100, 52, 0x4, 0x0, [⟨31, 1, .ro, false, false, .imm, .none⟩, ⟨30, 1, .ro, false, false, .imm, .none⟩, ⟨16, 8, .ro, false, false, .imm, .none⟩, ⟨6, 1, .ro, false, false, .imm, .none⟩, ⟨0, 6, .ro, false, false, .imm, .none⟩]⟩,
  ⟨0x200, 8, 0x4, 0x0, [⟨31, 1, .ro, false, false, .imm, .none⟩, ⟨30, 1, .ro, false, false, .imm, .none⟩, ⟨16, 8, .ro, false, false, .imm, .none⟩, ⟨0, 7, .ro, false, false, .imm, .none⟩]⟩,
  ⟨0x280, 24, 0x4, 0x0, [⟨12, 20, .ro, false, false, .imm, .none⟩, ⟨11, 1, .ro, false, false, .imm, .none⟩, ⟨0, 11, .ro, false, false, .imm, .none⟩]⟩]

/-- Registers of block GST. -/
def Reg.tableGST : List RegDef := [
  ⟨0x0, 1, 0x4, 0x0, [⟨1, 1, .rw, false, false, .slot, .none⟩, ⟨0, 1, .rw, false, true, .slot, .none⟩]⟩,
  ⟨0x4, 1, 0x4, 0x0, [⟨31, 1, .ro, false, false, .imm, .none⟩, ⟨30, 1, .ro, false, false, .imm, .none⟩, ⟨0, 17, .ro, false, false, .imm, .none⟩]⟩,
  ⟨0x8, 1, 0x4, 0x0, [⟨0, 17, .ro, false, false, .imm, .none⟩]⟩,
  ⟨0xC, 1, 0x4, 0x0, [⟨0, 13, .ro, false, false, .imm, .none⟩]⟩,
  ⟨0x10, 1, 0x4, 0x0, [⟨0, 13, .ro, false, false, .imm, .none⟩]⟩,
  ⟨0x14, 1, 0x4, 0x0, [⟨0, 24, .rc, false, false, .imm, .none⟩]⟩,
  ⟨0x18, 1, 0x4, 0x0, [⟨31, 1, .ro, false, false, .imm, .none⟩, ⟨0, 21, .ro, false, false, .imm, .none⟩]⟩,
  ⟨0x1C, 1, 0x4, 0x0, [⟨31, 1, .ro, false, false, .imm, .none⟩, ⟨0, 24, .ro, false, false, .imm, .none⟩]⟩,
  ⟨0x20, 1, 0x4, 0x0, [⟨3, 1, .w1c, false, false, .imm, .none⟩, ⟨2, 1, .w1c, false, false, .imm, .none⟩, ⟨1, 1, .w1c, false, false, .imm, .none⟩, ⟨0, 1, .w1c, false, false, .imm, .none⟩]⟩,
  ⟨0x24, 1, 0x4, 0x0, [⟨16, 11, .rw, false, false, .imm, .none⟩, ⟨0, 4, .rw, false, false, .imm, .none⟩]⟩,
  ⟨0x28, 1, 0x4, 0x0, [⟨0, 16, .rw, false, false, .imm, .none⟩]⟩,
  ⟨0x2C, 1, 0x4, 0x0, [⟨31, 1, .ro, false, false, .imm, .none⟩, ⟨30, 1, .ro, false, false, .imm, .none⟩, ⟨29, 1, .ro, false, false, .imm, .none⟩, ⟨28, 1, .ro, false, false, .imm, .none⟩, ⟨24, 4, .ro, false, false, .imm, .none⟩, ⟨0, 16, .ro, false, false, .imm, .none⟩]⟩,
  ⟨0x60, 8, 0x4, 0x0, [⟨0, 32, .ro, false, false, .imm, .none⟩]⟩,
  ⟨0x30, 1, 0x4, 0x0, [⟨0, 32, .ro, false, false, .imm, .none⟩]⟩,
  ⟨0x38, 1, 0x4, 0x0, [⟨0, 32, .ro, false, false, .imm, .none⟩]⟩,
  ⟨0x34, 1, 0x4, 0x0, [⟨1, 16, .ro, false, false, .imm, .none⟩, ⟨0, 1, .ro, false, false, .imm, .none⟩]⟩,
  ⟨0x100, 17, 0x4, 0x0, [⟨0, 17, .ro, false, false, .imm, .none⟩]⟩,
  ⟨0x180, 8, 0x4, 0x0, [⟨0, 24, .ro, false, false, .imm, .none⟩]⟩,
  ⟨0x80, 16, 0x4, 0x0, [⟨0, 32, .ro, false, false, .imm, .none⟩]⟩]

/-- Registers of block TIM. -/
def Reg.tableTIM : List RegDef := [
  ⟨0x0, 1, 0x4, 0x640A0001, [⟨24, 8, .rw, false, false, .imm, .range 1 200⟩, ⟨16, 8, .rw, false, false, .imm, .range 1 255⟩, ⟨3, 1, .rw, false, false, .imm, .none⟩, ⟨2, 1, .rw, false, false, .frame, .none⟩, ⟨1, 1, .rw, false, false, .frame, .none⟩, ⟨0, 1, .rw, false, false, .imm, .none⟩]⟩,
  ⟨0x4, 1, 0x4, 0x3, [⟨2, 1, .rw, false, true, .frame, .none⟩, ⟨0, 2, .rw, false, true, .frame, .none⟩]⟩,
  ⟨0x8, 1, 0x4, 0x0, [⟨15, 1, .ro, false, false, .imm, .none⟩, ⟨14, 1, .ro, false, false, .imm, .none⟩, ⟨13, 1, .ro, false, false, .imm, .none⟩, ⟨12, 1, .ro, false, false, .imm, .none⟩, ⟨10, 2, .ro, false, false, .imm, .none⟩, ⟨7, 3, .ro, false, false, .imm, .none⟩, ⟨4, 3, .ro, false, false, .imm, .none⟩, ⟨0, 3, .ro, false, false, .imm, .none⟩]⟩,
  ⟨0xC, 1, 0x4, 0x0, [⟨0, 32, .ro, false, false, .imm, .none⟩]⟩,
  ⟨0x10, 1, 0x4, 0x0, [⟨0, 32, .ro, false, false, .imm, .none⟩]⟩,
  ⟨0x14, 1, 0x4, 0x0, [⟨0, 16, .ro, false, false, .imm, .none⟩]⟩,
  ⟨0x18, 1, 0x4, 0x0, [⟨0, 32, .ro, false, false, .imm, .none⟩]⟩,
  ⟨0x1C, 1, 0x4, 0x0, [⟨0, 32, .ro, false, false, .imm, .none⟩]⟩,
  ⟨0x20, 1, 0x4, 0x3E8, [⟨0, 16, .rw, false, false, .imm, .range 1 65535⟩]⟩,
  ⟨0x24, 1, 0x4, 0x64, [⟨0, 10, .rw, false, false, .imm, .range 1 1000⟩]⟩,
  ⟨0x28, 1, 0x4, 0xE100032, [⟨16, 16, .rw, false, false, .imm, .range 1 65535⟩, ⟨0, 16, .rw, false, false, .imm, .range 1 10000⟩]⟩,
  ⟨0x2C, 1, 0x4, 0x25, [⟨0, 16, .rw, false, false, .imm, .none⟩]⟩,
  ⟨0x30, 1, 0x4, 0x0, [⟨0, 32, .ro, false, false, .imm, .none⟩]⟩,
  ⟨0x34, 1, 0x4, 0x0, [⟨0, 32, .ro, false, false, .imm, .none⟩]⟩,
  ⟨0x38, 1, 0x4, 0x0, [⟨3, 1, .w1c, false, false, .imm, .none⟩, ⟨2, 1, .w1c, false, false, .imm, .none⟩, ⟨1, 1, .w1c, false, false, .imm, .none⟩, ⟨0, 1, .w1c, false, false, .imm, .none⟩]⟩,
  ⟨0x3C, 1, 0x4, 0x0, [⟨16, 11, .rw, false, false, .imm, .none⟩, ⟨0, 4, .rw, false, false, .imm, .none⟩]⟩,
  ⟨0x80, 16, 0x4, 0x0, [⟨31, 1, .ro, false, false, .imm, .none⟩, ⟨0, 16, .ro, false, false, .imm, .none⟩]⟩,
  ⟨0x100, 64, 0x4, 0x0, [⟨0, 32, .ro, false, false, .imm, .none⟩]⟩]

/-- Registers of block SPW. -/
def Reg.tableSPW : List RegDef := [
  ⟨0x0, 1, 0x4, 0x50040801, [⟨24, 8, .rw, false, false, .imm, .range 1 255⟩, ⟨16, 6, .rw, false, false, .imm, .range 1 48⟩, ⟨8, 6, .rw, false, false, .imm, .range 1 48⟩, ⟨0, 6, .rw, false, false, .imm, .range 1 60⟩]⟩,
  ⟨0x4, 1, 0x4, 0x0, [⟨24, 6, .ro, false, false, .imm, .none⟩, ⟨16, 6, .ro, false, false, .imm, .none⟩, ⟨15, 1, .ro, false, false, .imm, .none⟩, ⟨0, 9, .ro, false, false, .imm, .none⟩]⟩,
  ⟨0x8, 1, 0x4, 0x32000A01, [⟨24, 8, .rw, false, true, .imm, .range 1 255⟩, ⟨8, 8, .rw, false, false, .imm, .range 2 50⟩, ⟨1, 1, .rw, false, false, .imm, .none⟩, ⟨0, 1, .rw, false, false, .imm, .none⟩]⟩,
  ⟨0xC, 1, 0x4, 0x0, [⟨31, 1, .ro, false, false, .imm, .none⟩, ⟨1, 1, .ro, false, false, .imm, .none⟩, ⟨0, 1, .w1s, false, false, .imm, .none⟩]⟩,
  ⟨0x10, 1, 0x4, 0x0, [⟨4, 1, .w1c, false, false, .imm, .none⟩, ⟨3, 1, .w1c, false, false, .imm, .none⟩, ⟨2, 1, .w1c, false, false, .imm, .none⟩, ⟨1, 1, .w1c, false, false, .imm, .none⟩, ⟨0, 1, .w1c, false, false, .imm, .none⟩]⟩,
  ⟨0x14, 1, 0x4, 0x0, [⟨16, 11, .rw, false, false, .imm, .none⟩, ⟨0, 5, .rw, false, false, .imm, .none⟩]⟩,
  ⟨0x20, 1, 0x4, 0x0, [⟨0, 32, .rw, false, false, .imm, .none⟩]⟩,
  ⟨0x24, 1, 0x4, 0x0, [⟨0, 16, .rw, false, false, .imm, .none⟩]⟩,
  ⟨0x28, 2, 0x4, 0x0, [⟨0, 32, .ro, false, false, .imm, .none⟩]⟩,
  ⟨0x30, 2, 0x4, 0x0, [⟨0, 32, .ro, false, false, .imm, .none⟩]⟩,
  ⟨0x38, 2, 0x4, 0x0, [⟨0, 32, .ro, false, false, .imm, .none⟩]⟩,
  ⟨0x40, 2, 0x4, 0x0, [⟨0, 32, .ro, false, false, .imm, .none⟩]⟩,
  ⟨0x48, 2, 0x4, 0x0, [⟨0, 32, .ro, false, false, .imm, .none⟩]⟩,
  ⟨0x50, 2, 0x4, 0x0, [⟨0, 32, .ro, false, false, .imm, .none⟩]⟩,
  ⟨0x58, 2, 0x4, 0x0, [⟨0, 32, .ro, false, false, .imm, .none⟩]⟩,
  ⟨0x60, 6, 0x4, 0x0, [⟨31, 1, .ro, false, false, .imm, .none⟩, ⟨16, 12, .ro, false, false, .imm, .none⟩, ⟨0, 16, .ro, false, false, .imm, .none⟩]⟩,
  ⟨0x80, 12, 0x4, 0x0, [⟨0, 32, .ro, false, false, .imm, .none⟩]⟩]

/-- Registers of block PWR. -/
def Reg.tablePWR : List RegDef := [
  ⟨0x44, 1, 0x4, 0x0, [⟨16, 11, .rw, false, false, .imm, .none⟩, ⟨0, 6, .rw, false, false, .imm, .none⟩]⟩,
  ⟨0x0, 1, 0x4, 0x0, [⟨16, 16, .wo, false, false, .imm, .none⟩, ⟨0, 2, .rw, false, false, .imm, .none⟩]⟩,
  ⟨0x4, 1, 0x4, 0x0, [⟨28, 4, .ro, false, false, .imm, .none⟩, ⟨7, 1, .ro, false, false, .imm, .none⟩, ⟨6, 1, .ro, false, false, .imm, .none⟩, ⟨0, 3, .ro, false, false, .imm, .none⟩]⟩,
  ⟨0x8, 1, 0x4, 0x64, [⟨0, 10, .rw, false, false, .imm, .range 1 1000⟩]⟩,
  ⟨0xC, 1, 0x4, 0x0, [⟨16, 16, .ro, false, false, .imm, .none⟩, ⟨0, 13, .ro, false, false, .imm, .none⟩]⟩,
  ⟨0x10, 1, 0x4, 0x0, [⟨31, 1, .ro, false, false, .imm, .none⟩, ⟨0, 12, .ro, false, false, .imm, .none⟩]⟩,
  ⟨0x14, 1, 0x4, 0x0, [⟨31, 1, .wo, false, false, .imm, .none⟩, ⟨0, 12, .rw, false, false, .imm, .none⟩]⟩,
  ⟨0x18, 4, 0x4, 0x0, [⟨0, 32, .rw, false, false, .imm, .none⟩]⟩,
  ⟨0x28, 1, 0x4, 0xA198320, [⟨24, 8, .rw, false, false, .imm, .range 1 100⟩, ⟨16, 8, .rw, false, false, .imm, .range 10 100⟩, ⟨15, 1, .rw, false, false, .imm, .none⟩, ⟨0, 11, .rw, false, false, .imm, .range 400 1200⟩]⟩,
  ⟨0x2C, 1, 0x4, 0x0, [⟨31, 1, .ro, false, false, .imm, .none⟩, ⟨30, 1, .ro, false, false, .imm, .none⟩, ⟨29, 1, .ro, false, false, .imm, .none⟩, ⟨28, 1, .ro, false, false, .imm, .none⟩, ⟨0, 16, .ro, false, false, .imm, .none⟩]⟩,
  ⟨0x30, 1, 0x4, 0x0, [⟨24, 3, .ro, false, false, .imm, .none⟩, ⟨0, 16, .ro, false, false, .imm, .none⟩]⟩,
  ⟨0x34, 1, 0x4, 0x0, [⟨24, 3, .ro, false, false, .imm, .none⟩, ⟨0, 16, .rc, false, false, .imm, .none⟩]⟩,
  ⟨0x38, 1, 0x4, 0x0, [⟨31, 1, .w1c, false, false, .imm, .none⟩, ⟨30, 1, .rw, false, false, .imm, .none⟩, ⟨16, 2, .ro, false, false, .imm, .none⟩, ⟨0, 16, .ro, false, false, .imm, .none⟩]⟩,
  ⟨0x3C, 1, 0x4, 0xC, [⟨16, 16, .rw, false, false, .imm, .none⟩, ⟨4, 4, .ro, false, false, .imm, .none⟩, ⟨3, 1, .rw, false, false, .imm, .none⟩, ⟨2, 1, .rw, false, false, .imm, .none⟩]⟩,
  ⟨0x40, 1, 0x4, 0x0, [⟨5, 1, .w1c, false, false, .imm, .none⟩, ⟨4, 1, .w1c, false, false, .imm, .none⟩, ⟨3, 1, .w1c, false, false, .imm, .none⟩, ⟨2, 1, .w1c, false, false, .imm, .none⟩, ⟨1, 1, .w1c, false, false, .imm, .none⟩, ⟨0, 1, .w1c, false, false, .imm, .none⟩]⟩,
  ⟨0x80, 14, 0x4, 0x0, [⟨31, 1, .ro, false, false, .imm, .none⟩, ⟨29, 2, .ro, false, false, .imm, .none⟩, ⟨16, 12, .ro, false, false, .imm, .none⟩, ⟨5, 1, .ro, false, false, .imm, .none⟩, ⟨4, 1, .ro, false, false, .imm, .none⟩, ⟨3, 1, .ro, false, false, .imm, .none⟩, ⟨2, 1, .ro, false, false, .imm, .none⟩, ⟨1, 1, .ro, false, false, .imm, .none⟩, ⟨0, 1, .ro, false, false, .imm, .none⟩]⟩,
  ⟨0xC0, 8, 0x4, 0x0, [⟨0, 32, .ro, false, false, .imm, .none⟩]⟩]

/-- Registers of block SPWS. -/
def Reg.tableSPWS : List RegDef := [
  ⟨0x0, 1, 0x4, 0xFF140408, [⟨24, 8, .rw, false, true, .imm, .range 1 255⟩, ⟨16, 8, .rw, false, true, .imm, .none⟩, ⟨8, 8, .rw, false, false, .imm, .range 1 100⟩, ⟨4, 1, .rw, false, false, .imm, .none⟩, ⟨3, 1, .rw, false, true, .imm, .none⟩, ⟨0, 1, .rw, false, true, .imm, .none⟩]⟩,
  ⟨0x4, 1, 0x4, 0x0, [⟨20, 12, .ro, false, false, .imm, .none⟩, ⟨8, 12, .rc, false, false, .imm, .none⟩, ⟨7, 1, .ro, false, false, .imm, .none⟩, ⟨4, 3, .ro, false, false, .imm, .none⟩, ⟨0, 3, .ro, false, false, .imm, .none⟩]⟩,
  ⟨0x8, 4, 0x4, 0x0, [⟨16, 16, .rw, false, true, .imm, .none⟩, ⟨0, 16, .rw, false, true, .imm, .none⟩]⟩,
  ⟨0x18, 4, 0x4, 0x0, [⟨16, 16, .rw, false, true, .imm, .none⟩, ⟨0, 16, .rw, false, true, .imm, .none⟩]⟩]

/-- Registers of block PDP. -/
def Reg.tablePDP : List RegDef := [
  ⟨0x0, 1, 0x4, 0x0, [⟨3, 1, .rw, false, false, .imm, .none⟩, ⟨2, 1, .rw, false, false, .imm, .none⟩, ⟨1, 1, .w1s, false, false, .imm, .none⟩, ⟨0, 1, .rw, false, false, .imm, .none⟩]⟩,
  ⟨0x4, 1, 0x4, 0x0, [⟨28, 4, .ro, false, false, .imm, .none⟩, ⟨27, 1, .ro, false, false, .imm, .none⟩, ⟨26, 1, .ro, false, false, .imm, .none⟩, ⟨25, 1, .ro, false, false, .imm, .none⟩, ⟨24, 1, .ro, false, false, .imm, .none⟩, ⟨23, 1, .ro, false, false, .imm, .none⟩, ⟨21, 2, .ro, false, false, .imm, .none⟩]⟩,
  ⟨0x8, 1, 0x4, 0x8, [⟨3, 1, .rw, false, false, .imm, .none⟩, ⟨2, 1, .rw, false, false, .imm, .none⟩, ⟨0, 2, .rw, false, false, .imm, .keepAbove 2⟩]⟩,
  ⟨0xC, 1, 0x4, 0x0, [⟨0, 32, .ro, false, false, .imm, .none⟩]⟩,
  ⟨0x10, 1, 0x4, 0x0, [⟨0, 32, .ro, false, false, .imm, .none⟩]⟩,
  ⟨0x24, 1, 0x4, 0x0, [⟨0, 32, .ro, false, false, .imm, .none⟩]⟩,
  ⟨0x60, 7, 0x4, 0x0, [⟨0, 32, .ro, false, false, .imm, .none⟩]⟩,
  ⟨0x80, 7, 0x4, 0x0, [⟨0, 32, .ro, false, false, .imm, .none⟩]⟩,
  ⟨0x14, 1, 0x4, 0xC1B, [⟨8, 8, .rw, false, false, .imm, .range 1 14⟩, ⟨0, 8, .rw, false, false, .imm, .range 24 30⟩]⟩,
  ⟨0x18, 1, 0x4, 0x0, [⟨4, 4, .ro, false, false, .imm, .none⟩, ⟨0, 1, .ro, false, false, .imm, .none⟩]⟩,
  ⟨0x1C, 1, 0x4, 0x0, [⟨0, 32, .ro, false, false, .imm, .none⟩]⟩,
  ⟨0x20, 1, 0x4, 0x0, [⟨0, 32, .ro, false, false, .imm, .none⟩]⟩,
  ⟨0x28, 1, 0x4, 0x0, [⟨5, 1, .ro, false, false, .imm, .none⟩, ⟨3, 2, .ro, false, false, .imm, .none⟩, ⟨1, 2, .ro, false, false, .imm, .none⟩, ⟨0, 1, .ro, false, false, .imm, .none⟩]⟩,
  ⟨0x2C, 1, 0x4, 0x0, [⟨16, 1, .ro, false, false, .imm, .none⟩, ⟨0, 16, .ro, false, false, .imm, .none⟩]⟩,
  ⟨0x30, 1, 0x4, 0x5112, [⟨16, 16, .ro, false, false, .imm, .none⟩, ⟨0, 16, .ro, false, false, .imm, .none⟩]⟩,
  ⟨0x34, 1, 0x4, 0x0, [⟨2, 1, .ro, false, false, .imm, .none⟩, ⟨1, 1, .ro, false, false, .imm, .none⟩, ⟨0, 1, .ro, false, false, .imm, .none⟩]⟩,
  ⟨0x38, 1, 0x4, 0x0, [⟨28, 4, .ro, false, false, .imm, .none⟩, ⟨1, 1, .ro, false, false, .imm, .none⟩, ⟨0, 1, .ro, false, false, .imm, .none⟩]⟩,
  ⟨0x3C, 1, 0x4, 0x0, [⟨16, 16, .ro, false, false, .imm, .none⟩, ⟨0, 8, .ro, false, false, .imm, .none⟩]⟩,
  ⟨0x40, 1, 0x4, 0x0, [⟨6, 1, .w1c, false, false, .imm, .none⟩, ⟨5, 1, .w1c, false, false, .imm, .none⟩, ⟨4, 1, .w1c, false, false, .imm, .none⟩, ⟨3, 1, .w1c, false, false, .imm, .none⟩, ⟨2, 1, .w1c, false, false, .imm, .none⟩, ⟨1, 1, .w1c, false, false, .imm, .none⟩, ⟨0, 1, .w1c, false, false, .imm, .none⟩]⟩,
  ⟨0x44, 1, 0x4, 0x0, [⟨16, 11, .rw, false, false, .imm, .none⟩, ⟨0, 7, .rw, false, false, .imm, .none⟩]⟩,
  ⟨0xA0, 8, 0x4, 0x0, [⟨0, 32, .ro, false, false, .imm, .none⟩]⟩,
  ⟨0xC0, 8, 0x4, 0x0, [⟨0, 32, .ro, false, false, .imm, .none⟩]⟩,
  ⟨0x100, 16, 0x4, 0x0, [⟨24, 8, .ro, false, false, .imm, .none⟩, ⟨16, 8, .ro, false, false, .imm, .none⟩, ⟨0, 16, .ro, false, false, .imm, .none⟩]⟩,
  ⟨0x140, 16, 0x4, 0x0, [⟨0, 32, .ro, false, false, .imm, .none⟩]⟩]

/-- Registers of block SEC. -/
def Reg.tableSEC : List RegDef := [
  ⟨0x0, 1, 0x4, 0x0, [⟨3, 1, .ro, false, true, .imm, .none⟩, ⟨2, 1, .ro, false, true, .imm, .none⟩, ⟨1, 1, .ro, false, true, .imm, .none⟩, ⟨0, 1, .ro, false, true, .imm, .none⟩]⟩,
  ⟨0x4, 1, 0x4, 0x0, [⟨0, 1, .w1s, true, true, .imm, .none⟩]⟩,
  ⟨0x8, 1, 0x4, 0x0, [⟨0, 3, .ro, false, true, .imm, .none⟩]⟩,
  ⟨0xC, 1, 0x4, 0x0, [⟨0, 1, .rw, true, true, .imm, .none⟩]⟩,
  ⟨0x10, 1, 0x4, 0x0, [⟨16, 9, .ro, false, true, .imm, .none⟩, ⟨0, 9, .ro, false, true, .imm, .none⟩]⟩,
  ⟨0x14, 1, 0x4, 0x0, [⟨0, 32, .ro, false, true, .imm, .none⟩]⟩,
  ⟨0x18, 1, 0x4, 0x0, [⟨0, 32, .ro, false, true, .imm, .none⟩]⟩,
  ⟨0x1C, 1, 0x4, 0x0, [⟨16, 16, .ro, false, true, .imm, .none⟩, ⟨1, 1, .ro, false, true, .imm, .none⟩, ⟨0, 1, .ro, false, true, .imm, .none⟩]⟩,
  ⟨0x20, 1, 0x4, 0x0, [⟨2, 1, .w1c, false, true, .imm, .none⟩, ⟨1, 1, .w1c, false, true, .imm, .none⟩, ⟨0, 1, .w1c, false, true, .imm, .none⟩]⟩,
  ⟨0x24, 1, 0x4, 0x0, [⟨16, 11, .rw, false, true, .imm, .none⟩, ⟨0, 3, .rw, false, true, .imm, .none⟩]⟩,
  ⟨0x28, 1, 0x4, 0x0, [⟨24, 8, .ro, false, true, .imm, .none⟩, ⟨4, 1, .ro, false, true, .imm, .none⟩, ⟨2, 2, .ro, false, true, .imm, .none⟩, ⟨0, 2, .ro, false, true, .imm, .none⟩]⟩,
  ⟨0x2C, 1, 0x4, 0x0, [⟨16, 16, .ro, false, true, .imm, .none⟩, ⟨0, 9, .ro, false, true, .imm, .none⟩]⟩,
  ⟨0x40, 16, 0x4, 0x0, [⟨0, 32, .ro, false, true, .imm, .none⟩]⟩,
  ⟨0x80, 12, 0x4, 0x0, [⟨0, 32, .ro, false, true, .imm, .none⟩]⟩,
  ⟨0xC0, 8, 0x4, 0x0, [⟨0, 32, .ro, false, true, .imm, .none⟩]⟩]

/-- Registers of block NVM. -/
def Reg.tableNVM : List RegDef := [
  ⟨0x34, 1, 0x4, 0x0, [⟨16, 11, .rw, false, false, .imm, .none⟩, ⟨0, 6, .rw, false, false, .imm, .none⟩]⟩,
  ⟨0x0, 1, 0x4, 0x1, [⟨1, 1, .w1s, false, true, .imm, .none⟩, ⟨0, 1, .rw, false, true, .imm, .none⟩]⟩,
  ⟨0x4, 1, 0x4, 0x0, [⟨31, 1, .ro, false, false, .imm, .none⟩, ⟨28, 3, .ro, false, false, .imm, .none⟩, ⟨6, 1, .ro, false, false, .imm, .none⟩, ⟨3, 3, .ro, false, false, .imm, .none⟩, ⟨2, 1, .ro, false, false, .imm, .none⟩, ⟨0, 2, .ro, false, false, .imm, .none⟩]⟩,
  ⟨0x8, 1, 0x4, 0x0, [⟨8, 3, .ro, false, true, .imm, .none⟩, ⟨2, 2, .ro, false, true, .imm, .none⟩, ⟨1, 1, .ro, false, true, .imm, .none⟩, ⟨0, 1, .ro, false, true, .imm, .none⟩]⟩,
  ⟨0xC, 1, 0x4, 0x0, [⟨16, 16, .ro, false, false, .imm, .none⟩, ⟨2, 1, .rw, false, true, .imm, .none⟩, ⟨1, 1, .w1s, false, false, .imm, .none⟩, ⟨0, 1, .w1s, true, true, .imm, .none⟩]⟩,
  ⟨0x10, 1, 0x4, 0x78, [⟨0, 16, .rw, false, true, .imm, .range 10 3600⟩]⟩,
  ⟨0x14, 1, 0x4, 0x0, [⟨0, 32, .ro, false, false, .imm, .none⟩]⟩,
  ⟨0x18, 1, 0x4, 0x0, [⟨0, 32, .ro, false, false, .imm, .none⟩]⟩,
  ⟨0x20, 1, 0x4, 0x0, [⟨0, 32, .ro, false, false, .imm, .none⟩]⟩,
  ⟨0x40, 1, 0x4, 0x0, [⟨0, 32, .ro, false, false, .imm, .none⟩]⟩,
  ⟨0x50, 1, 0x4, 0x0, [⟨0, 32, .ro, false, false, .imm, .none⟩]⟩,
  ⟨0x1C, 1, 0x4, 0x0, [⟨30, 2, .ro, false, false, .imm, .none⟩, ⟨28, 1, .ro, false, false, .imm, .none⟩, ⟨16, 10, .ro, false, false, .imm, .none⟩, ⟨0, 10, .ro, false, false, .imm, .none⟩]⟩,
  ⟨0x24, 1, 0x4, 0x0, [⟨28, 4, .wo, true, true, .imm, .none⟩, ⟨0, 16, .wo, true, true, .imm, .none⟩]⟩,
  ⟨0x28, 1, 0x4, 0x0, [⟨0, 23, .rw, true, true, .imm, .alignLow 12⟩]⟩,
  ⟨0x2C, 1, 0x4, 0x0, [⟨31, 1, .ro, true, false, .imm, .none⟩, ⟨8, 8, .ro, true, false, .imm, .none⟩, ⟨0, 2, .ro, true, false, .imm, .none⟩]⟩,
  ⟨0x30, 1, 0x4, 0x0, [⟨5, 1, .w1c, false, false, .imm, .none⟩, ⟨4, 1, .w1c, false, false, .imm, .none⟩, ⟨3, 1, .w1c, false, false, .imm, .none⟩, ⟨2, 1, .w1c, false, false, .imm, .none⟩, ⟨1, 1, .w1c, false, false, .imm, .none⟩, ⟨0, 1, .w1c, false, false, .imm, .none⟩]⟩,
  ⟨0x38, 1, 0x4, 0x0, [⟨16, 16, .ro, false, false, .imm, .none⟩, ⟨0, 16, .ro, false, false, .imm, .none⟩]⟩,
  ⟨0x3C, 1, 0x4, 0x0, [⟨16, 16, .ro, false, false, .imm, .none⟩, ⟨1, 1, .ro, false, false, .imm, .none⟩, ⟨0, 1, .ro, false, false, .imm, .none⟩]⟩,
  ⟨0x44, 1, 0x4, 0x0, [⟨0, 9, .ro, false, false, .imm, .none⟩]⟩,
  ⟨0x54, 1, 0x4, 0x0, [⟨0, 9, .ro, false, false, .imm, .none⟩]⟩,
  ⟨0x48, 1, 0x4, 0x0, [⟨16, 16, .ro, false, false, .imm, .none⟩, ⟨0, 3, .ro, false, false, .imm, .none⟩]⟩,
  ⟨0x58, 1, 0x4, 0x0, [⟨16, 16, .ro, false, false, .imm, .none⟩, ⟨0, 3, .ro, false, false, .imm, .none⟩]⟩,
  ⟨0x4C, 1, 0x4, 0x2002DF, [⟨16, 6, .ro, false, false, .imm, .none⟩, ⟨0, 10, .ro, false, false, .imm, .none⟩]⟩,
  ⟨0x5C, 1, 0x4, 0x2002DF, [⟨16, 6, .ro, false, false, .imm, .none⟩, ⟨0, 10, .ro, false, false, .imm, .none⟩]⟩,
  ⟨0x60, 1, 0x4, 0x0, [⟨0, 17, .ro, false, false, .imm, .none⟩]⟩,
  ⟨0x64, 1, 0x4, 0x0, [⟨0, 17, .ro, false, false, .imm, .none⟩]⟩,
  ⟨0x68, 1, 0x4, 0x0, [⟨0, 17, .ro, false, false, .imm, .none⟩]⟩,
  ⟨0x6C, 1, 0x4, 0x0, [⟨16, 8, .ro, false, false, .imm, .none⟩, ⟨8, 8, .ro, false, false, .imm, .none⟩, ⟨0, 8, .ro, false, false, .imm, .none⟩]⟩,
  ⟨0x80, 24, 0x4, 0x0, [⟨0, 32, .ro, false, false, .imm, .none⟩]⟩,
  ⟨0x100, 1, 0x4, 0x0, [⟨0, 32, .ro, false, false, .imm, .none⟩]⟩,
  ⟨0x104, 1, 0x4, 0x0, [⟨0, 32, .rc, false, false, .imm, .none⟩]⟩,
  ⟨0x108, 1, 0x4, 0x0, [⟨0, 32, .ro, false, false, .imm, .none⟩]⟩,
  ⟨0x10C, 1, 0x4, 0x0, [⟨31, 1, .ro, false, false, .imm, .none⟩, ⟨0, 23, .ro, false, false, .imm, .none⟩]⟩,
  ⟨0xE0, 8, 0x4, 0x0, [⟨0, 32, .ro, false, false, .imm, .none⟩]⟩]

/-- Registers of block FOL. -/
def Reg.tableFOL : List RegDef := [
  ⟨0x0, 1, 0x4, 0x0, [⟨1, 1, .w1s, true, false, .imm, .none⟩, ⟨0, 1, .w1s, false, false, .imm, .none⟩]⟩,
  ⟨0x4, 1, 0x4, 0x0, [⟨31, 1, .ro, false, false, .imm, .none⟩, ⟨30, 1, .ro, false, false, .imm, .none⟩, ⟨29, 1, .ro, false, false, .imm, .none⟩, ⟨0, 7, .ro, false, false, .imm, .none⟩]⟩,
  ⟨0x8, 1, 0x4, 0x0, [⟨0, 32, .ro, false, false, .imm, .none⟩]⟩,
  ⟨0xC, 1, 0x4, 0x0, [⟨0, 32, .ro, false, false, .imm, .none⟩]⟩,
  ⟨0x20, 1, 0x4, 0x0, [⟨0, 32, .ro, false, false, .imm, .none⟩]⟩,
  ⟨0x10, 1, 0x4, 0x401000, [⟨16, 7, .ro, false, false, .imm, .none⟩, ⟨0, 13, .ro, false, false, .imm, .none⟩]⟩,
  ⟨0x14, 1, 0x4, 0x0, [⟨31, 1, .ro, false, false, .imm, .none⟩, ⟨0, 7, .ro, false, false, .imm, .none⟩]⟩,
  ⟨0x18, 1, 0x4, 0x100, [⟨16, 9, .ro, false, false, .imm, .none⟩, ⟨0, 9, .ro, false, false, .imm, .none⟩]⟩,
  ⟨0x1C, 1, 0x4, 0x0, [⟨16, 16, .wo, true, false, .imm, .none⟩, ⟨0, 1, .wo, true, false, .imm, .none⟩]⟩,
  ⟨0x24, 1, 0x4, 0x0, [⟨16, 16, .ro, false, false, .imm, .none⟩, ⟨0, 16, .ro, false, false, .imm, .none⟩]⟩,
  ⟨0x28, 1, 0x4, 0x0, [⟨16, 16, .ro, false, false, .imm, .none⟩, ⟨8, 2, .ro, false, false, .imm, .none⟩, ⟨0, 8, .ro, false, false, .imm, .none⟩]⟩,
  ⟨0x2C, 1, 0x4, 0x0, [⟨4, 1, .w1c, false, false, .imm, .none⟩, ⟨3, 1, .w1c, false, false, .imm, .none⟩, ⟨2, 1, .w1c, false, false, .imm, .none⟩, ⟨1, 1, .w1c, false, false, .imm, .none⟩, ⟨0, 1, .w1c, false, false, .imm, .none⟩]⟩,
  ⟨0x30, 1, 0x4, 0x0, [⟨16, 11, .rw, false, false, .imm, .none⟩, ⟨0, 5, .rw, false, false, .imm, .none⟩]⟩,
  ⟨0x34, 1, 0x4, 0x80000000, [⟨30, 2, .ro, false, false, .imm, .none⟩, ⟨0, 14, .ro, false, false, .imm, .none⟩]⟩,
  ⟨0x38, 1, 0x4, 0x0, [⟨16, 16, .ro, false, false, .imm, .none⟩, ⟨0, 16, .ro, false, false, .imm, .none⟩]⟩,
  ⟨0x3C, 1, 0x4, 0x80000000, [⟨31, 1, .rw, false, false, .imm, .none⟩, ⟨0, 31, .ro, false, false, .imm, .none⟩]⟩,
  ⟨0x40, 8, 0x4, 0x0, [⟨31, 1, .ro, false, false, .imm, .none⟩, ⟨27, 4, .ro, false, false, .imm, .none⟩, ⟨0, 14, .ro, false, false, .imm, .none⟩]⟩,
  ⟨0x60, 8, 0x4, 0x0, [⟨0, 32, .ro, false, false, .imm, .none⟩]⟩]

/-- The blocks of BAR0 (R67). -/
def Reg.blocks : List BlockDef := [
  ⟨0x20000, 1, 0x1000, 0, Reg.tableCEN⟩,
  ⟨0x0, 1, 0x1000, 0, Reg.tableGLB⟩,
  ⟨0x10000, 2, 0x1000, 9, Reg.tableHIF⟩,
  ⟨0x200000, 48, 0x400, 13, Reg.tableSEG⟩,
  ⟨0x100000, 16, 0x1000, 12, Reg.tableLNK⟩,
  ⟨0x6000, 1, 0x1000, 6, Reg.tableLIB⟩,
  ⟨0x7000, 1, 0x1000, 7, Reg.tableGST⟩,
  ⟨0x5000, 1, 0x1000, 5, Reg.tableTIM⟩,
  ⟨0x30000, 1, 0x1000, 11, Reg.tableSPW⟩,
  ⟨0x4000, 1, 0x1000, 4, Reg.tablePWR⟩,
  ⟨0x31000, 48, 0x40, 11, Reg.tableSPWS⟩,
  ⟨0x8000, 1, 0x1000, 8, Reg.tablePDP⟩,
  ⟨0x1000, 1, 0x1000, 1, Reg.tableSEC⟩,
  ⟨0x2000, 1, 0x1000, 2, Reg.tableNVM⟩,
  ⟨0x3000, 1, 0x1000, 3, Reg.tableFOL⟩]

/-- Where an address lands inside a list of registers. -/
def Reg.findIn : List RegDef → Nat → Option RegDef
  | [], _ => none
  | r :: rs, o =>
    if r.off ≤ o ∧ o < r.off + r.n * r.stride ∧ (o - r.off) % r.stride = 0 then some r else Reg.findIn rs o

/-- The block and register at an address; the bit of HIF names PF0's instance 9 and PF1's 10 (R59). -/
def Reg.locate (a : Nat) : List BlockDef → Option (Nat × RegDef)
  | [] => none
  | b :: bs =>
    if b.base ≤ a ∧ a < b.base + b.inst * b.stride then
      let i := (a - b.base) / b.stride
      match Reg.findIn b.regs ((a - b.base) % b.stride) with
      | some r => some (if b.bit = 9 then 9 + i else b.bit, r)
      | none => none
    else Reg.locate a bs

/-- The register at a BAR0 address; none where no register is assigned (R7). -/
def Reg.at (a : Nat) : Option (Nat × RegDef) := Reg.locate a Reg.blocks

def Reg.CEN_COUNTER (k : Nat) : Nat := 0x20000 + k * 0x4
def Reg.GLB_ID : Nat := 0x0
def Reg.GLB_ROLE : Nat := 0x4
def Reg.GLB_PROT : Nat := 0x8
def Reg.GLB_PROT_STATUS : Nat := 0xC
def Reg.GLB_PROT_HOLD : Nat := 0x10
def Reg.GLB_PARITY_ADDR : Nat := 0x14
def Reg.GLB_VOTE_ADDR : Nat := 0x18
def Reg.GLB_APPLY_PENDING : Nat := 0x1C
def Reg.GLB_CTRL : Nat := 0x20
def Reg.GLB_CENSUS : Nat := 0x24
def Reg.GLB_CENSUS_SEQ : Nat := 0x28
def Reg.GLB_CENSUS_TIME_LO : Nat := 0x2C
def Reg.GLB_CENSUS_TIME_HI : Nat := 0x30
def Reg.GLB_FRAME : Nat := 0x34
def Reg.GLB_FRAME_PHASE : Nat := 0x38
def Reg.GLB_FRAME_TIME_LO : Nat := 0x3C
def Reg.GLB_FRAME_TIME_HI : Nat := 0x40
def Reg.GLB_RESET_CAUSE : Nat := 0x44
def Reg.GLB_BOOT_COUNT : Nat := 0x48
def Reg.GLB_INT_STATUS : Nat := 0x4C
def Reg.GLB_INT_ENABLE : Nat := 0x50
def Reg.GLB_CAP : Nat := 0x54
def Reg.GLB_SEC_FAULT_ADDR : Nat := 0x58
def Reg.GLB_BUILD : Nat := 0x5C
def Reg.GLB_SCRATCH (k : Nat) : Nat := 0x80 + k * 0x4
def Reg.GLB_CNT (k : Nat) : Nat := 0x100 + k * 0x4
def Reg.HIF_CTRL (i : Nat) : Nat := 0x10000 + i * 0x1000
def Reg.HIF_STATUS (i : Nat) : Nat := 0x10004 + i * 0x1000
def Reg.HIF_RCT_BASE_LO (i : Nat) : Nat := 0x10008 + i * 0x1000
def Reg.HIF_RCT_BASE_HI (i : Nat) : Nat := 0x1000C + i * 0x1000
def Reg.HIF_DB_BASE_LO (i : Nat) : Nat := 0x10010 + i * 0x1000
def Reg.HIF_DB_BASE_HI (i : Nat) : Nat := 0x10014 + i * 0x1000
def Reg.HIF_SWEEP (i : Nat) : Nat := 0x10018 + i * 0x1000
def Reg.HIF_LEASE_PERIOD (i : Nat) : Nat := 0x1001C + i * 0x1000
def Reg.HIF_LEASE_STATUS (i : Nat) : Nat := 0x10020 + i * 0x1000
def Reg.HIF_CLAMP_COUNT (i : Nat) : Nat := 0x10024 + i * 0x1000
def Reg.HIF_SYS_EQ (i : Nat) : Nat := 0x10028 + i * 0x1000
def Reg.HIF_ERR_STATUS (i : Nat) : Nat := 0x1002C + i * 0x1000
def Reg.HIF_ERR_ADDR_LO (i : Nat) : Nat := 0x10030 + i * 0x1000
def Reg.HIF_ERR_ADDR_HI (i : Nat) : Nat := 0x10034 + i * 0x1000
def Reg.HIF_INT_ENABLE (i : Nat) : Nat := 0x10038 + i * 0x1000
def Reg.HIF_PENDING (i : Nat) : Nat := 0x1003C + i * 0x1000
def Reg.HIF_MAILBOX (i k : Nat) : Nat := 0x10040 + i * 0x1000 + k * 0x4
def Reg.HIF_MOD_PROFILE (i k : Nat) : Nat := 0x10080 + i * 0x1000 + k * 0x4
def Reg.HIF_RING_ENABLE (i k : Nat) : Nat := 0x10100 + i * 0x1000 + k * 0x4
def Reg.SEG_CTRL (i : Nat) : Nat := 0x200000 + i * 0x400
def Reg.SEG_STATUS (i : Nat) : Nat := 0x200004 + i * 0x400
def Reg.SEG_V1_CFG (i : Nat) : Nat := 0x200008 + i * 0x400
def Reg.SEG_V2_CFG (i : Nat) : Nat := 0x20000C + i * 0x400
def Reg.SEG_V2_ETYPE (i : Nat) : Nat := 0x200010 + i * 0x400
def Reg.SEG_V3_CFG (i : Nat) : Nat := 0x200014 + i * 0x400
def Reg.SEG_SCHED (i : Nat) : Nat := 0x200018 + i * 0x400
def Reg.SEG_BUDGET (i : Nat) : Nat := 0x20001C + i * 0x400
def Reg.SEG_BQ_CFG (i : Nat) : Nat := 0x200020 + i * 0x400
def Reg.SEG_BQ_COUNT (i : Nat) : Nat := 0x200024 + i * 0x400
def Reg.SEG_ENGINE (i : Nat) : Nat := 0x200028 + i * 0x400
def Reg.SEG_DISCOVER (i : Nat) : Nat := 0x20002C + i * 0x400
def Reg.SEG_FW_STATUS (i : Nat) : Nat := 0x200030 + i * 0x400
def Reg.SEG_FW_PROGRESS (i : Nat) : Nat := 0x200034 + i * 0x400
def Reg.SEG_INT_STATUS (i : Nat) : Nat := 0x200038 + i * 0x400
def Reg.SEG_INT_ENABLE (i : Nat) : Nat := 0x20003C + i * 0x400
def Reg.SEG_ATTACHED (i k : Nat) : Nat := 0x200080 + i * 0x400 + k * 0x4
def Reg.SEG_GALE (i k : Nat) : Nat := 0x2000A0 + i * 0x400 + k * 0x4
def Reg.SEG_QUARANTINED (i k : Nat) : Nat := 0x2000C0 + i * 0x400 + k * 0x4
def Reg.SEG_FAILING (i k : Nat) : Nat := 0x2000E0 + i * 0x400 + k * 0x4
def Reg.SEG_CNT (i k : Nat) : Nat := 0x200040 + i * 0x400 + k * 0x4
def Reg.LNK_CTRL (i : Nat) : Nat := 0x100000 + i * 0x1000
def Reg.LNK_CFG (i : Nat) : Nat := 0x100004 + i * 0x1000
def Reg.LNK_STATUS (i : Nat) : Nat := 0x100008 + i * 0x1000
def Reg.LNK_AN (i : Nat) : Nat := 0x10000C + i * 0x1000
def Reg.LNK_PARTNER (i : Nat) : Nat := 0x100010 + i * 0x1000
def Reg.LNK_PARTNER_ID_LO (i : Nat) : Nat := 0x100014 + i * 0x1000
def Reg.LNK_PARTNER_ID_HI (i : Nat) : Nat := 0x100018 + i * 0x1000
def Reg.LNK_VC_WEIGHT (i : Nat) : Nat := 0x10001C + i * 0x1000
def Reg.LNK_CREDIT (i k : Nat) : Nat := 0x100020 + i * 0x1000 + k * 0x4
def Reg.LNK_HOLD (i : Nat) : Nat := 0x100030 + i * 0x1000
def Reg.LNK_ORPHAN (i : Nat) : Nat := 0x100034 + i * 0x1000
def Reg.LNK_ORPHAN_STATUS (i : Nat) : Nat := 0x100038 + i * 0x1000
def Reg.LNK_POLICY (i : Nat) : Nat := 0x10003C + i * 0x1000
def Reg.LNK_KEY_FP (i k : Nat) : Nat := 0x100040 + i * 0x1000 + k * 0x4
def Reg.LNK_TS_ASYM (i : Nat) : Nat := 0x100050 + i * 0x1000
def Reg.LNK_DELAY (i : Nat) : Nat := 0x100054 + i * 0x1000
def Reg.LNK_INT_STATUS (i : Nat) : Nat := 0x100058 + i * 0x1000
def Reg.LNK_INT_ENABLE (i : Nat) : Nat := 0x10005C + i * 0x1000
def Reg.LNK_TS (i k : Nat) : Nat := 0x1000C0 + i * 0x1000 + k * 0x4
def Reg.LNK_FEC_HIST (i k : Nat) : Nat := 0x100100 + i * 0x1000 + k * 0x4
def Reg.LNK_LANE_STATUS (i k : Nat) : Nat := 0x100200 + i * 0x1000 + k * 0x20
def Reg.LNK_LANE_TXEQ (i k : Nat) : Nat := 0x100204 + i * 0x1000 + k * 0x20
def Reg.LNK_LANE_SNR (i k : Nat) : Nat := 0x100208 + i * 0x1000 + k * 0x20
def Reg.LNK_LANE_SKEW (i k : Nat) : Nat := 0x10020C + i * 0x1000 + k * 0x20
def Reg.LNK_LANE_FEC_CORR (i k : Nat) : Nat := 0x100210 + i * 0x1000 + k * 0x20
def Reg.LNK_LANE_FEC_UNCORR (i k : Nat) : Nat := 0x100214 + i * 0x1000 + k * 0x20
def Reg.LNK_LANE_AM_ERR (i k : Nat) : Nat := 0x100218 + i * 0x1000 + k * 0x20
def Reg.LNK_CNT (i k : Nat) : Nat := 0x100080 + i * 0x1000 + k * 0x4
def Reg.LIB_CTRL : Nat := 0x6000
def Reg.LIB_EPOCH : Nat := 0x6004
def Reg.LIB_EPOCH_NUM : Nat := 0x6008
def Reg.LIB_STATUS : Nat := 0x600C
def Reg.LIB_TIER : Nat := 0x6010
def Reg.LIB_POOL : Nat := 0x6014
def Reg.LIB_BALANCE : Nat := 0x6018
def Reg.LIB_ENGINE_MOVE : Nat := 0x601C
def Reg.LIB_RSV0_BASE_LO : Nat := 0x6020
def Reg.LIB_RSV0_BASE_HI : Nat := 0x6024
def Reg.LIB_RSV1_BASE_LO : Nat := 0x6030
def Reg.LIB_RSV1_BASE_HI : Nat := 0x6034
def Reg.LIB_RSV0_SIZE : Nat := 0x6028
def Reg.LIB_RSV1_SIZE : Nat := 0x6038
def Reg.LIB_RSV0_USED : Nat := 0x602C
def Reg.LIB_RSV1_USED : Nat := 0x603C
def Reg.LIB_FWD_STATUS : Nat := 0x6040
def Reg.LIB_FWD_WINDOW : Nat := 0x6044
def Reg.LIB_INT_STATUS : Nat := 0x6048
def Reg.LIB_INT_ENABLE : Nat := 0x604C
def Reg.LIB_STAT (k : Nat) : Nat := 0x6050 + k * 0x4
def Reg.LIB_VACATED (k : Nat) : Nat := 0x6084 + k * 0x4
def Reg.LIB_ENGINE (k : Nat) : Nat := 0x6100 + k * 0x4
def Reg.LIB_CORE (k : Nat) : Nat := 0x6200 + k * 0x4
def Reg.LIB_HOT (k : Nat) : Nat := 0x6280 + k * 0x4
def Reg.GST_CTRL : Nat := 0x7000
def Reg.GST_STATUS : Nat := 0x7004
def Reg.GST_RULES : Nat := 0x7008
def Reg.GST_HOLD : Nat := 0x700C
def Reg.GST_DEPOSITS : Nat := 0x7010
def Reg.GST_EVAL_MAX : Nat := 0x7014
def Reg.GST_LAST_FIRED : Nat := 0x7018
def Reg.GST_LAST_ARB : Nat := 0x701C
def Reg.GST_INT_STATUS : Nat := 0x7020
def Reg.GST_INT_ENABLE : Nat := 0x7024
def Reg.GST_PEEK_INDEX : Nat := 0x7028
def Reg.GST_PEEK_STATE : Nat := 0x702C
def Reg.GST_PEEK (k : Nat) : Nat := 0x7060 + k * 0x4
def Reg.GST_EVAL_RATE : Nat := 0x7030
def Reg.GST_SUBSCRIBED : Nat := 0x7038
def Reg.GST_ORPHAN : Nat := 0x7034
def Reg.GST_HUB_RULES (k : Nat) : Nat := 0x7100 + k * 0x4
def Reg.GST_SLOT_EVALS (k : Nat) : Nat := 0x7180 + k * 0x4
def Reg.GST_CNT (k : Nat) : Nat := 0x7080 + k * 0x4
def Reg.TIM_CTRL : Nat := 0x5000
def Reg.TIM_SRC : Nat := 0x5004
def Reg.TIM_STATUS : Nat := 0x5008
def Reg.TIM_NOW_LO : Nat := 0x500C
def Reg.TIM_NOW_HI : Nat := 0x5010
def Reg.TIM_NOW_FRAC : Nat := 0x5014
def Reg.TIM_OFFSET : Nat := 0x5018
def Reg.TIM_SLEW_LEFT : Nat := 0x501C
def Reg.TIM_STEP_LIMIT : Nat := 0x5020
def Reg.TIM_SLEW_MAX : Nat := 0x5024
def Reg.TIM_LIMITS : Nat := 0x5028
def Reg.TIM_LEAP : Nat := 0x502C
def Reg.TIM_STEP_FRAME : Nat := 0x5030
def Reg.TIM_HOLD_ELAPSED : Nat := 0x5034
def Reg.TIM_INT_STATUS : Nat := 0x5038
def Reg.TIM_INT_ENABLE : Nat := 0x503C
def Reg.TIM_LINK_JITTER (k : Nat) : Nat := 0x5080 + k * 0x4
def Reg.TIM_OFFSET_HIST (k : Nat) : Nat := 0x5100 + k * 0x4
def Reg.SPW_BUDGET : Nat := 0x30000
def Reg.SPW_QUEUE : Nat := 0x30004
def Reg.SPW_SENSE_CFG : Nat := 0x30008
def Reg.SPW_STORE : Nat := 0x3000C
def Reg.SPW_INT_STATUS : Nat := 0x30010
def Reg.SPW_INT_ENABLE : Nat := 0x30014
def Reg.PWR_INT_ENABLE : Nat := 0x4044
def Reg.SPW_SHED (k : Nat) : Nat := 0x30020 + k * 0x4
def Reg.SPW_ON (k : Nat) : Nat := 0x30028 + k * 0x4
def Reg.SPW_QUEUED (k : Nat) : Nat := 0x30030 + k * 0x4
def Reg.SPW_RAMPING (k : Nat) : Nat := 0x30038 + k * 0x4
def Reg.SPW_TRIPPED (k : Nat) : Nat := 0x30040 + k * 0x4
def Reg.SPW_LATCHED (k : Nat) : Nat := 0x30048 + k * 0x4
def Reg.SPW_SUSPECT (k : Nat) : Nat := 0x30050 + k * 0x4
def Reg.SPW_GALE (k : Nat) : Nat := 0x30058 + k * 0x4
def Reg.SPW_BANK (k : Nat) : Nat := 0x30060 + k * 0x4
def Reg.SPW_CTRL (i : Nat) : Nat := 0x31000 + i * 0x40
def Reg.SPW_STATUS (i : Nat) : Nat := 0x31004 + i * 0x40
def Reg.SPW_CURVE (i k : Nat) : Nat := 0x31008 + i * 0x40 + k * 0x4
def Reg.SPW_INRUSH (i k : Nat) : Nat := 0x31018 + i * 0x40 + k * 0x4
def Reg.SPW_CNT (k : Nat) : Nat := 0x30080 + k * 0x4
def Reg.PWR_CTRL : Nat := 0x4000
def Reg.PWR_STATUS : Nat := 0x4004
def Reg.PWR_LULL_CFG : Nat := 0x4008
def Reg.PWR_LULL_STATUS : Nat := 0x400C
def Reg.PWR_LULL_MATCH : Nat := 0x4010
def Reg.PWR_WATCH_INDEX : Nat := 0x4014
def Reg.PWR_WATCH_DATA (k : Nat) : Nat := 0x4018 + k * 0x4
def Reg.PWR_SQUALL_CFG : Nat := 0x4028
def Reg.PWR_SQUALL_STATUS : Nat := 0x402C
def Reg.PWR_TEMP : Nat := 0x4030
def Reg.PWR_TEMP_PEAK : Nat := 0x4034
def Reg.PWR_THERMAL : Nat := 0x4038
def Reg.PWR_VAULT_CFG : Nat := 0x403C
def Reg.PWR_INT_STATUS : Nat := 0x4040
def Reg.PWR_DOM (k : Nat) : Nat := 0x4080 + k * 0x4
def Reg.PWR_CNT (k : Nat) : Nat := 0x40C0 + k * 0x4
def Reg.PDP_CTRL : Nat := 0x8000
def Reg.PDP_STATUS : Nat := 0x8004
def Reg.PDP_TC_CFG : Nat := 0x8008
def Reg.PDP_SRC_PDO : Nat := 0x800C
def Reg.PDP_SNK_PDO : Nat := 0x8010
def Reg.PDP_CONTRACT : Nat := 0x8024
def Reg.PDP_PARTNER_SRC (k : Nat) : Nat := 0x8060 + k * 0x4
def Reg.PDP_PARTNER_SNK (k : Nat) : Nat := 0x8080 + k * 0x4
def Reg.PDP_TIMER : Nat := 0x8014
def Reg.PDP_FRS : Nat := 0x8018
def Reg.PDP_FRS_TIME_LO : Nat := 0x801C
def Reg.PDP_FRS_TIME_HI : Nat := 0x8020
def Reg.PDP_CC_STATUS : Nat := 0x8028
def Reg.PDP_VBUS : Nat := 0x802C
def Reg.PDP_USB_ID : Nat := 0x8030
def Reg.PDP_USB_STATUS : Nat := 0x8034
def Reg.PDP_RECOVERY : Nat := 0x8038
def Reg.PDP_MAINT : Nat := 0x803C
def Reg.PDP_INT_STATUS : Nat := 0x8040
def Reg.PDP_INT_ENABLE : Nat := 0x8044
def Reg.PDP_LAST_RX (k : Nat) : Nat := 0x80A0 + k * 0x4
def Reg.PDP_LAST_TX (k : Nat) : Nat := 0x80C0 + k * 0x4
def Reg.PDP_MAINT_LOG (k : Nat) : Nat := 0x8100 + k * 0x4
def Reg.PDP_CNT (k : Nat) : Nat := 0x8140 + k * 0x4
def Reg.SEC_STATUS : Nat := 0x1000
def Reg.SEC_LOCK : Nat := 0x1004
def Reg.SEC_LIFECYCLE : Nat := 0x1008
def Reg.SEC_JTAG : Nat := 0x100C
def Reg.SEC_SVN : Nat := 0x1010
def Reg.SEC_DEV_ID_LO : Nat := 0x1014
def Reg.SEC_DEV_ID_HI : Nat := 0x1018
def Reg.SEC_TRNG_STATUS : Nat := 0x101C
def Reg.SEC_INT_STATUS : Nat := 0x1020
def Reg.SEC_INT_ENABLE : Nat := 0x1024
def Reg.NVM_INT_ENABLE : Nat := 0x2034
def Reg.SEC_BOOT_STATUS : Nat := 0x1028
def Reg.SEC_OTP_STATUS : Nat := 0x102C
def Reg.SEC_DEV_PUBKEY (k : Nat) : Nat := 0x1040 + k * 0x4
def Reg.SEC_FAMILY_KEY_HASH (k : Nat) : Nat := 0x1080 + k * 0x4
def Reg.SEC_CNT (k : Nat) : Nat := 0x10C0 + k * 0x4
def Reg.NVM_CTRL : Nat := 0x2000
def Reg.NVM_STATUS : Nat := 0x2004
def Reg.NVM_BOOT : Nat := 0x2008
def Reg.NVM_CONFIRM : Nat := 0x200C
def Reg.NVM_CONFIRM_WINDOW : Nat := 0x2010
def Reg.NVM_SCHED_TIME_LO : Nat := 0x2014
def Reg.NVM_SCHED_TIME_HI : Nat := 0x2018
def Reg.NVM_SESSION_BUNDLE : Nat := 0x2020
def Reg.NVM_VOL_A_BUILD : Nat := 0x2040
def Reg.NVM_VOL_B_BUILD : Nat := 0x2050
def Reg.NVM_SESSION : Nat := 0x201C
def Reg.NVM_CMD : Nat := 0x2024
def Reg.NVM_CMD_ADDR : Nat := 0x2028
def Reg.NVM_CMD_STATUS : Nat := 0x202C
def Reg.NVM_INT_STATUS : Nat := 0x2030
def Reg.NVM_JOURNAL : Nat := 0x2038
def Reg.NVM_SETTINGS : Nat := 0x203C
def Reg.NVM_VOL_A_SVN : Nat := 0x2044
def Reg.NVM_VOL_B_SVN : Nat := 0x2054
def Reg.NVM_VOL_A_STATUS : Nat := 0x2048
def Reg.NVM_VOL_B_STATUS : Nat := 0x2058
def Reg.NVM_VOL_A_CAP : Nat := 0x204C
def Reg.NVM_VOL_B_CAP : Nat := 0x205C
def Reg.NVM_BANKA_WEAR : Nat := 0x2060
def Reg.NVM_BANKB_WEAR : Nat := 0x2064
def Reg.NVM_BANKC_WEAR : Nat := 0x2068
def Reg.NVM_RETIRED : Nat := 0x206C
def Reg.NVM_BITMAP (k : Nat) : Nat := 0x2080 + k * 0x4
def Reg.NVM_LAST_ERASE_US : Nat := 0x2100
def Reg.NVM_WORST_ERASE_US : Nat := 0x2104
def Reg.NVM_CORR_WORDS : Nat := 0x2108
def Reg.NVM_LAST_RETIRED : Nat := 0x210C
def Reg.NVM_CNT (k : Nat) : Nat := 0x20E0 + k * 0x4
def Reg.FOL_CTRL : Nat := 0x3000
def Reg.FOL_STATUS : Nat := 0x3004
def Reg.FOL_HEAD_SEQ : Nat := 0x3008
def Reg.FOL_TAIL_SEQ : Nat := 0x300C
def Reg.FOL_SEAL_SEQ : Nat := 0x3020
def Reg.FOL_GOV : Nat := 0x3010
def Reg.FOL_COALESCE : Nat := 0x3014
def Reg.FOL_SECTORS : Nat := 0x3018
def Reg.FOL_ERASE : Nat := 0x301C
def Reg.FOL_LOST : Nat := 0x3024
def Reg.FOL_LAST_CODE : Nat := 0x3028
def Reg.FOL_INT_STATUS : Nat := 0x302C
def Reg.FOL_INT_ENABLE : Nat := 0x3030
def Reg.FOL_SRAM_STATUS : Nat := 0x3034
def Reg.FOL_REPAIR : Nat := 0x3038
def Reg.FOL_SCRUB : Nat := 0x303C
def Reg.FOL_POISON (k : Nat) : Nat := 0x3040 + k * 0x4
def Reg.FOL_CNT (k : Nat) : Nat := 0x3060 + k * 0x4

def Fld.CEN_COUNTER_VALUE : BitRange := ⟨0, 32⟩
def Fld.GLB_ID_PART : BitRange := ⟨16, 16⟩
def Fld.GLB_ID_STEP : BitRange := ⟨8, 8⟩
def Fld.GLB_ROLE_HUB : BitRange := ⟨11, 5⟩
def Fld.GLB_ROLE_LIFECYCLE : BitRange := ⟨8, 3⟩
def Fld.GLB_ROLE_ROLE : BitRange := ⟨0, 2⟩
def Fld.GLB_PROT_MODE : BitRange := ⟨0, 2⟩
def Fld.GLB_PROT_STATUS_TRIPLE_DISAGREE : BitRange := ⟨10, 1⟩
def Fld.GLB_PROT_STATUS_PARITY_FAULT : BitRange := ⟨9, 1⟩
def Fld.GLB_PROT_STATUS_VOTE_FIX : BitRange := ⟨8, 1⟩
def Fld.GLB_PROT_STATUS_ACTIVE_MODE : BitRange := ⟨0, 2⟩
def Fld.GLB_PROT_HOLD_HOLD : BitRange := ⟨0, 14⟩
def Fld.GLB_PARITY_ADDR_VALID : BitRange := ⟨31, 1⟩
def Fld.GLB_PARITY_ADDR_ADDR : BitRange := ⟨0, 24⟩
def Fld.GLB_VOTE_ADDR_VALID : BitRange := ⟨31, 1⟩
def Fld.GLB_VOTE_ADDR_ADDR : BitRange := ⟨0, 24⟩
def Fld.GLB_APPLY_PENDING_BOOT_SYNC : BitRange := ⟨17, 1⟩
def Fld.GLB_APPLY_PENDING_BOOT : BitRange := ⟨16, 1⟩
def Fld.GLB_APPLY_PENDING_BLOCK : BitRange := ⟨0, 14⟩
def Fld.GLB_CTRL_KEY : BitRange := ⟨16, 16⟩
def Fld.GLB_CTRL_WARM_RESET : BitRange := ⟨0, 1⟩
def Fld.GLB_CENSUS_BUSY : BitRange := ⟨31, 1⟩
def Fld.GLB_CENSUS_DROPPED : BitRange := ⟨1, 1⟩
def Fld.GLB_CENSUS_TAKE : BitRange := ⟨0, 1⟩
def Fld.GLB_CENSUS_SEQ_SEQ : BitRange := ⟨0, 32⟩
def Fld.GLB_CENSUS_TIME_LO_NS : BitRange := ⟨0, 32⟩
def Fld.GLB_CENSUS_TIME_HI_NS : BitRange := ⟨0, 32⟩
def Fld.GLB_FRAME_FRAME : BitRange := ⟨0, 32⟩
def Fld.GLB_FRAME_PHASE_SLOT : BitRange := ⟨20, 3⟩
def Fld.GLB_FRAME_PHASE_OFFSET : BitRange := ⟨0, 20⟩
def Fld.GLB_FRAME_TIME_LO_NS : BitRange := ⟨0, 32⟩
def Fld.GLB_FRAME_TIME_HI_NS : BitRange := ⟨0, 32⟩
def Fld.GLB_RESET_CAUSE_NO_CORES : BitRange := ⟨6, 1⟩
def Fld.GLB_RESET_CAUSE_LOCKSTEP : BitRange := ⟨5, 1⟩
def Fld.GLB_RESET_CAUSE_SCHEDULED : BitRange := ⟨4, 1⟩
def Fld.GLB_RESET_CAUSE_WATCHDOG : BitRange := ⟨3, 1⟩
def Fld.GLB_RESET_CAUSE_WARM : BitRange := ⟨2, 1⟩
def Fld.GLB_RESET_CAUSE_PERST : BitRange := ⟨1, 1⟩
def Fld.GLB_RESET_CAUSE_POWER_ON : BitRange := ⟨0, 1⟩
def Fld.GLB_BOOT_COUNT_COUNT : BitRange := ⟨0, 32⟩
def Fld.GLB_INT_STATUS_SEC_IGNORED : BitRange := ⟨3, 1⟩
def Fld.GLB_INT_STATUS_CENSUS_DONE : BitRange := ⟨2, 1⟩
def Fld.GLB_INT_STATUS_HOLD : BitRange := ⟨1, 1⟩
def Fld.GLB_INT_STATUS_VOTE : BitRange := ⟨0, 1⟩
def Fld.GLB_INT_ENABLE_VECTOR : BitRange := ⟨16, 11⟩
def Fld.GLB_INT_ENABLE_ENABLE : BitRange := ⟨0, 4⟩
def Fld.GLB_CAP_SEG_PORTS : BitRange := ⟨16, 8⟩
def Fld.GLB_CAP_LINK_PORTS : BitRange := ⟨8, 8⟩
def Fld.GLB_CAP_SERVICE_CORES : BitRange := ⟨0, 8⟩
def Fld.GLB_SEC_FAULT_ADDR_VALID : BitRange := ⟨31, 1⟩
def Fld.GLB_SEC_FAULT_ADDR_SOURCE : BitRange := ⟨29, 2⟩
def Fld.GLB_SEC_FAULT_ADDR_BAR4 : BitRange := ⟨28, 1⟩
def Fld.GLB_SEC_FAULT_ADDR_ADDR : BitRange := ⟨0, 24⟩
def Fld.GLB_BUILD_BUILD : BitRange := ⟨0, 32⟩
def Fld.GLB_SCRATCH_DATA : BitRange := ⟨0, 32⟩
def Fld.GLB_CNT_COUNT : BitRange := ⟨0, 32⟩
def Fld.HIF_CTRL_DB_MODE : BitRange := ⟨0, 1⟩
def Fld.HIF_STATUS_READY : BitRange := ⟨31, 1⟩
def Fld.HIF_STATUS_ACTIVE : BitRange := ⟨30, 1⟩
def Fld.HIF_STATUS_STANDBY : BitRange := ⟨29, 1⟩
def Fld.HIF_STATUS_WIDTH : BitRange := ⟨4, 5⟩
def Fld.HIF_STATUS_SPEED : BitRange := ⟨0, 4⟩
def Fld.HIF_RCT_BASE_LO_ADDR : BitRange := ⟨0, 32⟩
def Fld.HIF_RCT_BASE_HI_ADDR : BitRange := ⟨0, 32⟩
def Fld.HIF_DB_BASE_LO_ADDR : BitRange := ⟨0, 32⟩
def Fld.HIF_DB_BASE_HI_ADDR : BitRange := ⟨0, 32⟩
def Fld.HIF_SWEEP_INTERVAL : BitRange := ⟨0, 9⟩
def Fld.HIF_LEASE_PERIOD_PERIOD_MS : BitRange := ⟨0, 14⟩
def Fld.HIF_LEASE_STATUS_VALID : BitRange := ⟨31, 1⟩
def Fld.HIF_LEASE_STATUS_HOLDER : BitRange := ⟨30, 1⟩
def Fld.HIF_LEASE_STATUS_EXPIRED : BitRange := ⟨29, 1⟩
def Fld.HIF_LEASE_STATUS_TAKES : BitRange := ⟨16, 8⟩
def Fld.HIF_LEASE_STATUS_REMAINING_MS : BitRange := ⟨0, 16⟩
def Fld.HIF_CLAMP_COUNT_COUNT : BitRange := ⟨0, 32⟩
def Fld.HIF_SYS_EQ_RING : BitRange := ⟨0, 11⟩
def Fld.HIF_ERR_STATUS_RING : BitRange := ⟨16, 11⟩
def Fld.HIF_ERR_STATUS_EVENT_LOST : BitRange := ⟨4, 1⟩
def Fld.HIF_ERR_STATUS_FQ_OVERFLOW : BitRange := ⟨3, 1⟩
def Fld.HIF_ERR_STATUS_ATOMIC_FAIL : BitRange := ⟨2, 1⟩
def Fld.HIF_ERR_STATUS_DMA_ERROR : BitRange := ⟨1, 1⟩
def Fld.HIF_ERR_STATUS_CTX_CLAMPED : BitRange := ⟨0, 1⟩
def Fld.HIF_ERR_ADDR_LO_ADDR : BitRange := ⟨0, 32⟩
def Fld.HIF_ERR_ADDR_HI_ADDR : BitRange := ⟨0, 32⟩
def Fld.HIF_INT_ENABLE_VECTOR : BitRange := ⟨16, 11⟩
def Fld.HIF_INT_ENABLE_ENABLE : BitRange := ⟨0, 5⟩
def Fld.HIF_PENDING_FQ_WAITING : BitRange := ⟨16, 16⟩
def Fld.HIF_PENDING_EQ_FULL : BitRange := ⟨0, 11⟩
def Fld.HIF_MAILBOX_DATA : BitRange := ⟨0, 32⟩
def Fld.HIF_MOD_PROFILE_TIME_US : BitRange := ⟨16, 16⟩
def Fld.HIF_MOD_PROFILE_COUNT : BitRange := ⟨0, 16⟩
def Fld.HIF_RING_ENABLE_ENABLE : BitRange := ⟨0, 32⟩
def Fld.SEG_CTRL_GEN : BitRange := ⟨4, 2⟩
def Fld.SEG_CTRL_SUSPEND : BitRange := ⟨1, 1⟩
def Fld.SEG_CTRL_ENABLE : BitRange := ⟨0, 1⟩
def Fld.SEG_STATUS_ATTACHED : BitRange := ⟨24, 8⟩
def Fld.SEG_STATUS_GALE_NODES : BitRange := ⟨16, 8⟩
def Fld.SEG_STATUS_LINE_FAULT : BitRange := ⟨4, 1⟩
def Fld.SEG_STATUS_DIST : BitRange := ⟨3, 1⟩
def Fld.SEG_STATUS_STATE : BitRange := ⟨0, 3⟩
def Fld.SEG_V1_CFG_RATE_KBPS : BitRange := ⟨8, 16⟩
def Fld.SEG_V1_CFG_TERM : BitRange := ⟨0, 1⟩
def Fld.SEG_V2_CFG_PLCA_COUNT : BitRange := ⟨8, 8⟩
def Fld.SEG_V2_CFG_TO_TIMER : BitRange := ⟨0, 8⟩
def Fld.SEG_V2_ETYPE_ETHERTYPE : BitRange := ⟨0, 16⟩
def Fld.SEG_V3_CFG_LOOPBACK : BitRange := ⟨0, 1⟩
def Fld.SEG_SCHED_COV_BUDGET : BitRange := ⟨24, 4⟩
def Fld.SEG_SCHED_ROUND : BitRange := ⟨0, 20⟩
def Fld.SEG_BUDGET_GALE_BT : BitRange := ⟨16, 16⟩
def Fld.SEG_BUDGET_DRAUGHT_CAP : BitRange := ⟨0, 11⟩
def Fld.SEG_BQ_CFG_CUT_THROUGH : BitRange := ⟨0, 12⟩
def Fld.SEG_BQ_COUNT_COUNT : BitRange := ⟨0, 17⟩
def Fld.SEG_ENGINE_SPARE : BitRange := ⟨31, 1⟩
def Fld.SEG_ENGINE_ENGINE : BitRange := ⟨0, 6⟩
def Fld.SEG_DISCOVER_INTERVAL_MS : BitRange := ⟨16, 14⟩
def Fld.SEG_DISCOVER_NOISE : BitRange := ⟨12, 1⟩
def Fld.SEG_DISCOVER_SPREAD : BitRange := ⟨8, 3⟩
def Fld.SEG_DISCOVER_SWEEP : BitRange := ⟨0, 8⟩
def Fld.SEG_FW_STATUS_SESSION : BitRange := ⟨16, 16⟩
def Fld.SEG_FW_STATUS_ROUND : BitRange := ⟨8, 8⟩
def Fld.SEG_FW_STATUS_STATE : BitRange := ⟨0, 2⟩
def Fld.SEG_FW_PROGRESS_TARGETS : BitRange := ⟨24, 8⟩
def Fld.SEG_FW_PROGRESS_DROPPED : BitRange := ⟨16, 8⟩
def Fld.SEG_FW_PROGRESS_HELD : BitRange := ⟨0, 16⟩
def Fld.SEG_INT_STATUS_DIST_DONE : BitRange := ⟨4, 1⟩
def Fld.SEG_INT_STATUS_LINE_FAULT : BitRange := ⟨3, 1⟩
def Fld.SEG_INT_STATUS_BQ_UNDERRUN : BitRange := ⟨2, 1⟩
def Fld.SEG_INT_STATUS_STATE_CHANGE : BitRange := ⟨1, 1⟩
def Fld.SEG_INT_STATUS_FAILING : BitRange := ⟨0, 1⟩
def Fld.SEG_INT_ENABLE_VECTOR : BitRange := ⟨16, 11⟩
def Fld.SEG_INT_ENABLE_ENABLE : BitRange := ⟨0, 5⟩
def Fld.SEG_ATTACHED_NODES : BitRange := ⟨0, 32⟩
def Fld.SEG_GALE_NODES : BitRange := ⟨0, 32⟩
def Fld.SEG_QUARANTINED_NODES : BitRange := ⟨0, 32⟩
def Fld.SEG_FAILING_NODES : BitRange := ⟨0, 32⟩
def Fld.SEG_CNT_COUNT : BitRange := ⟨0, 32⟩
def Fld.LNK_CTRL_RATE_UP : BitRange := ⟨3, 1⟩
def Fld.LNK_CTRL_RATE_DOWN : BitRange := ⟨2, 1⟩
def Fld.LNK_CTRL_RETRAIN : BitRange := ⟨1, 1⟩
def Fld.LNK_CTRL_ENABLE : BitRange := ⟨0, 1⟩
def Fld.LNK_CFG_AUTO_DOWN : BitRange := ⟨9, 1⟩
def Fld.LNK_CFG_BOND : BitRange := ⟨8, 1⟩
def Fld.LNK_CFG_RATES : BitRange := ⟨4, 4⟩
def Fld.LNK_CFG_MODE : BitRange := ⟨0, 2⟩
def Fld.LNK_STATUS_CAUSE : BitRange := ⟨24, 8⟩
def Fld.LNK_STATUS_PRESENT : BitRange := ⟨15, 1⟩
def Fld.LNK_STATUS_DEGRADED : BitRange := ⟨14, 1⟩
def Fld.LNK_STATUS_LANES : BitRange := ⟨10, 4⟩
def Fld.LNK_STATUS_RATE : BitRange := ⟨7, 3⟩
def Fld.LNK_STATUS_STATE : BitRange := ⟨0, 4⟩
def Fld.LNK_AN_WIDTH : BitRange := ⟨20, 4⟩
def Fld.LNK_AN_RESOLVED : BitRange := ⟨16, 3⟩
def Fld.LNK_AN_LP : BitRange := ⟨8, 8⟩
def Fld.LNK_AN_ADV : BitRange := ⟨0, 8⟩
def Fld.LNK_PARTNER_HUB : BitRange := ⟨16, 5⟩
def Fld.LNK_PARTNER_WIDTH : BitRange := ⟨12, 4⟩
def Fld.LNK_PARTNER_PORT : BitRange := ⟨8, 4⟩
def Fld.LNK_PARTNER_QUARANTINED : BitRange := ⟨7, 1⟩
def Fld.LNK_PARTNER_CERT_OK : BitRange := ⟨6, 1⟩
def Fld.LNK_PARTNER_LIFECYCLE : BitRange := ⟨5, 1⟩
def Fld.LNK_PARTNER_CLASS : BitRange := ⟨0, 3⟩
def Fld.LNK_PARTNER_ID_LO_ID : BitRange := ⟨0, 32⟩
def Fld.LNK_PARTNER_ID_HI_ID : BitRange := ⟨0, 32⟩
def Fld.LNK_VC_WEIGHT_BREEZE : BitRange := ⟨8, 8⟩
def Fld.LNK_VC_WEIGHT_DRAUGHT : BitRange := ⟨0, 8⟩
def Fld.LNK_CREDIT_TX : BitRange := ⟨16, 12⟩
def Fld.LNK_CREDIT_RX_FREE : BitRange := ⟨0, 12⟩
def Fld.LNK_HOLD_TIMEOUT_MS : BitRange := ⟨0, 14⟩
def Fld.LNK_ORPHAN_CPL_HOLD_S : BitRange := ⟨16, 8⟩
def Fld.LNK_ORPHAN_LIMIT : BitRange := ⟨0, 9⟩
def Fld.LNK_ORPHAN_STATUS_EPISODES : BitRange := ⟨16, 16⟩
def Fld.LNK_ORPHAN_STATUS_LAST_MS : BitRange := ⟨0, 16⟩
def Fld.LNK_POLICY_DENY : BitRange := ⟨9, 1⟩
def Fld.LNK_POLICY_APPROVE : BitRange := ⟨8, 1⟩
def Fld.LNK_POLICY_POLICY : BitRange := ⟨0, 2⟩
def Fld.LNK_KEY_FP_FP : BitRange := ⟨0, 32⟩
def Fld.LNK_TS_ASYM_ASYM_PS : BitRange := ⟨0, 32⟩
def Fld.LNK_DELAY_D_PS : BitRange := ⟨0, 32⟩
def Fld.LNK_INT_STATUS_RATE_CHANGE : BitRange := ⟨5, 1⟩
def Fld.LNK_INT_STATUS_REPLAY_EXHAUSTED : BitRange := ⟨4, 1⟩
def Fld.LNK_INT_STATUS_HOLD_TIMEOUT : BitRange := ⟨3, 1⟩
def Fld.LNK_INT_STATUS_REFUSED : BitRange := ⟨2, 1⟩
def Fld.LNK_INT_STATUS_DEGRADED : BitRange := ⟨1, 1⟩
def Fld.LNK_INT_STATUS_STATE_CHANGE : BitRange := ⟨0, 1⟩
def Fld.LNK_INT_ENABLE_VECTOR : BitRange := ⟨16, 11⟩
def Fld.LNK_INT_ENABLE_ENABLE : BitRange := ⟨0, 6⟩
def Fld.LNK_TS_NS : BitRange := ⟨0, 32⟩
def Fld.LNK_FEC_HIST_COUNT : BitRange := ⟨0, 32⟩
def Fld.LNK_LANE_STATUS_LOGICAL : BitRange := ⟨5, 2⟩
def Fld.LNK_LANE_STATUS_POL_INV : BitRange := ⟨4, 1⟩
def Fld.LNK_LANE_STATUS_FAILED : BitRange := ⟨3, 1⟩
def Fld.LNK_LANE_STATUS_ACTIVE : BitRange := ⟨2, 1⟩
def Fld.LNK_LANE_STATUS_LOS : BitRange := ⟨1, 1⟩
def Fld.LNK_LANE_STATUS_LOCK : BitRange := ⟨0, 1⟩
def Fld.LNK_LANE_TXEQ_C_M2 : BitRange := ⟨24, 8⟩
def Fld.LNK_LANE_TXEQ_C_M1 : BitRange := ⟨16, 8⟩
def Fld.LNK_LANE_TXEQ_C_0 : BitRange := ⟨8, 8⟩
def Fld.LNK_LANE_TXEQ_C_P1 : BitRange := ⟨0, 8⟩
def Fld.LNK_LANE_SNR_SNR : BitRange := ⟨0, 16⟩
def Fld.LNK_LANE_SKEW_SKEW_PS : BitRange := ⟨0, 16⟩
def Fld.LNK_LANE_FEC_CORR_COUNT : BitRange := ⟨0, 32⟩
def Fld.LNK_LANE_FEC_UNCORR_COUNT : BitRange := ⟨0, 32⟩
def Fld.LNK_LANE_AM_ERR_COUNT : BitRange := ⟨0, 32⟩
def Fld.LNK_CNT_COUNT : BitRange := ⟨0, 32⟩
def Fld.LIB_CTRL_REBALANCE : BitRange := ⟨1, 1⟩
def Fld.LIB_CTRL_TIER : BitRange := ⟨0, 1⟩
def Fld.LIB_EPOCH_MS : BitRange := ⟨0, 16⟩
def Fld.LIB_EPOCH_NUM_EPOCH : BitRange := ⟨0, 32⟩
def Fld.LIB_STATUS_SPARES : BitRange := ⟨24, 3⟩
def Fld.LIB_STATUS_CORES : BitRange := ⟨16, 4⟩
def Fld.LIB_STATUS_CORES_LOW : BitRange := ⟨4, 1⟩
def Fld.LIB_STATUS_SEG_LOST : BitRange := ⟨3, 1⟩
def Fld.LIB_STATUS_RSV_FAULT1 : BitRange := ⟨2, 1⟩
def Fld.LIB_STATUS_RSV_FAULT0 : BitRange := ⟨1, 1⟩
def Fld.LIB_TIER_HIGH_WATER : BitRange := ⟨16, 16⟩
def Fld.LIB_TIER_LOW_WATER : BitRange := ⟨0, 16⟩
def Fld.LIB_POOL_FREE : BitRange := ⟨0, 20⟩
def Fld.LIB_BALANCE_MAX_MOVES : BitRange := ⟨16, 16⟩
def Fld.LIB_BALANCE_THRESHOLD_PCT : BitRange := ⟨0, 8⟩
def Fld.LIB_ENGINE_MOVE_KEY : BitRange := ⟨16, 16⟩
def Fld.LIB_ENGINE_MOVE_PORT : BitRange := ⟨0, 6⟩
def Fld.LIB_RSV0_BASE_LO_ADDR : BitRange := ⟨0, 32⟩
def Fld.LIB_RSV0_BASE_HI_ADDR : BitRange := ⟨0, 32⟩
def Fld.LIB_RSV1_BASE_LO_ADDR : BitRange := ⟨0, 32⟩
def Fld.LIB_RSV1_BASE_HI_ADDR : BitRange := ⟨0, 32⟩
def Fld.LIB_RSV0_SIZE_MIB : BitRange := ⟨0, 13⟩
def Fld.LIB_RSV1_SIZE_MIB : BitRange := ⟨0, 13⟩
def Fld.LIB_RSV0_USED_GRANULES : BitRange := ⟨0, 27⟩
def Fld.LIB_RSV1_USED_GRANULES : BitRange := ⟨0, 27⟩
def Fld.LIB_FWD_STATUS_HUBS : BitRange := ⟨1, 16⟩
def Fld.LIB_FWD_WINDOW_HUBS : BitRange := ⟨1, 16⟩
def Fld.LIB_INT_STATUS_RENUMBER : BitRange := ⟨4, 1⟩
def Fld.LIB_INT_STATUS_CORE_FAIL : BitRange := ⟨3, 1⟩
def Fld.LIB_INT_STATUS_ENGINE_FAIL : BitRange := ⟨2, 1⟩
def Fld.LIB_INT_STATUS_RSV_FAULT : BitRange := ⟨1, 1⟩
def Fld.LIB_INT_STATUS_EPOCH : BitRange := ⟨0, 1⟩
def Fld.LIB_INT_ENABLE_VECTOR : BitRange := ⟨16, 11⟩
def Fld.LIB_INT_ENABLE_ENABLE : BitRange := ⟨0, 5⟩
def Fld.LIB_STAT_VALUE : BitRange := ⟨0, 32⟩
def Fld.LIB_VACATED_VALID : BitRange := ⟨31, 1⟩
def Fld.LIB_VACATED_END_EPOCH : BitRange := ⟨8, 16⟩
def Fld.LIB_VACATED_SUCCESSOR : BitRange := ⟨0, 5⟩
def Fld.LIB_ENGINE_FAILED : BitRange := ⟨31, 1⟩
def Fld.LIB_ENGINE_RETIRED : BitRange := ⟨30, 1⟩
def Fld.LIB_ENGINE_FAILS : BitRange := ⟨16, 8⟩
def Fld.LIB_ENGINE_SERVING : BitRange := ⟨6, 1⟩
def Fld.LIB_ENGINE_PORT : BitRange := ⟨0, 6⟩
def Fld.LIB_CORE_FAILED : BitRange := ⟨31, 1⟩
def Fld.LIB_CORE_STANDBY : BitRange := ⟨30, 1⟩
def Fld.LIB_CORE_LOAD_PCT : BitRange := ⟨16, 8⟩
def Fld.LIB_CORE_SERVICES : BitRange := ⟨0, 7⟩
def Fld.LIB_HOT_RATE : BitRange := ⟨12, 20⟩
def Fld.LIB_HOT_PF : BitRange := ⟨11, 1⟩
def Fld.LIB_HOT_RING : BitRange := ⟨0, 11⟩
def Fld.GST_CTRL_ARB_EVENT : BitRange := ⟨1, 1⟩
def Fld.GST_CTRL_ENABLE : BitRange := ⟨0, 1⟩
def Fld.GST_STATUS_RESTORED : BitRange := ⟨31, 1⟩
def Fld.GST_STATUS_CLEARED : BitRange := ⟨30, 1⟩
def Fld.GST_STATUS_COUNT : BitRange := ⟨0, 17⟩
def Fld.GST_RULES_COUNT : BitRange := ⟨0, 17⟩
def Fld.GST_HOLD_COUNT : BitRange := ⟨0, 13⟩
def Fld.GST_DEPOSITS_COUNT : BitRange := ⟨0, 13⟩
def Fld.GST_EVAL_MAX_NS : BitRange := ⟨0, 24⟩
def Fld.GST_LAST_FIRED_VALID : BitRange := ⟨31, 1⟩
def Fld.GST_LAST_FIRED_RA : BitRange := ⟨0, 21⟩
def Fld.GST_LAST_ARB_VALID : BitRange := ⟨31, 1⟩
def Fld.GST_LAST_ARB_TEA : BitRange := ⟨0, 24⟩
def Fld.GST_INT_STATUS_CLAMPED : BitRange := ⟨3, 1⟩
def Fld.GST_INT_STATUS_ORPHAN : BitRange := ⟨2, 1⟩
def Fld.GST_INT_STATUS_ARB : BitRange := ⟨1, 1⟩
def Fld.GST_INT_STATUS_FIRED : BitRange := ⟨0, 1⟩
def Fld.GST_INT_ENABLE_VECTOR : BitRange := ⟨16, 11⟩
def Fld.GST_INT_ENABLE_ENABLE : BitRange := ⟨0, 4⟩
def Fld.GST_PEEK_INDEX_INDEX : BitRange := ⟨0, 16⟩
def Fld.GST_PEEK_STATE_ENABLED : BitRange := ⟨31, 1⟩
def Fld.GST_PEEK_STATE_ACTIVE : BitRange := ⟨30, 1⟩
def Fld.GST_PEEK_STATE_EPISODE : BitRange := ⟨29, 1⟩
def Fld.GST_PEEK_STATE_HOLDING : BitRange := ⟨28, 1⟩
def Fld.GST_PEEK_STATE_CAUSE : BitRange := ⟨24, 4⟩
def Fld.GST_PEEK_STATE_HOLD_LEFT : BitRange := ⟨0, 16⟩
def Fld.GST_PEEK_WORD : BitRange := ⟨0, 32⟩
def Fld.GST_EVAL_RATE_COUNT : BitRange := ⟨0, 32⟩
def Fld.GST_SUBSCRIBED_COUNT : BitRange := ⟨0, 32⟩
def Fld.GST_ORPHAN_BRANCHES : BitRange := ⟨1, 16⟩
def Fld.GST_ORPHAN_EXECUTED : BitRange := ⟨0, 1⟩
def Fld.GST_HUB_RULES_COUNT : BitRange := ⟨0, 17⟩
def Fld.GST_SLOT_EVALS_COUNT : BitRange := ⟨0, 24⟩
def Fld.GST_CNT_COUNT : BitRange := ⟨0, 32⟩
def Fld.TIM_CTRL_PPS_WIDTH_MS : BitRange := ⟨24, 8⟩
def Fld.TIM_CTRL_PTM_MS : BitRange := ⟨16, 8⟩
def Fld.TIM_CTRL_TOD_TX_EN : BitRange := ⟨3, 1⟩
def Fld.TIM_CTRL_TOD_FAST : BitRange := ⟨2, 1⟩
def Fld.TIM_CTRL_PPS_IN_FALLING : BitRange := ⟨1, 1⟩
def Fld.TIM_CTRL_PPS_OUT_EN : BitRange := ⟨0, 1⟩
def Fld.TIM_SRC_ABSOLUTE : BitRange := ⟨2, 1⟩
def Fld.TIM_SRC_SOURCE : BitRange := ⟨0, 2⟩
def Fld.TIM_STATUS_TIME_OK : BitRange := ⟨15, 1⟩
def Fld.TIM_STATUS_ABSOLUTE : BitRange := ⟨14, 1⟩
def Fld.TIM_STATUS_SLEWING : BitRange := ⟨13, 1⟩
def Fld.TIM_STATUS_ORPHANED : BitRange := ⟨12, 1⟩
def Fld.TIM_STATUS_TQ : BitRange := ⟨10, 2⟩
def Fld.TIM_STATUS_PARENT_STATE : BitRange := ⟨7, 3⟩
def Fld.TIM_STATUS_OWN_STATE : BitRange := ⟨4, 3⟩
def Fld.TIM_STATUS_STATE : BitRange := ⟨0, 3⟩
def Fld.TIM_NOW_LO_NS : BitRange := ⟨0, 32⟩
def Fld.TIM_NOW_HI_NS : BitRange := ⟨0, 32⟩
def Fld.TIM_NOW_FRAC_FRACTION : BitRange := ⟨0, 16⟩
def Fld.TIM_OFFSET_NS : BitRange := ⟨0, 32⟩
def Fld.TIM_SLEW_LEFT_NS : BitRange := ⟨0, 32⟩
def Fld.TIM_STEP_LIMIT_US : BitRange := ⟨0, 16⟩
def Fld.TIM_SLEW_MAX_US_PER_S : BitRange := ⟨0, 10⟩
def Fld.TIM_LIMITS_HOLDOVER_S : BitRange := ⟨16, 16⟩
def Fld.TIM_LIMITS_LOCK_NS : BitRange := ⟨0, 16⟩
def Fld.TIM_LEAP_TAI_UTC : BitRange := ⟨0, 16⟩
def Fld.TIM_STEP_FRAME_VALUE : BitRange := ⟨0, 32⟩
def Fld.TIM_HOLD_ELAPSED_VALUE : BitRange := ⟨0, 32⟩
def Fld.TIM_INT_STATUS_SLEW_DONE : BitRange := ⟨3, 1⟩
def Fld.TIM_INT_STATUS_TOD_MISMATCH : BitRange := ⟨2, 1⟩
def Fld.TIM_INT_STATUS_STEP : BitRange := ⟨1, 1⟩
def Fld.TIM_INT_STATUS_STATE : BitRange := ⟨0, 1⟩
def Fld.TIM_INT_ENABLE_VECTOR : BitRange := ⟨16, 11⟩
def Fld.TIM_INT_ENABLE_ENABLE : BitRange := ⟨0, 4⟩
def Fld.TIM_LINK_JITTER_VALID : BitRange := ⟨31, 1⟩
def Fld.TIM_LINK_JITTER_SPREAD_PS : BitRange := ⟨0, 16⟩
def Fld.TIM_OFFSET_HIST_NS : BitRange := ⟨0, 32⟩
def Fld.SPW_BUDGET_MAX_INRUSH : BitRange := ⟨24, 8⟩
def Fld.SPW_BUDGET_MAX_RAMPING : BitRange := ⟨16, 6⟩
def Fld.SPW_BUDGET_RESUME_GROUP : BitRange := ⟨8, 6⟩
def Fld.SPW_BUDGET_BACKOFF_S : BitRange := ⟨0, 6⟩
def Fld.SPW_QUEUE_QUEUED : BitRange := ⟨24, 6⟩
def Fld.SPW_QUEUE_RAMPING : BitRange := ⟨16, 6⟩
def Fld.SPW_QUEUE_OVERSIZE : BitRange := ⟨15, 1⟩
def Fld.SPW_QUEUE_INRUSH_USED : BitRange := ⟨0, 9⟩
def Fld.SPW_SENSE_CFG_SHUNT : BitRange := ⟨24, 8⟩
def Fld.SPW_SENSE_CFG_OPEN_MV : BitRange := ⟨8, 8⟩
def Fld.SPW_SENSE_CFG_SUSPECT_OFF : BitRange := ⟨1, 1⟩
def Fld.SPW_SENSE_CFG_TEST_EN : BitRange := ⟨0, 1⟩
def Fld.SPW_STORE_BUSY : BitRange := ⟨31, 1⟩
def Fld.SPW_STORE_LOADED : BitRange := ⟨1, 1⟩
def Fld.SPW_STORE_STORE : BitRange := ⟨0, 1⟩
def Fld.SPW_INT_STATUS_STORE_DONE : BitRange := ⟨4, 1⟩
def Fld.SPW_INT_STATUS_QUEUE_EMPTY : BitRange := ⟨3, 1⟩
def Fld.SPW_INT_STATUS_SUSPECT : BitRange := ⟨2, 1⟩
def Fld.SPW_INT_STATUS_LATCHED : BitRange := ⟨1, 1⟩
def Fld.SPW_INT_STATUS_TRIP : BitRange := ⟨0, 1⟩
def Fld.SPW_INT_ENABLE_VECTOR : BitRange := ⟨16, 11⟩
def Fld.SPW_INT_ENABLE_ENABLE : BitRange := ⟨0, 5⟩
def Fld.PWR_INT_ENABLE_VECTOR : BitRange := ⟨16, 11⟩
def Fld.PWR_INT_ENABLE_ENABLE : BitRange := ⟨0, 6⟩
def Fld.SPW_SHED_SEGS : BitRange := ⟨0, 32⟩
def Fld.SPW_ON_SEGS : BitRange := ⟨0, 32⟩
def Fld.SPW_QUEUED_SEGS : BitRange := ⟨0, 32⟩
def Fld.SPW_RAMPING_SEGS : BitRange := ⟨0, 32⟩
def Fld.SPW_TRIPPED_SEGS : BitRange := ⟨0, 32⟩
def Fld.SPW_LATCHED_SEGS : BitRange := ⟨0, 32⟩
def Fld.SPW_SUSPECT_SEGS : BitRange := ⟨0, 32⟩
def Fld.SPW_GALE_SEGS : BitRange := ⟨0, 32⟩
def Fld.SPW_BANK_RTN_SUSPECT : BitRange := ⟨31, 1⟩
def Fld.SPW_BANK_I_TOTAL : BitRange := ⟨16, 12⟩
def Fld.SPW_BANK_SHIFT_UV : BitRange := ⟨0, 16⟩
def Fld.SPW_CTRL_I_INST : BitRange := ⟨24, 8⟩
def Fld.SPW_CTRL_T_INRUSH : BitRange := ⟨16, 8⟩
def Fld.SPW_CTRL_RAMP : BitRange := ⟨8, 8⟩
def Fld.SPW_CTRL_AUTO : BitRange := ⟨4, 1⟩
def Fld.SPW_CTRL_ACTION : BitRange := ⟨3, 1⟩
def Fld.SPW_CTRL_ON : BitRange := ⟨0, 1⟩
def Fld.SPW_STATUS_I_NOW : BitRange := ⟨20, 12⟩
def Fld.SPW_STATUS_I_PEAK : BitRange := ⟨8, 12⟩
def Fld.SPW_STATUS_SUSPECT : BitRange := ⟨7, 1⟩
def Fld.SPW_STATUS_RETRIES : BitRange := ⟨4, 3⟩
def Fld.SPW_STATUS_STATE : BitRange := ⟨0, 3⟩
def Fld.SPW_CURVE_POINT_HI : BitRange := ⟨16, 16⟩
def Fld.SPW_CURVE_POINT_LO : BitRange := ⟨0, 16⟩
def Fld.SPW_INRUSH_POINT_HI : BitRange := ⟨16, 16⟩
def Fld.SPW_INRUSH_POINT_LO : BitRange := ⟨0, 16⟩
def Fld.SPW_CNT_COUNT : BitRange := ⟨0, 32⟩
def Fld.PWR_CTRL_KEY : BitRange := ⟨16, 16⟩
def Fld.PWR_CTRL_TARGET : BitRange := ⟨0, 2⟩
def Fld.PWR_STATUS_WAKE_CAUSE : BitRange := ⟨28, 4⟩
def Fld.PWR_STATUS_THROTTLED : BitRange := ⟨7, 1⟩
def Fld.PWR_STATUS_SQUALL : BitRange := ⟨6, 1⟩
def Fld.PWR_STATUS_STATE : BitRange := ⟨0, 3⟩
def Fld.PWR_LULL_CFG_T_WATCH_MS : BitRange := ⟨0, 10⟩
def Fld.PWR_LULL_STATUS_LAST_S : BitRange := ⟨16, 16⟩
def Fld.PWR_LULL_STATUS_ENTRIES : BitRange := ⟨0, 13⟩
def Fld.PWR_LULL_MATCH_VALID : BitRange := ⟨31, 1⟩
def Fld.PWR_LULL_MATCH_INDEX : BitRange := ⟨0, 12⟩
def Fld.PWR_WATCH_INDEX_WRITE : BitRange := ⟨31, 1⟩
def Fld.PWR_WATCH_INDEX_INDEX : BitRange := ⟨0, 12⟩
def Fld.PWR_WATCH_DATA_WORD : BitRange := ⟨0, 32⟩
def Fld.PWR_SQUALL_CFG_RECOVER : BitRange := ⟨24, 8⟩
def Fld.PWR_SQUALL_CFG_HYST_MV : BitRange := ⟨16, 8⟩
def Fld.PWR_SQUALL_CFG_ENABLE : BitRange := ⟨15, 1⟩
def Fld.PWR_SQUALL_CFG_THRESHOLD_MV : BitRange := ⟨0, 11⟩
def Fld.PWR_SQUALL_STATUS_LATCHED : BitRange := ⟨31, 1⟩
def Fld.PWR_SQUALL_STATUS_SEALED : BitRange := ⟨30, 1⟩
def Fld.PWR_SQUALL_STATUS_FLASH_ABORTED : BitRange := ⟨29, 1⟩
def Fld.PWR_SQUALL_STATUS_VIN_LOW : BitRange := ⟨28, 1⟩
def Fld.PWR_SQUALL_STATUS_SEAL_US : BitRange := ⟨0, 16⟩
def Fld.PWR_TEMP_SENSOR : BitRange := ⟨24, 3⟩
def Fld.PWR_TEMP_TEMP : BitRange := ⟨0, 16⟩
def Fld.PWR_TEMP_PEAK_SENSOR : BitRange := ⟨24, 3⟩
def Fld.PWR_TEMP_PEAK_TEMP : BitRange := ⟨0, 16⟩
def Fld.PWR_THERMAL_THERMAL_SEEN : BitRange := ⟨31, 1⟩
def Fld.PWR_THERMAL_AUTO_RESTART : BitRange := ⟨30, 1⟩
def Fld.PWR_THERMAL_LEVEL : BitRange := ⟨16, 2⟩
def Fld.PWR_THERMAL_SHUTDOWN_TEMP : BitRange := ⟨0, 16⟩
def Fld.PWR_VAULT_CFG_TIMER_S : BitRange := ⟨16, 16⟩
def Fld.PWR_VAULT_CFG_LAST_WAKE : BitRange := ⟨4, 4⟩
def Fld.PWR_VAULT_CFG_WAKE_SERVICE_PORT : BitRange := ⟨3, 1⟩
def Fld.PWR_VAULT_CFG_WAKE_PERST : BitRange := ⟨2, 1⟩
def Fld.PWR_INT_STATUS_DOMAIN_FAULT : BitRange := ⟨5, 1⟩
def Fld.PWR_INT_STATUS_THERMAL : BitRange := ⟨4, 1⟩
def Fld.PWR_INT_STATUS_SQUALL_RECOVERED : BitRange := ⟨3, 1⟩
def Fld.PWR_INT_STATUS_SQUALL : BitRange := ⟨2, 1⟩
def Fld.PWR_INT_STATUS_LULL_WAKE : BitRange := ⟨1, 1⟩
def Fld.PWR_INT_STATUS_STATE_CHANGE : BitRange := ⟨0, 1⟩
def Fld.PWR_DOM_FAULT : BitRange := ⟨31, 1⟩
def Fld.PWR_DOM_FAULT_STEP : BitRange := ⟨29, 2⟩
def Fld.PWR_DOM_WAKE_US : BitRange := ⟨16, 12⟩
def Fld.PWR_DOM_RETENTION : BitRange := ⟨5, 1⟩
def Fld.PWR_DOM_ON : BitRange := ⟨4, 1⟩
def Fld.PWR_DOM_LOG_RDY : BitRange := ⟨3, 1⟩
def Fld.PWR_DOM_MEM_RDY : BitRange := ⟨2, 1⟩
def Fld.PWR_DOM_OSC_RDY : BitRange := ⟨1, 1⟩
def Fld.PWR_DOM_PWR_RDY : BitRange := ⟨0, 1⟩
def Fld.PWR_CNT_COUNT : BitRange := ⟨0, 32⟩
def Fld.PDP_CTRL_PORT_WRITE : BitRange := ⟨3, 1⟩
def Fld.PDP_CTRL_FRS_FORCE : BitRange := ⟨2, 1⟩
def Fld.PDP_CTRL_DISCONNECT : BitRange := ⟨1, 1⟩
def Fld.PDP_CTRL_POLICY : BitRange := ⟨0, 1⟩
def Fld.PDP_STATUS_STATE : BitRange := ⟨28, 4⟩
def Fld.PDP_STATUS_CONTRACT : BitRange := ⟨27, 1⟩
def Fld.PDP_STATUS_POLICY_IN_FORCE : BitRange := ⟨26, 1⟩
def Fld.PDP_STATUS_FRS_ARMED : BitRange := ⟨25, 1⟩
def Fld.PDP_STATUS_RECOVERY : BitRange := ⟨24, 1⟩
def Fld.PDP_STATUS_DATA_ROLE : BitRange := ⟨23, 1⟩
def Fld.PDP_STATUS_HARD_RESETS : BitRange := ⟨21, 2⟩
def Fld.PDP_TC_CFG_TRY_SRC : BitRange := ⟨3, 1⟩
def Fld.PDP_TC_CFG_UNCONSTRAINED : BitRange := ⟨2, 1⟩
def Fld.PDP_TC_CFG_MODE : BitRange := ⟨0, 2⟩
def Fld.PDP_SRC_PDO_OBJECT : BitRange := ⟨0, 32⟩
def Fld.PDP_SNK_PDO_OBJECT : BitRange := ⟨0, 32⟩
def Fld.PDP_CONTRACT_OBJECT : BitRange := ⟨0, 32⟩
def Fld.PDP_PARTNER_SRC_OBJECT : BitRange := ⟨0, 32⟩
def Fld.PDP_PARTNER_SNK_OBJECT : BitRange := ⟨0, 32⟩
def Fld.PDP_TIMER_HOST_RESP_MS : BitRange := ⟨8, 8⟩
def Fld.PDP_TIMER_SENDER_RESP_MS : BitRange := ⟨0, 8⟩
def Fld.PDP_FRS_RESULT : BitRange := ⟨4, 4⟩
def Fld.PDP_FRS_ARMED : BitRange := ⟨0, 1⟩
def Fld.PDP_FRS_TIME_LO_NS : BitRange := ⟨0, 32⟩
def Fld.PDP_FRS_TIME_HI_NS : BitRange := ⟨0, 32⟩
def Fld.PDP_CC_STATUS_ORIENT : BitRange := ⟨5, 1⟩
def Fld.PDP_CC_STATUS_RP_OWN : BitRange := ⟨3, 2⟩
def Fld.PDP_CC_STATUS_RP_SEEN : BitRange := ⟨1, 2⟩
def Fld.PDP_CC_STATUS_ATTACHED : BitRange := ⟨0, 1⟩
def Fld.PDP_VBUS_SRC_EN : BitRange := ⟨16, 1⟩
def Fld.PDP_VBUS_MV : BitRange := ⟨0, 16⟩
def Fld.PDP_USB_ID_VID : BitRange := ⟨16, 16⟩
def Fld.PDP_USB_ID_PID : BitRange := ⟨0, 16⟩
def Fld.PDP_USB_STATUS_CONFIGURED : BitRange := ⟨2, 1⟩
def Fld.PDP_USB_STATUS_HIGH_SPEED : BitRange := ⟨1, 1⟩
def Fld.PDP_USB_STATUS_CONNECTED : BitRange := ⟨0, 1⟩
def Fld.PDP_RECOVERY_CAUSE : BitRange := ⟨28, 4⟩
def Fld.PDP_RECOVERY_MAIN_RAIL : BitRange := ⟨1, 1⟩
def Fld.PDP_RECOVERY_ACTIVE : BitRange := ⟨0, 1⟩
def Fld.PDP_MAINT_COMMANDS : BitRange := ⟨16, 16⟩
def Fld.PDP_MAINT_LAST_STATUS : BitRange := ⟨0, 8⟩
def Fld.PDP_INT_STATUS_MAINT : BitRange := ⟨6, 1⟩
def Fld.PDP_INT_STATUS_FRS : BitRange := ⟨5, 1⟩
def Fld.PDP_INT_STATUS_ERROR_RECOVERY : BitRange := ⟨4, 1⟩
def Fld.PDP_INT_STATUS_HARD_RESET : BitRange := ⟨3, 1⟩
def Fld.PDP_INT_STATUS_CONTRACT : BitRange := ⟨2, 1⟩
def Fld.PDP_INT_STATUS_DETACH : BitRange := ⟨1, 1⟩
def Fld.PDP_INT_STATUS_ATTACH : BitRange := ⟨0, 1⟩
def Fld.PDP_INT_ENABLE_VECTOR : BitRange := ⟨16, 11⟩
def Fld.PDP_INT_ENABLE_ENABLE : BitRange := ⟨0, 7⟩
def Fld.PDP_LAST_RX_WORD : BitRange := ⟨0, 32⟩
def Fld.PDP_LAST_TX_WORD : BitRange := ⟨0, 32⟩
def Fld.PDP_MAINT_LOG_OP : BitRange := ⟨24, 8⟩
def Fld.PDP_MAINT_LOG_STATUS : BitRange := ⟨16, 8⟩
def Fld.PDP_MAINT_LOG_TAG : BitRange := ⟨0, 16⟩
def Fld.PDP_CNT_COUNT : BitRange := ⟨0, 32⟩
def Fld.SEC_STATUS_TRNG_FAIL : BitRange := ⟨3, 1⟩
def Fld.SEC_STATUS_KEYS_OK : BitRange := ⟨2, 1⟩
def Fld.SEC_STATUS_LOCKED : BitRange := ⟨1, 1⟩
def Fld.SEC_STATUS_SECURE_HOST : BitRange := ⟨0, 1⟩
def Fld.SEC_LOCK_LOCK : BitRange := ⟨0, 1⟩
def Fld.SEC_LIFECYCLE_CODE : BitRange := ⟨0, 3⟩
def Fld.SEC_JTAG_ENABLE : BitRange := ⟨0, 1⟩
def Fld.SEC_SVN_RUNNING : BitRange := ⟨16, 9⟩
def Fld.SEC_SVN_COUNTER : BitRange := ⟨0, 9⟩
def Fld.SEC_DEV_ID_LO_ID : BitRange := ⟨0, 32⟩
def Fld.SEC_DEV_ID_HI_ID : BitRange := ⟨0, 32⟩
def Fld.SEC_TRNG_STATUS_FAILS : BitRange := ⟨16, 16⟩
def Fld.SEC_TRNG_STATUS_ADAPTIVE : BitRange := ⟨1, 1⟩
def Fld.SEC_TRNG_STATUS_REPETITION : BitRange := ⟨0, 1⟩
def Fld.SEC_INT_STATUS_TRNG_FAIL : BitRange := ⟨2, 1⟩
def Fld.SEC_INT_STATUS_CRYPTO_REJECT : BitRange := ⟨1, 1⟩
def Fld.SEC_INT_STATUS_LOCKED : BitRange := ⟨0, 1⟩
def Fld.SEC_INT_ENABLE_VECTOR : BitRange := ⟨16, 11⟩
def Fld.SEC_INT_ENABLE_ENABLE : BitRange := ⟨0, 3⟩
def Fld.NVM_INT_ENABLE_VECTOR : BitRange := ⟨16, 11⟩
def Fld.NVM_INT_ENABLE_ENABLE : BitRange := ⟨0, 6⟩
def Fld.SEC_BOOT_STATUS_ROM : BitRange := ⟨24, 8⟩
def Fld.SEC_BOOT_STATUS_VOLUME : BitRange := ⟨4, 1⟩
def Fld.SEC_BOOT_STATUS_RESULT_B : BitRange := ⟨2, 2⟩
def Fld.SEC_BOOT_STATUS_RESULT_A : BitRange := ⟨0, 2⟩
def Fld.SEC_OTP_STATUS_CORRECTED : BitRange := ⟨16, 16⟩
def Fld.SEC_OTP_STATUS_SVN_FREE : BitRange := ⟨0, 9⟩
def Fld.SEC_DEV_PUBKEY_WORD : BitRange := ⟨0, 32⟩
def Fld.SEC_FAMILY_KEY_HASH_WORD : BitRange := ⟨0, 32⟩
def Fld.SEC_CNT_COUNT : BitRange := ⟨0, 32⟩
def Fld.NVM_CTRL_SCAN : BitRange := ⟨1, 1⟩
def Fld.NVM_CTRL_SCRUB_EN : BitRange := ⟨0, 1⟩
def Fld.NVM_STATUS_BUSY : BitRange := ⟨31, 1⟩
def Fld.NVM_STATUS_BANK_BUSY : BitRange := ⟨28, 3⟩
def Fld.NVM_STATUS_SETTINGS_RO : BitRange := ⟨6, 1⟩
def Fld.NVM_STATUS_PAST_RATED : BitRange := ⟨3, 3⟩
def Fld.NVM_STATUS_SCANNING : BitRange := ⟨2, 1⟩
def Fld.NVM_STATUS_EXEC_BANK : BitRange := ⟨0, 2⟩
def Fld.NVM_BOOT_LAST_FALLBACK : BitRange := ⟨8, 3⟩
def Fld.NVM_BOOT_TRIAL_STATE : BitRange := ⟨2, 2⟩
def Fld.NVM_BOOT_TRIAL_VOLUME : BitRange := ⟨1, 1⟩
def Fld.NVM_BOOT_ACTIVE_VOLUME : BitRange := ⟨0, 1⟩
def Fld.NVM_CONFIRM_LEFT_S : BitRange := ⟨16, 16⟩
def Fld.NVM_CONFIRM_HOST_GATE : BitRange := ⟨2, 1⟩
def Fld.NVM_CONFIRM_HOST_APPROVE : BitRange := ⟨1, 1⟩
def Fld.NVM_CONFIRM_HEALTH_CONFIRM : BitRange := ⟨0, 1⟩
def Fld.NVM_CONFIRM_WINDOW_S : BitRange := ⟨0, 16⟩
def Fld.NVM_SCHED_TIME_LO_VALUE : BitRange := ⟨0, 32⟩
def Fld.NVM_SCHED_TIME_HI_VALUE : BitRange := ⟨0, 32⟩
def Fld.NVM_SESSION_BUNDLE_VALUE : BitRange := ⟨0, 32⟩
def Fld.NVM_VOL_A_BUILD_VALUE : BitRange := ⟨0, 32⟩
def Fld.NVM_VOL_B_BUILD_VALUE : BitRange := ⟨0, 32⟩
def Fld.NVM_SESSION_STATE : BitRange := ⟨30, 2⟩
def Fld.NVM_SESSION_TARGET : BitRange := ⟨28, 1⟩
def Fld.NVM_SESSION_STORED : BitRange := ⟨16, 10⟩
def Fld.NVM_SESSION_PIECES : BitRange := ⟨0, 10⟩
def Fld.NVM_CMD_OP : BitRange := ⟨28, 4⟩
def Fld.NVM_CMD_KEY : BitRange := ⟨0, 16⟩
def Fld.NVM_CMD_ADDR_OFFSET : BitRange := ⟨0, 23⟩
def Fld.NVM_CMD_STATUS_DONE : BitRange := ⟨31, 1⟩
def Fld.NVM_CMD_STATUS_STATUS : BitRange := ⟨8, 8⟩
def Fld.NVM_CMD_STATUS_WORST : BitRange := ⟨0, 2⟩
def Fld.NVM_INT_STATUS_WORN : BitRange := ⟨5, 1⟩
def Fld.NVM_INT_STATUS_RETIRED : BitRange := ⟨4, 1⟩
def Fld.NVM_INT_STATUS_FALLBACK : BitRange := ⟨3, 1⟩
def Fld.NVM_INT_STATUS_CONFIRMED : BitRange := ⟨2, 1⟩
def Fld.NVM_INT_STATUS_SESSION_COMPLETE : BitRange := ⟨1, 1⟩
def Fld.NVM_INT_STATUS_CMD_DONE : BitRange := ⟨0, 1⟩
def Fld.NVM_JOURNAL_PENDING : BitRange := ⟨16, 16⟩
def Fld.NVM_JOURNAL_SEQ : BitRange := ⟨0, 16⟩
def Fld.NVM_SETTINGS_FORMAT : BitRange := ⟨16, 16⟩
def Fld.NVM_SETTINGS_OTHER_HELD : BitRange := ⟨1, 1⟩
def Fld.NVM_SETTINGS_SLOT : BitRange := ⟨0, 1⟩
def Fld.NVM_VOL_A_SVN_SEC_VERSION : BitRange := ⟨0, 9⟩
def Fld.NVM_VOL_B_SVN_SEC_VERSION : BitRange := ⟨0, 9⟩
def Fld.NVM_VOL_A_STATUS_SETTINGS_FORMAT : BitRange := ⟨16, 16⟩
def Fld.NVM_VOL_A_STATUS_STATE : BitRange := ⟨0, 3⟩
def Fld.NVM_VOL_B_STATUS_SETTINGS_FORMAT : BitRange := ⟨16, 16⟩
def Fld.NVM_VOL_B_STATUS_STATE : BitRange := ⟨0, 3⟩
def Fld.NVM_VOL_A_CAP_SPARES : BitRange := ⟨16, 6⟩
def Fld.NVM_VOL_A_CAP_CAPACITY : BitRange := ⟨0, 10⟩
def Fld.NVM_VOL_B_CAP_SPARES : BitRange := ⟨16, 6⟩
def Fld.NVM_VOL_B_CAP_CAPACITY : BitRange := ⟨0, 10⟩
def Fld.NVM_BANKA_WEAR_MAX_ERASES : BitRange := ⟨0, 17⟩
def Fld.NVM_BANKB_WEAR_MAX_ERASES : BitRange := ⟨0, 17⟩
def Fld.NVM_BANKC_WEAR_MAX_ERASES : BitRange := ⟨0, 17⟩
def Fld.NVM_RETIRED_C : BitRange := ⟨16, 8⟩
def Fld.NVM_RETIRED_B : BitRange := ⟨8, 8⟩
def Fld.NVM_RETIRED_A : BitRange := ⟨0, 8⟩
def Fld.NVM_BITMAP_PIECES : BitRange := ⟨0, 32⟩
def Fld.NVM_LAST_ERASE_US_VALUE : BitRange := ⟨0, 32⟩
def Fld.NVM_WORST_ERASE_US_VALUE : BitRange := ⟨0, 32⟩
def Fld.NVM_CORR_WORDS_VALUE : BitRange := ⟨0, 32⟩
def Fld.NVM_LAST_RETIRED_VALID : BitRange := ⟨31, 1⟩
def Fld.NVM_LAST_RETIRED_OFFSET : BitRange := ⟨0, 23⟩
def Fld.NVM_CNT_COUNT : BitRange := ⟨0, 32⟩
def Fld.FOL_CTRL_SEAL_TEST : BitRange := ⟨1, 1⟩
def Fld.FOL_CTRL_FLUSH : BitRange := ⟨0, 1⟩
def Fld.FOL_STATUS_SEALED : BitRange := ⟨31, 1⟩
def Fld.FOL_STATUS_ERASING : BitRange := ⟨30, 1⟩
def Fld.FOL_STATUS_WAIT_ERASE : BitRange := ⟨29, 1⟩
def Fld.FOL_STATUS_STAGED : BitRange := ⟨0, 7⟩
def Fld.FOL_HEAD_SEQ_SEQ : BitRange := ⟨0, 32⟩
def Fld.FOL_TAIL_SEQ_SEQ : BitRange := ⟨0, 32⟩
def Fld.FOL_SEAL_SEQ_SEQ : BitRange := ⟨0, 32⟩
def Fld.FOL_GOV_RESERVE : BitRange := ⟨16, 7⟩
def Fld.FOL_GOV_TOKENS : BitRange := ⟨0, 13⟩
def Fld.FOL_COALESCE_OVERFLOW : BitRange := ⟨31, 1⟩
def Fld.FOL_COALESCE_SLOTS : BitRange := ⟨0, 7⟩
def Fld.FOL_SECTORS_RETIRED : BitRange := ⟨16, 9⟩
def Fld.FOL_SECTORS_USABLE : BitRange := ⟨0, 9⟩
def Fld.FOL_ERASE_KEY : BitRange := ⟨16, 16⟩
def Fld.FOL_ERASE_ERASE : BitRange := ⟨0, 1⟩
def Fld.FOL_LOST_STAGED : BitRange := ⟨16, 16⟩
def Fld.FOL_LOST_SLOTS : BitRange := ⟨0, 16⟩
def Fld.FOL_LAST_CODE_CODE : BitRange := ⟨16, 16⟩
def Fld.FOL_LAST_CODE_SEVERITY : BitRange := ⟨8, 2⟩
def Fld.FOL_LAST_CODE_SOURCE : BitRange := ⟨0, 8⟩
def Fld.FOL_INT_STATUS_POISON : BitRange := ⟨4, 1⟩
def Fld.FOL_INT_STATUS_ERASED : BitRange := ⟨3, 1⟩
def Fld.FOL_INT_STATUS_SEALED : BitRange := ⟨2, 1⟩
def Fld.FOL_INT_STATUS_COALESCING : BitRange := ⟨1, 1⟩
def Fld.FOL_INT_STATUS_CRITICAL : BitRange := ⟨0, 1⟩
def Fld.FOL_INT_ENABLE_VECTOR : BitRange := ⟨16, 11⟩
def Fld.FOL_INT_ENABLE_ENABLE : BitRange := ⟨0, 5⟩
def Fld.FOL_SRAM_STATUS_SPARE_CTX : BitRange := ⟨30, 2⟩
def Fld.FOL_SRAM_STATUS_OUT_OF_USE : BitRange := ⟨0, 14⟩
def Fld.FOL_REPAIR_PENDING : BitRange := ⟨16, 16⟩
def Fld.FOL_REPAIR_SPARES : BitRange := ⟨0, 16⟩
def Fld.FOL_SCRUB_SCRUB_EN : BitRange := ⟨31, 1⟩
def Fld.FOL_SCRUB_PASSES : BitRange := ⟨0, 31⟩
def Fld.FOL_POISON_VALID : BitRange := ⟨31, 1⟩
def Fld.FOL_POISON_REGION : BitRange := ⟨27, 4⟩
def Fld.FOL_POISON_PAGE : BitRange := ⟨0, 14⟩
def Fld.FOL_CNT_COUNT : BitRange := ⟨0, 32⟩

end Sys2Proof.Machine
end

