-- ==== Sys2Proof/Machine/Table.lean ====
section
/-! DEFINITION. Sparse tables: a list of key and value pairs in one canonical form (keys strictly rising, so equal
tables are equal lists). An unlisted key holds the reader's default. -/
namespace Sys2Proof.Machine

/-- A sparse table. -/
abbrev Table (α : Type) := List (Nat × α)

/-- The entry of a key. -/
def Table.find {α : Type} : Table α → Nat → Option α
  | [], _ => none
  | (k, v) :: r, i => if k = i then some v else if i < k then none else Table.find r i

/-- The value at a key, or the default. -/
def Table.getD {α : Type} (t : Table α) (i : Nat) (d : α) : α := (t.find i).getD d

/-- List a value under a key. -/
def Table.insert {α : Type} : Table α → Nat → α → Table α
  | [], i, v => [(i, v)]
  | (k, w) :: r, i, v =>
    if k = i then (i, v) :: r
    else if i < k then (i, v) :: (k, w) :: r
    else (k, w) :: Table.insert r i v

/-- Unlist a key. -/
def Table.erase {α : Type} : Table α → Nat → Table α
  | [], _ => []
  | (k, w) :: r, i => if k = i then r else if i < k then (k, w) :: r else (k, w) :: Table.erase r i

/-- Hold a value under a key: the default is not listed. -/
def Table.put {α : Type} [DecidableEq α] (t : Table α) (i : Nat) (d v : α) : Table α :=
  if v = d then t.erase i else t.insert i v

/-- Every key from a bound on, strictly rising. -/
def Table.risingFrom {α : Type} : Nat → Table α → Bool
  | _, [] => true
  | lo, (k, _) :: r => decide (lo ≤ k) && Table.risingFrom (k + 1) r

/-- The canonical form: keys strictly rising. -/
def Table.wf {α : Type} (t : Table α) : Bool := Table.risingFrom 0 t

/-- The keys whose value meets a test, rising. -/
def Table.keysWhere {α : Type} (t : Table α) (p : Nat → α → Bool) : List Nat :=
  (t.filter fun kv => p kv.1 kv.2).map (·.1)

/-- Apply a function to every entry. -/
def Table.mapVals {α β : Type} (t : Table α) (f : Nat → α → β) : Table β :=
  t.map fun kv => (kv.1, f kv.1 kv.2)

/-- Keep the entries that meet a test. -/
def Table.keep {α : Type} (t : Table α) (p : Nat → α → Bool) : Table α :=
  t.filter fun kv => p kv.1 kv.2

end Sys2Proof.Machine
end

