-- ==== Sys2Proof/Machine/State.lean ====
section
/-! DEFINITION. State: everything the spec gives the hub, as plain data. Registers are the home of the values software
sees; what the spec gives beyond the registers (queues, contexts, tables, sequences in progress, the flash contents)
stands in the structures below. -/
namespace Sys2Proof.Machine

/-- No command of the table makes the hub stop: the spec reports every fault in State (R400). -/
inductive Fault where
  /-- Raised by no meaning; kept because the interface asks for a type. Safe. -/
  | none
  deriving DecidableEq, Repr

/-- Why a command has no effect to give. -/
inductive Refusal where
  /-- Raised by a dispatch arm whose command has no meaning yet. Safe. -/
  | notModelled (mnemonic : String)
  deriving DecidableEq, Repr

/-- Pins the hub drives (R292, R306, R287, R279, R328, SEG_V1_CFG.TERM). -/
inductive Pin where
  | spwEn (port : Nat)
  | spwSlew (port : Nat)
  | squallOut | ppsOut | timeOk | vbusSrcEn
  | rmiiClk (bank : Nat)
  | segTerm (port : Nat)
  | segIo (port io : Nat)
  deriving DecidableEq, Repr

/-- What the hub does toward the outside, in the order it does it. -/
inductive Out where
  | cq (fn : Fn) (ring pos : Nat) (phase : Bool) (sq : Nat) (e : CqEntry)
  | eq (fn : Fn) (ring pos : Nat) (phase : Bool) (part : Nat) (r : EqRecord)
  | fq (fn : Fn) (pos : Nat) (phase : Bool) (r : FqRecord)
  | ctx (fn : Fn) (ring : Nat) (bytes : List Byte)
  | hostData (fn : Fn) (addr : Nat) (bytes : List Byte)
  | reserve (fn : Fn) (key : Nat) (bytes : List Byte)
  | doorbellRead (fn : Fn) (addr bytes : Nat)
  | atomicSwap (fn : Fn) (addr : Nat)
  | msix (fn : Fn) (vec : Nat)
  | readData (v : BitVec 64)
  | frame (port : Nat) (bytes : List Byte)
  | invalidFrame (port : Nat) (bytes : List Byte)
  | repeated (port times : Nat) (bytes : List Byte)
  | wire (port : Nat) (what : String)
  | flit (link lane : Nat) (bytes : List Byte)
  | anBase (link abilities : Nat)
  | anNext (link code bits : Nat)
  | i2cSwitch (addr channels : Nat)
  | cmisRead (port : Nat)
  | train (link lanes : Nat)
  | pin (p : Pin) (high : Bool)
  | pd (header : Nat) (data : List Byte)
  | pdHardReset
  | frsSignal
  | usb (bytes : List Byte)
  | zda (utc : Nat)
  deriving DecidableEq, Repr

/-- The frame clock (R20, R21). -/
structure FrameClock where
  now : Nat
  frameNo : Nat
  frameStart : Nat
  slot : Nat
  deriving DecidableEq, Repr

/-- Time states (R278). -/
inductive TimeSt where
  | freerun | acquiring | locked | holdover | expired
  deriving DecidableEq, Repr

/-- Tree time and its servo (R275 to R291). Times in units of 2^-16 ns. -/
structure TreeTime where
  time : Nat
  takenAt : Nat
  slewLeft : Int
  trimPpb : Int
  own : TimeSt
  parent : TimeSt
  eff : TimeSt
  absolute : Bool
  hostAbsolute : Bool
  good : Nat
  everMeasured : Bool
  offset : Int
  holdSince : Option Nat
  before : Option Nat
  steps : List (Int × Nat × Option Nat)
  taken : List (Nat × Int)
  slewing : Bool
  srcChanged : Bool
  hostLock : Bool
  tokenDue : Bool
  zdaAgree : Nat
  zdaSecond : Option Nat
  second : Option Nat
  lastPulse : Option Nat
  ptmFails : Nat
  ppsRise : Option Nat
  ppsHigh : Bool
  started : Bool
  syncSeen : Option Nat
  offSum : Int
  offCount : Nat
  phaseErr : Int
  deriving DecidableEq, Repr

/-- Ring states (ring context byte 32). -/
inductive RingSt where
  | off | running | draining | stopped | waiting | fault
  deriving DecidableEq, Repr

/-- One ring (R72 to R102). -/
structure Ring where
  st : RingSt
  base : Nat
  size : Nat
  cq : Nat
  vector : Nat
  weight : Nat
  gale : Bool
  profile : Nat
  count : Nat
  ext : Nat
  reserved : Nat
  modCount : Nat
  modSince : Option Nat
  cause : Nat
  since : Nat
  deriving DecidableEq, Repr

/-- A fetched descriptor not complete yet. -/
structure Desc where
  id : Nat
  fn : Fn
  sq : Nat
  tag : Nat
  opcode : Nat
  tea : Nat
  len : Nat
  addr : Nat
  args : List Byte
  data : List Byte
  fenced : Bool
  quiet : Bool
  dirIn : Bool
  fetchTime : Nat
  fetchAt : Nat
  issueAt : Option Nat
  retried : Bool
  late : Bool
  link : Option Nat
  cq : Nat
  vc : Option Nat
  acked : Bool
  handover : Bool
  clampDone : Bool
  posted : Bool
  outData : List Byte
  noSlot : Bool
  result : Option CqEntry
  deriving DecidableEq, Repr

/-- One function's host side (R71, R76 to R79, R93, R99). -/
structure FnState where
  bme : Bool
  atomicEn : Bool
  round : List Nat
  galeTaken : Table Nat
  sweepAt : Table Nat
  ctxDue : Table (List Byte)
  enableDue : List (Nat × CtxIn)
  kickDue : Bool
  rereads : List Nat
  fqWait : List FqRecord
  fqLost : Nat
  pba : List Nat
  unmasked : List Nat
  deriving DecidableEq, Repr

/-- The dual-host lease (R103 to R107). -/
structure Lease where
  holder : Option Fn
  valid : Bool
  expired : Bool
  until_ : Nat
  switchAt : Option Fn
  deriving DecidableEq, Repr

/-- A record waiting for ring space, in order of production (R97). -/
structure Waiting where
  key : Nat
  fn : Option Fn
  ring : Nat
  gale : Bool
  capAt : Nat
  bound : Nat
  virtual : Bool
  rec_ : EqRecord
  deriving DecidableEq, Repr

/-- Catalogue status (R144). -/
inductive CatSt where
  | approved | preApproved | quarantined | denied
  deriving DecidableEq, Repr

/-- One Catalogue entry (R144, R147). -/
structure CatEntry where
  identity : Nat
  port : Nat
  addr : Nat
  st : CatSt
  keyFp : Option Nat
  cause : Nat
  deriving DecidableEq, Repr

/-- How far a node's attach has come (R143, R146). -/
inductive Phase where
  | absent | assigned | endpoints | auth | ready | served
  deriving DecidableEq, Repr

/-- A node address in use on a port. -/
structure Node where
  identity : Nat
  gen : Nat
  caps : Nat
  epCount : Nat
  phase : Phase
  quarantined : Bool
  authed : Bool
  returned : Bool
  autoApproved : Bool
  approvedNow : Bool
  truncated : Bool
  serveAt : Nat
  failFrames : Nat
  failedNow : Bool
  goodNow : Bool
  failing : Bool
  lastGood : Nat
  lastAddressed : Nat
  quietUntil : Nat
  rxCtr : Nat
  txCtr : Nat
  wakeFirst : Bool
  approve : List Nat
  moveTo : Nat
  endpointsAgain : Bool
  wakeEn : Bool
  authNo : Nat
  sessKey : Nat
  deriving DecidableEq, Repr

/-- Traffic classes (R25). -/
inductive Cls where
  | draught | breeze | gale
  deriving DecidableEq, Repr

/-- A GET_ENDPOINTS entry (R138). -/
structure EpDesc where
  kind : Nat
  isIn : Bool
  max : Nat
  minInterval : Nat
  galeCapable : Bool
  deriving DecidableEq, Repr

/-- A write accepted for an endpoint, from a descriptor (R86). -/
structure HostWrite where
  desc : Nat
  posted : Bool
  deferred : Bool
  d : Desc
  data : List Byte
  deriving DecidableEq, Repr

/-- A write a rule made (R263). -/
structure RuleWrite where
  ra : Nat
  gale : Bool
  event : Bool
  action : Nat
  trigger : Nat
  capture : Nat
  capAt : Nat
  handed : Nat
  slot : Nat
  frame : Nat
  remote : Bool
  missed : Bool
  actTime : Option Nat
  data : List Byte
  deriving DecidableEq, Repr

/-- Placement hints (R252). -/
inductive Hint where
  | none
  | pinRing (ring : Nat)
  | pinStacks
  | affinity (tea : Nat)
  | preferReserve
  deriving DecidableEq, Repr

/-- One endpoint context, with its buffer (R19, R88, R132, R247). -/
structure EpCtx where
  cls : Cls
  intervalUs : Nat
  granules : Nat
  shelf : Nat
  enabled : Bool
  info : Option EpDesc
  togOut : Bool
  togIn : Bool
  sample : Option (List Byte)
  sampleCap : Nat
  sampleTq : Nat
  outVal : List Byte
  halted : Bool
  erred : Bool
  failFrames : Nat
  writeFails : Nat
  failedNow : Bool
  goodNow : Bool
  writeFailedNow : Bool
  outSlot : Option Nat
  probeFirst : Bool
  askToggle : Bool
  resetEpFirst : Bool
  force : Bool
  dueAt : Nat
  lastSample : Nat
  hostWrites : List HostWrite
  sending : Option HostWrite
  ruleWrites : List RuleWrite
  ruleSending : Option RuleWrite
  hint : Hint
  ring : Nat
  reserve : Bool
  held : Nat
  epochRecs : Nat
  galeKept : Bool
  deriving DecidableEq, Repr

/-- Who asked for a control transfer (R129, R146). -/
inductive CtlOwner where
  | host (desc : Nat)
  | hubEndpoints
  | hubCaps
  | hubChallenge
  | hubResponse
  | hubResetEp (ep : Nat)
  deriving DecidableEq, Repr

/-- One control transfer (R128). Stages: 0 setup, 1 data, 2 status. -/
structure Ctl where
  owner : CtlOwner
  node : Nat
  setup : List Byte
  out : List Byte
  stage : Nat
  started : Option Nat
  moved : List Byte
  askLen : Nat
  deriving DecidableEq, Repr

/-- One bulk transfer (R130). -/
structure Bulk where
  desc : Nat
  node : Nat
  ep : Nat
  isIn : Bool
  data : List Byte
  len : Nat
  first : Option Nat
  naked : Bool
  deriving DecidableEq, Repr

/-- What a transaction on the wire is for. -/
inductive TxnKind where
  | poll (due force : Nat) (budget : Nat) (gale : Bool)
  | outEp (ep : Nat) (gale rule : Bool)
  | bulkOut (ep : Nat) (desc : Nat)
  | bulkIn (ep : Nat) (desc : Nat)
  | setup
  | ctlOut
  | ctlIn
  | statusIn
  | statusOut
  | probe (ep : Nat)
  | duplicate (h : Nat)
  | assign (addr : Nat)
  deriving DecidableEq, Repr

/-- One transaction and the attempts it has used in this frame (R133). -/
structure Txn where
  kind : TxnKind
  node : Nat
  tries : Nat
  sentAt : Nat
  payload : List Byte
  deriving DecidableEq, Repr

/-- A HELLO that waits for its ASSIGN (R143, R144). -/
structure HelloWait where
  identity : Nat
  gen : Nat
  caps : Nat
  epCount : Nat
  addr : Nat
  quarantine : Bool
  isNew : Bool
  probe : Bool
  deriving DecidableEq, Repr

/-- A token without an answer that waits for the line; `frame` holds its bytes when it was built as it was queued (a
RESET that takes a secured address away). -/
structure Token where
  tok : Nat
  node : Nat
  payload : List Byte
  frame : Option (List Byte)
  deriving DecidableEq, Repr

/-- One block of a distribution session (R190 to R193). -/
structure DistBlock where
  desc : Nat
  block : Nat
  rounds : Nat
  limit : Nat
  last : Bool
  sent : Bool
  done : Bool
  data : List Byte
  deriving DecidableEq, Repr

/-- A distribution session. -/
structure Dist where
  session : Nat
  ep : Nat
  targets : List Nat
  next : Nat
  blocks : List DistBlock
  status : Table (Nat × Nat)
  asked : List Nat
  dropped : Nat
  deriving DecidableEq, Repr

/-- One segment port, or the node of one link port (R161 to R193, R231). -/
structure Seg where
  st : Nat
  work : List Txn
  cur : List Txn
  galeUsed : Nat
  roundAt : Nat
  ctls : List Ctl
  bulks : List Bulk
  dist : Option Dist
  bcast : List (Nat × HostWrite)
  hellos : List HelloWait
  tokens : List Token
  sweepDue : Bool
  sweepNext : Nat
  repeatAt : Option Nat
  burst : Nat
  empty : Nat
  sweeping : Option Nat
  helloSeen : Bool
  corrupt : List Nat
  corruptRun : Nat
  policy : Nat
  secure : Bool
  pfx : Nat
  foreign : Nat
  foreignAt : Option Nat
  reported : List (Nat × Nat × Nat)
  waitResume : Bool
  resumeBegun : Option Nat
  resumeOver : Bool
  stepHeld : Bool
  suspendNext : Bool
  reannounce : Bool
  stateFrame : Nat
  quietUntil : Nat
  lastStatus : List Byte
  lastPower : List Byte
  timeDue : Bool
  lost : Bool
  faulted : Bool
  held : List Nat
  holdFrom : Nat
  shares : List (Nat × Nat)
  roundCounted : Bool
  voided : Bool
  burstRun : Bool
  sweepFrame : Nat
  woken : Bool
  batch : Nat
  breezeUsed : Nat
  deriving DecidableEq, Repr

/-- A message on a Craora link (R215). -/
structure Msg where
  mtype : Nat
  pf1 : Bool
  tea : Nat
  sq : Nat
  tag : Nat
  aux : Nat
  time : Nat
  body : List Byte
  deriving DecidableEq, Repr

/-- A DATA flit kept until it is acknowledged (R212). -/
structure TxFlit where
  seq : Nat
  vc : Nat
  payload : List Byte
  desc : Option Nat
  msg : Option Msg
  deriving DecidableEq, Repr

/-- A message that is being received on a virtual channel: its header so far, the bytes so far, and whether it is
discarded up to the next FIRST (R215). -/
structure InMsg where
  vc : Nat
  head : List Byte
  got : Nat
  bad : Bool
  deriving DecidableEq, Repr

/-- A message held for want of credit, with the descriptor it carries (R223). -/
structure HeldMsg where
  vc : Nat
  msg : Msg
  desc : Option Nat
  left : List (List Byte)
  since : Nat
  deriving DecidableEq, Repr

/-- One Craora link: 0 to 15 downstream, 16 the upstream link of a branch (R195 to R233). -/
structure Link where
  st : Nat
  prev : Nat
  presence : Bool
  presentAt : Option Nat
  noPartner : Bool
  lp : Nat
  rate : Nat
  width : Nat
  resolved : Nat
  active : Nat
  locked : Nat
  failed : Nat
  trials : List Nat
  txSeq : Nat
  rxSeq : Nat
  acked : Nat
  nakFor : Option Nat
  nakAt : Nat
  nakSeq : Nat
  nakCount : Nat
  replay : List TxFlit
  held : List HeldMsg
  credits : List Nat
  rxFree : List Nat
  owed : List Nat
  breezeUnits : Nat
  draughtUnits : Nat
  inMsg : List InMsg
  ackAt : Nat
  cls : Nat
  identity : Nat
  plife : Nat
  pport : Nat
  pwidth : Nat
  phub : Nat
  certOk : Bool
  keyFp : Nat
  lidSeen : Bool
  quarantined : Bool
  roleDone : Bool
  exchanges : Nat
  t1 : Nat
  rttNs : Nat
  ds : List Int
  rateNext : Option (Nat × Nat)
  lastFlit : Nat
  orphanSince : Option Nat
  downAt : Option Nat
  holdUntil : Option Nat
  streamTag : Nat
  grants : List (Nat × Nat × Nat)
  grantQueue : List (Nat × Nat)
  acksDue : List (Nat × Nat)
  draining : Bool
  sentParams : Option UpParams
  stateFrame : Nat
  lastS1 : List Byte
  lastS2 : List Byte
  adv : Nat
  lockAt : Nat
  frameDiff : Int
  authDone : Bool
  flitNo : Nat
  vc3Gap : Nat
  stepAt : Option (Nat × Nat)
  rejoinAt : Option Nat
  lpLocked : Nat
  modRates : Nat
  prevHub : Nat
  rejoin : Option (Nat × Nat × Nat)
  deriving DecidableEq, Repr

/-- A shelf of one function (R239). -/
structure Shelf where
  byTea : Bool
  rings : List Nat
  deriving DecidableEq, Repr

/-- What becomes due at the next frame boundary, in the order accepted. -/
inductive Later where
  | config (desc : Nat)
  | shelf (desc : Nat)
  | policy (desc : Nat)
  | engineMove (port : Nat) (cause : Nat) (frame : Nat)
  | linkState (link cause : Nat)
  | applied (desc : Nat)
  | wakeSeg (port : Nat)
  | segState (desc : Nat)
  | deliver (fn : Fn)
  deriving DecidableEq, Repr

/-- A Gust rule slot (R261, R262, R265, R266). -/
structure Rule where
  bytes : List Byte
  enabled : Bool
  active : Bool
  cause : Nat
  episode : Bool
  since1 : Option Nat
  since2 : Option Nat
  deriving DecidableEq, Repr

/-- A change of rule state due at the next gust slot (R263, R265, R270). -/
structure RuleReq where
  first : Nat
  count : Nat
  enable : Bool
  desc : Option Nat
  by_ : Option RuleWrite
  deriving DecidableEq, Repr

/-- A vacated hub number (R253 to R255). -/
structure Vacated where
  hub : Nat
  successor : Nat
  endEpoch : Nat
  window : Bool
  deriving DecidableEq, Repr

/-- One segment's power (R292 to R305). -/
structure Spw where
  runs : List Nat
  instRun : Nat
  enAt : Nat
  slew : Bool
  recent : List Nat
  msSum : Nat
  msCount : Nat
  lastMean : Option Nat
  onAt : Nat
  backoffUntil : Nat
  waiters : List Nat
  trips : Nat
  pkSince : Nat
  sumSince : Nat
  cntSince : Nat
  badTests : Nat
  cleanTests : Nat
  badKind : Nat
  stateFrame : Nat
  waited : Bool
  askedAt : Nat
  deriving DecidableEq, Repr

/-- Power queue, Squall, chip state, Lull and heat (R303, R306 to R322). -/
structure Power where
  queue : List Nat
  galeSnap : Option Nat
  squallAt : Option Nat
  squallFrame : Nat
  squallTime : Nat
  squallShed : Nat
  target : Option Nat
  going : Option Nat
  lullAt : Nat
  wakeAt : Option Nat
  watch : Table (BitVec 128)
  watchPrev : Table (List Byte)
  levelSeen : Nat
  coolSince : Option Nat
  peakTemp : Option Int
  peakSeen : Bool
  thermalData : List Byte
  squallLull : Bool
  squallNoSeal : Bool
  halved : Bool
  refLostAt : Option Nat
  clocksStopped : Bool
  timeRefLostAt : Option Nat
  off : Bool
  recovery : Nat
  vaultAt : Nat
  savedRates : Table Nat
  domRetried : List Nat
  deriving DecidableEq, Repr

/-- A Folio entry (R377). -/
structure FolioEntry where
  seq : Nat
  code : Nat
  source : Nat
  severity : Nat
  tq : Nat
  coalesced : Bool
  sealed : Bool
  time : Nat
  frame : Nat
  boot : Nat
  detail : List Byte
  deriving DecidableEq, Repr

/-- A coalescing slot (R382). -/
structure CoalSlot where
  code : Nat
  source : Nat
  severity : Nat
  count : Nat
  first : Nat
  last : Nat
  detail : List Byte
  deriving DecidableEq, Repr

/-- The Folio (R376 to R388). -/
structure Folio where
  ring : Table FolioEntry
  pos : Nat
  nextSeq : Nat
  dirty : List Nat
  badSectors : List Nat
  staging : List FolioEntry
  slots : List CoalSlot
  overflow : Option CoalSlot
  aoHeld : List FolioEntry
  closed : Bool
  sealing : Option Bool
  sealDone : Bool
  eraseFrame : Option Nat
  eraseQueue : List Nat
  deriving DecidableEq, Repr

/-- What a flash job does when it ends. -/
inductive FlashJob where
  | erase (sector : Nat) (forCmd : Bool)
  | piece (desc : Option Nat) (index : Nat) (maint : Option Nat)
  | manifest (desc : Option Nat) (bytes : List Byte) (maint : Option Nat)
  | spwStore (set : Table Word) (gale : Nat)
  | folioAhead (sector : Nat)
  | folioErase (sector : Nat)
  deriving DecidableEq, Repr

/-- A stored image volume (R349, IMAGE_STATUS) (DESIGN CHOICE, log entry 43). -/
structure Volume where
  build : Nat
  svn : Nat
  fmt : Nat
  state : Nat
  spares : Nat
  capacity : Nat
  retired : Nat
  deriving DecidableEq, Repr

/-- What a settings slot holds (R49, R144, R221, R305, R371). -/
structure Settings where
  fmt : Nat
  mode : Option Nat
  spwStore : Option (Table Word)
  spwGale : Nat
  catalogue : List CatEntry
  policies : Table (Nat × Bool × Nat)
  upParams : Option UpParams
  deriving DecidableEq, Repr

/-- Flash, ledger, settings and OTP (R346 to R371) (DESIGN CHOICE, log entry 43). -/
structure Nvm where
  lifecycle : Nat
  identity : Nat
  svn : Nat
  keyHash : List Word
  pubKey : List Word
  romVersion : Nat
  running : Nat
  inRecovery : Bool
  volA : Volume
  volB : Volume
  active : Nat
  trialVol : Nat
  trialState : Nat
  fellBack : Nat
  lastFallback : Nat
  bootCount : Nat
  piecesHeld : List Nat
  session : Nat
  sessionVol : Nat
  sessionPieces : Nat
  bundle : Nat
  sessionManifest : List Byte
  jobs : List FlashJob
  journal : List Nat
  journalSeq : Nat
  halfErased : List Nat
  erases : Table Nat
  nominal : Table (Nat × Nat)
  retired : List Nat
  spareC : Nat
  pastRated : List Nat
  settingsRo : Bool
  settingsSlot : Nat
  settingsFmt : Nat
  oldSlot : Option Settings
  storedMode : Option Nat
  pendingMode : Option Nat
  spwStore : Option (Table Word)
  spwGale : Nat
  catalogue : List CatEntry
  policies : Table (Nat × Bool × Nat)
  upParams : Option UpParams
  engineFails : Table Nat
  armedT : Option Nat
  windowEnd : Option Nat
  deriving DecidableEq, Repr

/-- The service port (R326 to R345). -/
structure Port where
  st : Nat
  aoRail : Bool
  ams : Bool
  ownAms : Bool
  msgIdTx : Nat
  waitSend : List (Nat × Nat)
  asked : Option PdBlock
  askedAt : Nat
  autoAnswered : Bool
  ownReq : Nat
  sentAt : Nat
  rdo : Nat
  softReset : Bool
  resetOut : Bool
  partnerDual : Bool
  frsArmed : Bool
  frsAt : Option Nat
  frsBusy : Bool
  frsAsk : Bool
  frsTime : Nat
  recoveryEnd : Nat
  deriving DecidableEq, Repr

/-- SRAM health (R394 to R397). -/
structure Sram where
  hits : Table (List Nat)
  repairs : Nat
  spareRows : Nat
  pages : List (Nat × Nat)
  deriving DecidableEq, Repr

/-- A buffered register write (R48, R49): the value of the coming boundary and the one written too late for it. -/
structure Shadow where
  value : Option Word
  late : Option Word
  deriving DecidableEq, Repr

/-- The machine. -/
structure State where
  fc : FrameClock
  tt : TreeTime
  readyAt : Nat
  role : Nat
  neverFramed : Bool
  hubNo : Nat
  regs : Table Word
  shadows : Table Shadow
  latches : Table Word
  intFn : Table Bool
  cen : Table Word
  badRegs : List Nat
  stuckRegs : List Nat
  trngBad : Bool
  locked : Bool
  rings : Table Ring
  fn0 : FnState
  fn1 : FnState
  lease : Lease
  flight : List Desc
  cqWait : List (Desc × CqEntry)
  nextId : Nat
  seqs : Table Nat
  seqOwn : Table Nat
  pool : List Waiting
  poolMerged : Nat
  catalogue : List CatEntry
  nodes : Table Node
  eps : Table EpCtx
  segs : Table Seg
  links : Table Link
  upHeld : List Msg
  orphans : List (Nat × Nat × Nat)
  shelves0 : Table Shelf
  shelves1 : Table Shelf
  later : List Later
  vacated : List Vacated
  rules : Table Rule
  branchRules : Table Rule
  ruleReqs : List RuleReq
  deposits : Table (List Byte)
  subs : Table Bool
  mirror : Table (List Byte)
  evals : Nat
  slotEvals : List Nat
  gustActs : List (Nat × RuleWrite)
  spws : Table Spw
  pw : Power
  folio : Folio
  nvm : Nvm
  port : Port
  sram : Sram
  movesThisEpoch : List Nat
  epochFrame : Option Nat
  freeCtr : Nat
  bootAt : Nat
  booted : Bool
  starting : Bool
  out : List Out
  pending : List Instr
  deriving DecidableEq, Repr

/-! ## The machine right after reset (R415, R277, R292)

Every register holds its reset value: no register is listed. Values the spec gives no number for are named in the
assumption log (entries 3 and 4). -/

/-- A ring never enabled: every field 0, state OFF. -/
def Ring.reset : Ring :=
  ⟨.off, 0, 0, 0, 0, 0, false, 0, 0, 0, 0, 0, none, 0, 0⟩

/-- A function after reset: Bus Master Enable and AtomicOp Requester Enable clear, every vector masked. -/
def FnState.reset : FnState :=
  { bme := false, atomicEn := false, round := [],
    galeTaken := [], sweepAt := [], ctxDue := [], enableDue := [], kickDue := false, rereads := [], fqWait := [], fqLost := 0, pba := [], unmasked := [] }

/-- An endpoint's reset configuration: not periodic, not enabled, shelf 0, no hint (R397) (DESIGN CHOICE, log entry
4). -/
def EpCtx.reset : EpCtx :=
  { cls := .draught, intervalUs := 0, granules := 1, shelf := 0, enabled := false, info := none,
    togOut := false, togIn := false, sample := none, sampleCap := 0, sampleTq := 0, outVal := [], halted := false,
    erred := false, failFrames := 0, writeFails := 0, failedNow := false, goodNow := false, writeFailedNow := false, outSlot := none, probeFirst := false,
    askToggle := false, resetEpFirst := false, force := false, dueAt := 0, lastSample := 0, hostWrites := [],
    sending := none, ruleWrites := [], ruleSending := none, hint := .none, ring := 0, reserve := false, held := 0,
    epochRecs := 0, galeKept := false }

/-- No node at an address (DESIGN CHOICE, log entry 4). -/
def Node.reset : Node :=
  { identity := 0, gen := 0, caps := 0, epCount := 0, phase := .absent, quarantined := false, authed := false,
    returned := false, autoApproved := false, approvedNow := false, truncated := false, serveAt := 0, failFrames := 0,
    failedNow := false, goodNow := false, failing := false, lastGood := 0, lastAddressed := 0, quietUntil := 0, rxCtr := 0, txCtr := 0,
    wakeFirst := false, approve := [], moveTo := 0, endpointsAgain := false, wakeEn := false, authNo := 0, sessKey := 0 }

/-- A segment port at rest (DESIGN CHOICE, log entry 4). -/
def Seg.reset : Seg :=
  { st := 0, work := [], cur := [], galeUsed := 0, roundAt := 0, ctls := [], bulks := [], dist := none, bcast := [],
    hellos := [], tokens := [], sweepDue := false, sweepNext := 0, repeatAt := none, burst := 0, empty := 0,
    sweeping := none, helloSeen := false, corrupt := [], corruptRun := 0, policy := 0, secure := false, pfx := 0,
    foreign := 0, foreignAt := none, reported := [], waitResume := false, resumeBegun := none, resumeOver := false, stepHeld := false,
    suspendNext := false, reannounce := true, stateFrame := 0, quietUntil := 0, lastStatus := [],
    lastPower := [], timeDue := false, lost := false, faulted := false, held := [], holdFrom := 0, shares := [], roundCounted := false,
    voided := false, burstRun := false, sweepFrame := 0, woken := false, batch := 0, breezeUsed := 0 }

/-- A link at rest: no partner, no credit, every receive buffer free (virtual channel table) (DESIGN CHOICE, log entry
4). -/
def Link.reset : Link :=
  { st := 0, prev := 0, presence := false, presentAt := none, noPartner := false, lp := 0, rate := 0,
    width := 0, resolved := 0, active := 0, locked := 0, failed := 0, trials := [], txSeq := 0, rxSeq := 0, acked := 0,
    nakFor := none, nakAt := 0, nakSeq := 0, nakCount := 0, replay := [], held := [], credits := [0, 0, 0, 0],
    rxFree := [128, 448, 1024, 64], owed := [0, 0, 0, 0], breezeUnits := 0, draughtUnits := 0, inMsg := [], ackAt := 0, cls := 0, identity := 0, plife := 0, pport := 0,
    pwidth := 0, phub := 0, certOk := false, keyFp := 0, lidSeen := false, quarantined := false,
    roleDone := false, exchanges := 0, t1 := 0, rttNs := 0, ds := [], rateNext := none, lastFlit := 0, orphanSince := none, downAt := none, holdUntil := none, streamTag := 0,
    grants := [], grantQueue := [], acksDue := [], draining := false, sentParams := none, stateFrame := 0, lastS1 := [],
    lastS2 := [], adv := 0, lockAt := 0, frameDiff := 0, authDone := false,
    flitNo := 0, vc3Gap := 15, stepAt := none, rejoinAt := none, lpLocked := 0, modRates := 0, prevHub := 0, rejoin := none }

/-- An empty rule slot holds no bytes. -/
def Rule.reset : Rule :=
  ⟨[], false, false, 0, false, none, none⟩

/-- One segment's power machinery at rest. -/
def Spw.reset : Spw :=
  { runs := [], instRun := 0, enAt := 0, slew := false, recent := [], msSum := 0, msCount := 0,
    lastMean := none, onAt := 0, backoffUntil := 0, waiters := [], trips := 0, pkSince := 0, sumSince := 0,
    cntSince := 0, badTests := 0, cleanTests := 0, badKind := 0, stateFrame := 0, waited := false, askedAt := 0 }

/-- Tree time at power-on reset: 0, FREERUN (R277). -/
def TreeTime.reset : TreeTime :=
  { time := 0, takenAt := 0, slewLeft := 0, trimPpb := 0, own := .freerun, parent := .freerun, eff := .freerun,
    absolute := false, hostAbsolute := false, good := 0, everMeasured := false, offset := 0, holdSince := none,
    before := none, steps := [], taken := [], slewing := false, srcChanged := false, hostLock := false, tokenDue := false, zdaAgree := 0, zdaSecond := none,
    second := none, lastPulse := none, ptmFails := 0, ppsRise := none, ppsHigh := false,
    started := false, syncSeen := none, offSum := 0, offCount := 0, phaseErr := 0 }

/-- Power at reset: chip state A0, no Squall, an empty watch list (R311, R317). -/
def Power.reset : Power :=
  { queue := [], galeSnap := none, squallAt := none, squallFrame := 0, squallTime := 0, squallShed := 0, target := none,
    going := none, lullAt := 0, wakeAt := none, watch := [], watchPrev := [], levelSeen := 0,
    coolSince := none, peakTemp := none, peakSeen := false,
    thermalData := [], squallLull := false, squallNoSeal := false, halved := false, refLostAt := none, clocksStopped := false, timeRefLostAt := none,
    off := false, recovery := 0, vaultAt := 0, savedRates := [], domRetried := [] }

/-- The Folio of a new part: no entry, every sector erased (R376). -/
def Folio.reset : Folio :=
  { ring := [], pos := 0, nextSeq := 0, dirty := [], badSectors := [], staging := [], slots := [], overflow := none,
    aoHeld := [], closed := false, sealing := none, sealDone := false, eraseFrame := none,
    eraseQueue := [] }

/-- A volume with nothing in it. -/
def Volume.empty : Volume := ⟨0, 0, 0, 0, 32, 735, 0⟩

/-- Flash, ledger, settings and OTP of a new Open part running volume A (DESIGN CHOICE, log entry 3). -/
def Nvm.reset : Nvm :=
  { lifecycle := 1, identity := 0, svn := 0, keyHash := [], pubKey := [], romVersion := 0, running := 0,
    inRecovery := false, volA := { Volume.empty with build := 1, state := 3 }, volB := Volume.empty, active := 0,
    trialVol := 0, trialState := 0, fellBack := 0, lastFallback := 0, bootCount := 1, piecesHeld := [], session := 0,
    sessionVol := 0, sessionPieces := 0, bundle := 0, sessionManifest := [], jobs := [], journal := [], journalSeq := 0,
    halfErased := [], erases := [], nominal := [], retired := [], spareC := 16, pastRated := [], settingsRo := false,
    settingsSlot := 0, settingsFmt := 0, oldSlot := none, storedMode := none, pendingMode := none, spwStore := none,
    spwGale := 0, catalogue := [], policies := [], upParams := none, engineFails := [], armedT := none,
    windowEnd := none }

/-- The service port with nothing attached and the AO rail present. -/
def Port.reset : Port :=
  { st := 0, aoRail := true, ams := false, msgIdTx := 0, ownAms := false, waitSend := [], asked := none, askedAt := 0,
    autoAnswered := false, ownReq := 0, sentAt := 0, rdo := 0, softReset := false, resetOut := false, partnerDual := false,
    frsArmed := false, frsAt := none, frsBusy := false, frsAsk := false, frsTime := 0, recoveryEnd := 0 }

/-- The machine right after power-on reset of a root in the single-host role (DESIGN CHOICE, log entry 2; DESIGN
CHOICE, log entry 3; DESIGN CHOICE, log entry 4). -/
def State.reset : State :=
  { fc := ⟨0, 0, 0, 0⟩, tt := TreeTime.reset, readyAt := 160000000, role := 0, neverFramed := true, hubNo := 0,
    regs := [], shadows := [], latches := [], intFn := [], cen := [], badRegs := [], stuckRegs := [], trngBad := false,
    locked := false, rings := [], fn0 := FnState.reset, fn1 := FnState.reset, lease := ⟨none, false, false, 0, none⟩,
    flight := [], cqWait := [], nextId := 0, seqs := [], seqOwn := [], pool := [], poolMerged := 0,
    catalogue := [], nodes := [], eps := [], segs := [], links := [], upHeld := [], orphans := [], shelves0 := [], shelves1 := [],
    later := [], vacated := [], rules := [], branchRules := [], ruleReqs := [], deposits := [], subs := [], mirror := [], evals := 0,
    slotEvals := [], gustActs := [], spws := [], pw := Power.reset, folio := Folio.reset, nvm := Nvm.reset, port := Port.reset,
    sram := ⟨[], 0, 64, []⟩, movesThisEpoch := [], epochFrame := none, freeCtr := 0, bootAt := 150000000, booted := false, starting := true,
    out := [], pending := [] }

end Sys2Proof.Machine
end

