-- ==== Sys2Proof/Machine/Ops.lean ====
section
/-! DEFINITION. The named operations over State that every meaning is built from: registers and their reset words,
counters, status bits and their messages, tables of contexts, tree time, the instant and the outcome of a command. -/
namespace Sys2Proof.Machine

/-! ## Registers -/

/-- Reset words that depend on the instance or that the tables word otherwise (log entry 3): SEG_ENGINE, LIB_ENGINE,
LIB_CORE, and the values an Open part running volume A shows. -/
def specialReset (a : Nat) : Option Nat :=
  if 0x200000 ≤ a ∧ a < 0x20C000 ∧ (a - 0x200000) % 0x400 = 0x28 then some ((a - 0x200000) / 0x400)
  else if 0x6100 ≤ a ∧ a < 0x61C0 then some (0x40 + (a - 0x6100) / 4)
  else if 0x61C0 ≤ a ∧ a < 0x61D0 then some 0
  else if 0x6200 ≤ a ∧ a < 0x6214 then some (2 ^ ((a - 0x6200) / 4))
  else if a = 0x6214 then some 0x60
  else if a = 0x6218 ∨ a = 0x621C then some 0x40000000
  else if a = 0x0004 then some 0x100
  else if a = 0x0048 then some 1
  else if a = 0x005C then some 1
  else if a = 0x1000 then some 4
  else if a = 0x1008 then some 1
  else if a = 0x100C then some 1
  else if a = 0x1028 then some 1
  else if a = 0x102C then some 256
  else if a = 0x2040 then some 1
  else if a = 0x2048 then some 3
  else if a = 0x3008 ∨ a = 0x300C ∨ a = 0x3020 then some 0xFFFFFFFF
  else if a = 0x3038 then some 64
  else none

/-- The reset word of a register; 0 where no register is assigned (R7) (DESIGN CHOICE, log entry 3). -/
def resetWord (a : Nat) : Word :=
  match specialReset a with
  | some n => BitVec.ofNat 32 n
  | none => match Reg.at a with
    | some (_, r) => BitVec.ofNat 32 r.reset
    | none => 0

namespace State

/-- The live word of a register. -/
def rd (s : State) (a : Nat) : Word := (s.regs.find a).getD (resetWord a)

/-- Set the live word of a register. -/
def wr (s : State) (a : Nat) (w : Word) : State := { s with regs := s.regs.put a (resetWord a) w }

/-- A field of a live register. -/
def fld (s : State) (a : Nat) (f : BitRange) : Nat := getField (s.rd a) f

/-- Set a field of a live register. -/
def setFld (s : State) (a : Nat) (f : BitRange) (v : Nat) : State := s.wr a (putField (s.rd a) f v)

/-- Set one bit. -/
def setFlag (s : State) (a : Nat) (f : BitRange) (v : Bool) : State := s.setFld a f (b2n v)

/-- A one-bit field as a Bool. -/
def flag (s : State) (a : Nat) (f : BitRange) : Bool := s.fld a f == 1

/-- Advance a 32-bit counter, wrapping (R8). -/
def bump (s : State) (a n : Nat) : State := s.wr a (s.rd a + BitVec.ofNat 32 n)

/-- Advance a field that wraps at its own width (R8). -/
def bumpFld (s : State) (a : Nat) (f : BitRange) : State := s.setFld a f (s.fld a f + 1)

/-- Advance a global counter (R69). -/
def glb (s : State) (k n : Nat) : State := s.bump (Reg.GLB_CNT k) n

/-- A clamp: HIF_CLAMP_COUNT, which is GLB_CNT0, advances once (R53, R55). -/
def clamped (s : State) : State := s.glb 0 1

/-- Count a clamp when there was one. -/
def clampIf (s : State) (b : Bool) : State := if b then s.clamped else s

/-! ## Contexts -/

def fnS (s : State) : Fn → FnState
  | .pf0 => s.fn0
  | .pf1 => s.fn1

def setFn (s : State) (f : Fn) (x : FnState) : State :=
  match f with
  | .pf0 => { s with fn0 := x }
  | .pf1 => { s with fn1 := x }

def modFn (s : State) (f : Fn) (g : FnState → FnState) : State := s.setFn f (g (s.fnS f))

def shelvesOf (s : State) : Fn → Table Shelf
  | .pf0 => s.shelves0
  | .pf1 => s.shelves1

def setShelves (s : State) (f : Fn) (x : Table Shelf) : State :=
  match f with
  | .pf0 => { s with shelves0 := x }
  | .pf1 => { s with shelves1 := x }

def ep (s : State) (k : Nat) : EpCtx := s.eps.getD k EpCtx.reset
def setEp (s : State) (k : Nat) (c : EpCtx) : State := { s with eps := s.eps.put k EpCtx.reset c }
def modEp (s : State) (k : Nat) (f : EpCtx → EpCtx) : State := s.setEp k (f (s.ep k))

def node (s : State) (k : Nat) : Node := s.nodes.getD k Node.reset
def setNode (s : State) (k : Nat) (c : Node) : State := { s with nodes := s.nodes.put k Node.reset c }
def modNode (s : State) (k : Nat) (f : Node → Node) : State := s.setNode k (f (s.node k))

def seg (s : State) (p : Nat) : Seg := s.segs.getD p Seg.reset
def setSeg (s : State) (p : Nat) (c : Seg) : State := { s with segs := s.segs.put p Seg.reset c }
def modSeg (s : State) (p : Nat) (f : Seg → Seg) : State := s.setSeg p (f (s.seg p))

def link (s : State) (p : Nat) : Link := s.links.getD p Link.reset
def setLink (s : State) (p : Nat) (c : Link) : State := { s with links := s.links.put p Link.reset c }
def modLink (s : State) (p : Nat) (f : Link → Link) : State := s.setLink p (f (s.link p))

def spw (s : State) (p : Nat) : Spw := s.spws.getD p Spw.reset
def setSpw (s : State) (p : Nat) (c : Spw) : State := { s with spws := s.spws.put p Spw.reset c }
def modSpw (s : State) (p : Nat) (f : Spw → Spw) : State := s.setSpw p (f (s.spw p))

def rule (s : State) (i : Nat) : Rule := s.rules.getD i Rule.reset
def setRule (s : State) (i : Nat) (c : Rule) : State := { s with rules := s.rules.put i Rule.reset c }
def modRule (s : State) (i : Nat) (f : Rule → Rule) : State := s.setRule i (f (s.rule i))

def modTt (s : State) (f : TreeTime → TreeTime) : State := { s with tt := f s.tt }
def modPw (s : State) (f : Power → Power) : State := { s with pw := f s.pw }
def modFolio (s : State) (f : Folio → Folio) : State := { s with folio := f s.folio }
def modNvm (s : State) (f : Nvm → Nvm) : State := { s with nvm := f s.nvm }
def modPort (s : State) (f : Port → Port) : State := { s with port := f s.port }

/-- Emit an output (DESIGN CHOICE, log entry 9). -/
def emit (s : State) (o : Out) : State := { s with out := s.out ++ [o] }

/-- Something becomes due at the next frame boundary. -/
def atFrame (s : State) (l : Later) : State := { s with later := s.later ++ [l] }

/-- Take one fresh free value: the counter advances (DESIGN CHOICE, log entry 9). -/
def fresh (s : State) : Nat × State := (s.freeCtr, { s with freeCtr := s.freeCtr + 1 })

end State

/-- A function as a number. -/
def fnIx : Fn → Nat
  | .pf0 => 0
  | .pf1 => 1

/-- The other function. -/
def otherFn : Fn → Fn
  | .pf0 => .pf1
  | .pf1 => .pf0

/-- The key of a ring: its function and its ring index. -/
def ringKey (f : Fn) (i : Nat) : Nat := fnIx f * 2048 + i

namespace State
def ring (s : State) (f : Fn) (i : Nat) : Ring := s.rings.getD (ringKey f i) Ring.reset
def setRing (s : State) (f : Fn) (i : Nat) (r : Ring) : State :=
  { s with rings := s.rings.put (ringKey f i) Ring.reset r }
def modRing (s : State) (f : Fn) (i : Nat) (g : Ring → Ring) : State := s.setRing f i (g (s.ring f i))
end State

/-- The key of a node address of this hub. -/
def nodeKey (port node : Nat) : Nat := port * 256 + node

/-- The key of an endpoint of this hub: the low 19 bits of its TEA (R16). -/
def epKey (port node ep : Nat) : Nat := (port * 256 + node) * 32 + ep

/-- The TEA fields (R16). -/
def teaHub (t : Nat) : Nat := bitsOf t 19 5
def teaPort (t : Nat) : Nat := bitsOf t 13 6
def teaNode (t : Nat) : Nat := bitsOf t 5 8
def teaEp (t : Nat) : Nat := bitsOf t 0 5

/-- A TEA from its fields (R16). -/
def mkTea (hub port node ep : Nat) : Nat := ((hub * 64 + port) * 256 + node) * 32 + ep

/-- The key of a TEA within its hub. -/
def teaKey (t : Nat) : Nat := t % 2 ^ 19

/-- The key of the context that a hub holds for a TEA: its own endpoint's, or what the root notes of an endpoint of a
branch for placement (R19, R248) (DEDUCED, log entry 72). -/
def ctxKey (s : State) (t : Nat) : Nat := if teaHub t = s.hubNo then teaKey t else 2 ^ 24 + t

/-- The class of an endpoint: its context's, or for an endpoint of a branch what the root configured there (R210). -/
def epCls (s : State) (t : Nat) : Cls := (s.ep (ctxKey s t)).cls

/-- The bytes of the buffer behind an endpoint, in the same way: one that is not enabled holds no buffer, and so none that
limits a length (R84, R251) (DEDUCED, log entry 36). -/
def epBuffer (s : State) (t : Nat) : Option Nat :=
  let c := s.ep (ctxKey s t)
  if c.enabled then some (c.granules * 64) else none

/-- Is this hub a branch (R13). -/
def isBranch (s : State) : Bool := s.role == 2

/-- Is this hub a root in the dual-host role. -/
def isDual (s : State) : Bool := s.role == 1

/-- This hub's number (R11). -/
def hubOf (s : State) : Nat := s.hubNo

/-! ## Messages -/

/-- Send an MSI-X message, or set its PBA bit while it is masked or the function may not write (R71, R99). -/
def sendMsix (s : State) (f : Fn) (vec : Nat) : State :=
  let x := s.fnS f
  if x.bme && memNat x.unmasked vec then s.emit (.msix f vec)
  else s.setFn f { x with pba := addNat x.pba vec }

/-- The function whose write set an interrupt enable register (log entry 12). -/
def intOwner (s : State) (enableAddr : Nat) : Fn := if s.intFn.getD enableAddr false then .pf1 else .pf0

/-- Set a status bit; when it was clear and its enable is set, its message is sent (DESIGN CHOICE, log entry 12). -/
def raise (s : State) (statusAddr bit enableAddr : Nat) : State :=
  let was := bitOf (s.rd statusAddr).toNat bit
  let s1 := s.wr statusAddr (s.rd statusAddr ||| BitVec.ofNat 32 (2 ^ bit))
  if !was && bitOf (s.rd enableAddr).toNat bit then
    sendMsix s1 (intOwner s enableAddr) (bitsOf (s.rd enableAddr).toNat 16 11)
  else s1

def glbInt (s : State) (bit : Nat) : State := raise s Reg.GLB_INT_STATUS bit Reg.GLB_INT_ENABLE
def segInt (s : State) (p bit : Nat) : State := raise s (Reg.SEG_INT_STATUS p) bit (Reg.SEG_INT_ENABLE p)
def lnkInt (s : State) (p bit : Nat) : State := raise s (Reg.LNK_INT_STATUS p) bit (Reg.LNK_INT_ENABLE p)
def libInt (s : State) (bit : Nat) : State := raise s Reg.LIB_INT_STATUS bit Reg.LIB_INT_ENABLE
def gstInt (s : State) (bit : Nat) : State := raise s Reg.GST_INT_STATUS bit Reg.GST_INT_ENABLE
def timInt (s : State) (bit : Nat) : State := raise s Reg.TIM_INT_STATUS bit Reg.TIM_INT_ENABLE
def spwInt (s : State) (bit : Nat) : State := raise s Reg.SPW_INT_STATUS bit Reg.SPW_INT_ENABLE
def pwrInt (s : State) (bit : Nat) : State := raise s Reg.PWR_INT_STATUS bit Reg.PWR_INT_ENABLE
def pdpInt (s : State) (bit : Nat) : State := raise s Reg.PDP_INT_STATUS bit Reg.PDP_INT_ENABLE
def secInt (s : State) (bit : Nat) : State := raise s Reg.SEC_INT_STATUS bit Reg.SEC_INT_ENABLE
def nvmInt (s : State) (bit : Nat) : State := raise s Reg.NVM_INT_STATUS bit Reg.NVM_INT_ENABLE
def folInt (s : State) (bit : Nat) : State := raise s Reg.FOL_INT_STATUS bit Reg.FOL_INT_ENABLE

/-- Count an input the crypto engine rejects (R372). -/
def edgeRejected (s : State) : State := secInt ((s.bump (Reg.SEC_CNT 5) 1).glb 22 1) 1

/-- Count a signature or tag failure (R372, R374). -/
def cryptoFailed (s : State) : State := secInt (s.bump (Reg.SEC_CNT 6) 1) 1

/-- An operation that needs fresh randomness is rejected while the TRNG fails (R373): a CRYPTO_REJECT result, which
GLB_CNT22 counts. -/
def cryptoResult (s : State) : State := secInt (s.glb 22 1) 1

/-- Set a bit of HIF_ERR_STATUS of one function; its message goes to that function. -/
def hifErr (s : State) (f : Fn) (bit : Nat) : State :=
  let i := fnIx f
  let was := bitOf (s.rd (Reg.HIF_ERR_STATUS i)).toNat bit
  let s1 := s.wr (Reg.HIF_ERR_STATUS i) (s.rd (Reg.HIF_ERR_STATUS i) ||| BitVec.ofNat 32 (2 ^ bit))
  if !was && bitOf (s.rd (Reg.HIF_INT_ENABLE i)).toNat bit then
    sendMsix s1 f (s.fld (Reg.HIF_INT_ENABLE i) Fld.HIF_INT_ENABLE_VECTOR)
  else s1

/-- Drive a pin. -/
def drive (s : State) (p : Pin) (high : Bool) : State := s.emit (.pin p high)

/-! ## Tree time -/

/-- 80 bits of tree time: 64 of ns and 16 of fraction (R275). -/
def timeMod (i : Int) : Nat := ofSigned 80 i

/-- Tree time moved forward to an instant of the frame clock, with the slew it uses up on the way (R285) (DEDUCED, log
entry 6). -/
def TreeTime.to (tt : TreeTime) (slewMax now : Nat) : TreeTime :=
  let dt := now - tt.takenAt
  let most : Int := (dt * slewMax * 65536 / 1000000 : Nat)
  let part : Int := if tt.slewLeft < 0 then (if -most < tt.slewLeft then tt.slewLeft else -most)
    else if most < tt.slewLeft then most else tt.slewLeft
  { tt with time := timeMod ((tt.time : Int) + (dt * 65536 : Nat) + part), takenAt := now,
            slewLeft := tt.slewLeft - part }

/-- Tree time now, in ns (R275). -/
def treeNs (s : State) : Nat := s.tt.time / 65536

/-- Tree time in ns at an earlier instant of the frame clock, in the base in force (R288, log entry 20). -/
def treeNsAt (s : State) (at_ : Nat) : Nat :=
  timeMod ((s.tt.time : Int) - ((s.fc.now - at_) * 65536 : Nat)) / 65536

/-- The instant of the frame clock at which tree time had a value: the latest before the newest step, else before the one
ahead of it, and so on, so that a step in between changes no elapsed time (R36, R37) (DEDUCED, log entry 91). -/
def instantIn (now : Nat) : List (Nat × Int) → Int → Nat → Nat
  | [], t, cap => now - (t - cap).toNat
  | (at_, d) :: r, t, cap =>
    let i := now - (t - cap).toNat
    if at_ ≤ i ∧ (cap : Int) ≤ t then i else instantIn now r (t - d / 65536) cap

/-- The instant of the frame clock at which tree time had a value. -/
def instantOf (s : State) (cap : Nat) : Nat := instantIn s.fc.now s.tt.taken (treeNs s) cap

/-- The code of a time state (R278). -/
def TimeSt.code : TimeSt → Nat
  | .freerun => 0
  | .acquiring => 1
  | .locked => 2
  | .holdover => 3
  | .expired => 4

/-- A time state from its code. -/
def TimeSt.ofCode : Nat → TimeSt
  | 0 => .freerun
  | 1 => .acquiring
  | 2 => .locked
  | 3 => .holdover
  | _ => .expired

/-- Is tree time still below the BEFORE of a backward step (R289). -/
def underBefore (s : State) : Bool :=
  match s.tt.before with
  | some b => decide (treeNs s < b)
  | none => false

/-- The TQ of a capture now: by AGE, or at the poll or by the hub (R289). -/
def tqNow (s : State) (byAge : Bool) : Nat :=
  if underBefore s then 0
  else match s.tt.eff with
    | .locked => if byAge then 3 else 2
    | .acquiring | .holdover => 1
    | .freerun | .expired => 0

/-! ## The host side is up -/

/-- HIF_READY: start-up is over and the chip has a host path (R415, R368, R320, R340) (DEDUCED, log entry 16). -/
def isReady (s : State) : Bool :=
  decide (s.readyAt ≤ s.fc.now) && !s.pw.off && s.pw.recovery == 0 && !s.flag (Reg.PWR_DOM 3) Fld.PWR_DOM_FAULT

/-- Is a block held (R59). -/
def isHeld (s : State) (bit : Nat) : Bool := bitOf (s.rd Reg.GLB_PROT_HOLD).toNat bit

/-- Is a Squall latched (R306). -/
def squallOn (s : State) : Bool := s.flag Reg.PWR_STATUS Fld.PWR_STATUS_SQUALL

/-- The chip state (R311): 0 A0, 1 A1, 2 Lull, 4 ENTERING, 5 LEAVING. -/
def chipState (s : State) : Nat := s.fld Reg.PWR_STATUS Fld.PWR_STATUS_STATE

/-- Advance one of the counts of the running epoch (LIB_STAT). -/
def libStat (s : State) (k : Nat) : State :=
  let l := s.movesThisEpoch.take 8 ++ List.replicate (8 - s.movesThisEpoch.length) 0
  { s with movesThisEpoch := l.set k (l.getD k 0 + 1) }

/-- Lull ends with a cause: the chip leaves for A0, which it reaches when the transition completes (R319) (DEDUCED,
log entry 76). -/
def lullWake (s : State) (cause : Nat) : State :=
  if chipState s = 2 then
    let secs := Nat.min 0xFFFF ((s.fc.now - s.pw.lullAt) / 1000000000)
    let s1 := (s.setFld Reg.PWR_STATUS Fld.PWR_STATUS_STATE 5).setFld Reg.PWR_STATUS Fld.PWR_STATUS_WAKE_CAUSE cause
    let s2 := s1.setFld Reg.PWR_LULL_STATUS Fld.PWR_LULL_STATUS_LAST_S secs
    pwrInt (pwrInt (s2.modPw fun w => { w with going := some 0, wakeAt := some s.fc.now }) 1) 0
  else s

/-! ## A command's instant and outcome -/

/-- A command happens at instant t of the frame clock: the clock moves to it and never back, tree time with it, and
the outputs of the command before it are gone (DEDUCED, log entry 5; DESIGN CHOICE, log entry 83). -/
def start (t : Nat) (s : State) : State :=
  let now := if s.fc.now < t then t else s.fc.now
  { s with fc := { s.fc with now := now },
           tt := s.tt.to (s.fld Reg.TIM_SLEW_MAX Fld.TIM_SLEW_MAX_US_PER_S) now, out := [] }

/-- Do the domains other than AO run: the chip is not off, and REFCLK_SYS is present (R320, R393). -/
def awake (s : State) : Bool := !s.pw.off && !s.pw.clocksStopped

/-- The outcome of a command that leaves the count of frames alone (R21) and acts in every chip state: its effect on
everything but the queue of commands and the frame clock, which stands at the command's instant. -/
def aoEffect (t : Nat) (s : State) (f : State → State) : Host.Outcome State Fault Refusal :=
  let b := start t s
  .next { f b with fc := b.fc, pending := s.pending }

/-- The outcome of a boundary of the frame clock: the clock stands where its own rule puts it, whatever the work of the
boundary is (R20, R21). -/
def tickEffect (t : Nat) (s : State) (clock : State → FrameClock) (f : State → State) :
    Host.Outcome State Fault Refusal :=
  let b := start t s
  .next { f b with fc := clock b, pending := s.pending }

/-- The outcome of a command on a domain that stops with its state held while the chip is off or without REFCLK_SYS. -/
def effect (t : Nat) (s : State) (f : State → State) : Host.Outcome State Fault Refusal :=
  aoEffect t s fun b => if awake b then f b else b

/-- The outcome of a command on the TIME domain or on the breakers, which run without REFCLK_SYS (R393). -/
def timeEffect (t : Nat) (s : State) (f : State → State) : Host.Outcome State Fault Refusal :=
  aoEffect t s fun b => if b.pw.off then b else f b

/-- The frame clock at a cold start, and of a branch that starts orphaned: frame 0 begins now (R15, R20, R415). -/
def coldClock (s : State) : FrameClock := ⟨s.fc.now, 0, s.fc.now, 0⟩

/-- The outcome of a command that may be a power-on reset or PERST: the frame clock begins anew exactly when it is one. -/
def resetEffect (t : Nat) (s : State) (does : State → Bool) (f : State → State) : Host.Outcome State Fault Refusal :=
  tickEffect t s (fun b => if does b then coldClock b else b.fc) f

/-- A command has its effect; a term whose operands name nothing the hub has (a port above 47) moves the clock and
changes nothing (DESIGN CHOICE, log entry 87). -/
def whenWf (ok : Bool) (t : Nat) (s : State) (o : Host.Outcome State Fault Refusal) : Host.Outcome State Fault Refusal :=
  if ok then o else aoEffect t s id

/-- Repeat a state change for each of a list. -/
def forEach {α : Type} (l : List α) (s : State) (f : State → α → State) : State := l.foldl f s

end Sys2Proof.Machine
end

