-- ==== Sys2Proof/Machine/LinkTx.lean ====
section
/-! DEFINITION. Sending on a Craora link: messages and their fragments (R215, R216), DATA flits, credits, the replay
buffer (R206 to R212), LLCTL. Link 16 is the upstream link of a branch. -/
namespace Sys2Proof.Machine

/-- The upstream link of a branch. -/
def upLink : Nat := 16

/-- The upstream parameters a branch holds (R221): those stored, or the set of a branch that holds none. -/
def upParamsOf (s : State) : UpParams :=
  s.nvm.upParams.getD ⟨BitVec.ofNat 32 0x2F3, 0x301, 10, BitVec.ofNat 32 (10 * 65536 + 64), 0⟩

/-- LNK_CFG of a link. -/
def linkCfg (s : State) (l : Nat) : Word := if l = upLink then (upParamsOf s).cfg else s.rd (Reg.LNK_CFG l)
/-- LNK_VC_WEIGHT of a link. -/
def linkWeights (s : State) (l : Nat) : Word :=
  if l = upLink then (upParamsOf s).vcWeight else s.rd (Reg.LNK_VC_WEIGHT l)
/-- LNK_HOLD of a link. -/
def linkHold (s : State) (l : Nat) : Word := if l = upLink then (upParamsOf s).hold else s.rd (Reg.LNK_HOLD l)
/-- LNK_ORPHAN of a link. -/
def linkOrphan (s : State) (l : Nat) : Word := if l = upLink then (upParamsOf s).orphan else s.rd (Reg.LNK_ORPHAN l)
/-- LNK_TS_ASYM of a link. -/
def linkAsym (s : State) (l : Nat) : Word := if l = upLink then (upParamsOf s).asym else s.rd (Reg.LNK_TS_ASYM l)

/-- Advance a link counter; the upstream link of a branch has none (R236). -/
def lnkCnt (s : State) (l k n : Nat) : State := if l = upLink then s else s.bump (Reg.LNK_CNT l k) n

/-- Set a link interrupt bit; the upstream link of a branch has none. -/
def lnkIrq (s : State) (l bit : Nat) : State := if l = upLink then s else lnkInt s l bit

/-! ## Bonded ports (R195) -/

/-- Does instance l bond with l + 1 (R195). -/
def bonds (s : State) (l : Nat) : Bool := l % 2 == 0 && decide (l < 16) && s.flag (Reg.LNK_CFG l) Fld.LNK_CFG_BOND

/-- Is instance l the second of a bonded pair. -/
def bondedAway (s : State) (l : Nat) : Bool := l % 2 == 1 && decide (l < 16) && bonds s (l - 1)

/-! ## Flits -/

/-- The first word of a flit (R206). -/
def flitWord (vc ftype seq crVc crCount ack : Nat) : Nat :=
  (((((vc % 4) * 4 + ftype % 4) * 4096 + seq % 4096) * 4 + crVc % 4) * 64 + crCount % 64) * 256 + ack % 256

/-- The 256 bytes of a flit (R206, R207). -/
def flitBytes (vc ftype seq crVc crCount ack : Nat) (payload : List Byte) : List Byte :=
  let body := beBytes 4 (flitWord vc ftype seq crVc crCount ack) ++ fitBytes 244 payload
  body ++ beBytes 8 (crc64 body)

/-- The virtual channel whose freed buffers the next flit returns: the lowest that owes any (DESIGN CHOICE, log 31). -/
def creditVc (l : Link) : Nat := ((List.range 4).find? fun v => l.owed.getD v 0 != 0).getD 0

/-- The lane of the next flit: flit k of a link travels on active lane k mod L (R196). The model counts the flits it sends;
it sends no IDLE flit for a slot in which nothing happens (DESIGN CHOICE, log entry 92). -/
def nextLane (l : Link) : Nat :=
  let on := bitList 4 l.active
  on.getD (l.flitNo % on.length) 0

/-- Send one flit with the ACK and the credit return that go with it (R206, R208, R209). -/
def putFlit (s : State) (p vc ftype seq : Nat) (payload : List Byte) : State :=
  let l := s.link p
  let v := creditVc l
  let n := Nat.min (l.owed.getD v 0) 63
  (s.setLink p { l with owed := l.owed.set v (l.owed.getD v 0 - n), flitNo := l.flitNo + 1 }).emit
    (.flit p (nextLane l) (flitBytes vc ftype seq v n l.rxSeq payload))

/-- Send an IDLE flit: the slot has nothing else to carry (R208) (DEDUCED, log entry 23). -/
def putIdle (s : State) (p : Nat) : State := putFlit s p 0 0 0 []

/-- Send an LLCTL flit (R208). -/
def putLlctl (s : State) (p sub : Nat) (rest : List Byte) : State := putFlit s p 0 2 0 (BitVec.ofNat 8 sub :: rest)

/-- The payload of a DATA flit (R215). -/
def fragPayload (first last : Bool) (data : List Byte) : List Byte :=
  BitVec.ofNat 8 (b2n first * 128 + b2n last * 64) :: BitVec.ofNat 8 data.length :: data

/-- Cut a list into pieces of at most n (n > 0). -/
def cutInto {α : Type} (n : Nat) : Nat → List α → List (List α)
  | 0, _ => []
  | fuel + 1, l => if l.length ≤ n then [l] else l.take n :: cutInto n fuel (l.drop n)

/-- The 24-byte message header, most significant byte first (R215, R216). -/
def msgHeader (m : Msg) : List Byte :=
  [BitVec.ofNat 8 m.mtype, BitVec.ofNat 8 (b2n m.pf1)] ++ beBytes 3 m.tea ++ [BitVec.ofNat 8 m.sq] ++ beBytes 2 m.tag ++
    beBytes 4 m.body.length ++ beBytes 4 m.aux ++ beBytes 8 m.time

/-- The payloads of the DATA flits of a message (R215). -/
def msgPayloads (m : Msg) : List (List Byte) :=
  let bs := msgHeader m ++ m.body
  let parts := cutInto 242 bs.length bs
  let n := parts.length
  (parts.zip (List.range n)).map fun (d, i) => fragPayload (i == 0) (i + 1 == n) d

/-- DATA flits sent and not acknowledged yet. -/
def unacked (l : Link) : Nat := (l.txSeq + 4096 - l.acked) % 4096

/-- The lane rate of a link in units of 1/32 Gbit/s (R196). -/
def laneUnits (l : Link) : Nat := match l.rate with
  | 4 => 3600
  | 3 => 3400
  | 2 => 1700
  | _ => 850

/-- The marker index at an instant: periods of 44,569,920 bits since alignment lock (R196, R203, R208). -/
def markersAt (l : Link) (now : Nat) : Nat := (now - l.lockAt) * laneUnits l / (32 * 44569920) % 2 ^ 32

/-- Has the marker of an index been reached, as indices modulo 2³² go. -/
def markerPassed (l : Link) (now m : Nat) : Bool := decide ((markersAt l now + 2 ^ 32 - m) % 2 ^ 32 < 2 ^ 31)

/-- Has a rate change stopped DATA: its marker has been reached (R222). -/
def stepStops (l : Link) (now : Nat) : Bool := l.st == 9 || match l.stepAt with
  | some x => markerPassed l now x.2
  | none => false

/-- May a DATA flit go on a virtual channel now (R209, R212, R222). -/
def canSend (l : Link) (now vc : Nat) : Bool := decide (0 < l.credits.getD vc 0) && decide (unacked l < 255) &&
  !stepStops l now && !l.draining

/-- Is something held for a virtual channel. -/
def heldOn (l : Link) (vc : Nat) : Bool := l.held.any fun h => h.vc == vc

/-- The virtual channel of the next DATA flit, in the order of R209; none when nothing can go. VC3 takes at most one flit
of 16 while another channel has a flit to send; without one, the slots between are IDLE (R208, R209) (DEDUCED, log
entry 92). In Lull a link carries no DATA but that of VC3 (R316). -/
def nextVc (s : State) (p : Nat) : Option Nat :=
  let l := s.link p
  let ok := fun vc => heldOn l vc && canSend l s.fc.now vc && (vc == 3 || chipState s != 2)
  if ok 0 then some 0
  else if ok 3 && (decide (15 ≤ l.vc3Gap) || !(ok 1 || ok 2)) then some 3
  else if ok 1 && (decide (0 < l.breezeUnits) || !(ok 2 && decide (0 < l.draughtUnits))) then some 1
  else if ok 2 then some 2
  else none

/-- Spend one unit of weight of VC1 or VC2; the units are renewed when those of the channel are used up (R210). -/
def spendUnit (s : State) (p vc : Nat) : State :=
  let w := linkWeights s p
  s.modLink p fun l =>
    let l1 := if (vc == 1 && l.breezeUnits == 0) || (vc == 2 && l.draughtUnits == 0) then
        { l with breezeUnits := getField w Fld.LNK_VC_WEIGHT_BREEZE,
                 draughtUnits := getField w Fld.LNK_VC_WEIGHT_DRAUGHT }
      else l
    if vc == 1 then { l1 with breezeUnits := l1.breezeUnits - 1 }
    else if vc == 2 then { l1 with draughtUnits := l1.draughtUnits - 1 } else l1

/-- The held messages after the next fragment of a virtual channel has gone: what is left of its oldest message. -/
def dropFrag (vc : Nat) (rest : List (List Byte)) : List HeldMsg → List HeldMsg
  | [] => []
  | x :: r => if x.vc == vc then (if rest.isEmpty then r else { x with left := rest } :: r) else x :: dropFrag vc rest r

/-- A time message takes the instant its flit leaves: TIME in ns, and the FRACTION that its body begins with (R220). -/
def stamped (m : Msg) (time : Nat) : Msg :=
  if m.mtype = 0x14 ∨ m.mtype = 0x15 then
    { m with time := time / 65536, body := beBytes 2 (time % 65536) ++ m.body.drop 2 }
  else m

/-- What of a held message is left to send at an instant of tree time: a time message, which is one flit, is stamped. -/
def leftAt (h : HeldMsg) (time : Nat) : List (List Byte) :=
  if h.msg.mtype = 0x14 ∨ h.msg.mtype = 0x15 then msgPayloads (stamped h.msg time) else h.left

/-- What the first flit of a message starts: t1 of an exchange (R220), the reply window of a frame to a stream node
(R231). -/
def messageLeaves (s : State) (p : Nat) (m : Msg) : State :=
  if m.mtype = 0x14 then s.modLink p fun k => { k with t1 := s.tt.time }
  else if m.mtype = 0x20 then s.modSeg (48 + p) fun g => { g with cur := g.cur.map fun x => { x with sentAt := s.fc.now } }
  else s

/-- Send the next fragment of the oldest message held on a virtual channel. -/
def sendFrag (s : State) (p vc : Nat) : State :=
  let l := s.link p
  match l.held.find? fun h => h.vc == vc with
  | none => s
  | some h =>
    match leftAt h s.tt.time with
    | [] => s
    | f :: rest =>
      let last := rest.isEmpty
      let fl : TxFlit := ⟨l.txSeq, vc, f, if last then h.desc else none, if last then some h.msg else none⟩
      let s1 := s.setLink p { l with
        held := dropFrag vc rest l.held, txSeq := (l.txSeq + 1) % 4096,
        credits := l.credits.set vc (l.credits.getD vc 0 - 1), replay := l.replay ++ [fl],
        vc3Gap := if vc = 3 then 0 else l.vc3Gap + 1, ackAt := if l.replay.isEmpty then s.fc.now else l.ackAt }
      let s2 := if bitOf (byteAt f 0) 7 then messageLeaves s1 p h.msg else s1
      lnkCnt (putFlit (spendUnit s2 p vc) p vc 1 l.txSeq f) p 0 1

/-- Send what credits and the replay window allow (R209, R212). -/
def pumpLink (s : State) (p : Nat) : State :=
  let fuel := (s.link p).held.foldl (fun n h => n + h.left.length) 0
  (List.range fuel).foldl (fun s _ => match nextVc s p with
    | some vc => sendFrag s p vc
    | none => s) s

/-- Give a message to a link: it goes out at once, or is held until credit returns (R209, R223). -/
def sendMsg (s : State) (p vc : Nat) (m : Msg) (desc : Option Nat := none) : State :=
  pumpLink (s.modLink p fun l => { l with held := l.held ++ [⟨vc, m, desc, msgPayloads m, s.fc.now⟩] }) p

/-- Would a one-flit message go out at once on a virtual channel. -/
def goesAtOnce (s : State) (p vc : Nat) : Bool := canSend (s.link p) s.fc.now vc && !heldOn (s.link p) vc

/-- Is a message of a descriptor still held on a link for want of credit. -/
def heldDesc (s : State) (l id : Nat) : Bool := (s.link l).held.any fun h => h.desc == some id

/-- Resend every unacknowledged flit from a SEQ in order (R212). -/
def replayFrom (s : State) (p seq : Nat) : State :=
  let fs := (s.link p).replay.dropWhile fun f => f.seq != seq
  let s1 := lnkCnt (lnkCnt (lnkCnt s p 3 1) p 4 fs.length) p 0 fs.length
  fs.foldl (fun s f => putFlit s p f.vc 1 f.seq f.payload) s1

/-- CPL and FAULT messages that have not reached the root: those sent and not acknowledged, then those held (R228, R230). -/
def unsentAnswers (l : Link) : List Msg :=
  (l.replay.filterMap (·.msg) ++ l.held.map (·.msg)).filter fun m => m.mtype == 2 || m.mtype == 4

/-- A link-management message: TEA 0 (R215). -/
def linkMsg (mtype aux time : Nat) (body : List Byte) : Msg := ⟨mtype, false, 0, 0, 0, aux, time, body⟩

end Sys2Proof.Machine
end

