-- ==== Sys2Proof/Machine/Record.lean ====
section
/-! DEFINITION. Records: Folio entries posted (R380 to R382), event records and the wait pool (R94 to R98), completions
(R70, R80, R91), late-fault records (R92, R93) and interrupt moderation (R99). -/
namespace Sys2Proof.Machine

/-! ## Folio entries posted -/

/-- The 36 bytes of DETAIL (R377). -/
def folDetail (bs : List Byte) : List Byte := fitBytes 36 bs

/-- An entry of an event detected now; its SEQ is given when it is written (R377). -/
def folMake (s : State) (code source sev : Nat) (detail : List Byte) : FolioEntry :=
  { seq := 0, code := code, source := source, severity := sev, tq := tqNow s false, coalesced := false, sealed := false,
    time := treeNs s, frame := s.fc.frameNo, boot := s.nvm.bootCount, detail := folDetail detail }

/-- Show the counts of staging and slots (FOL_STATUS, FOL_COALESCE). -/
def folShow (s : State) : State :=
  ((s.setFld Reg.FOL_STATUS Fld.FOL_STATUS_STAGED s.folio.staging.length).setFld Reg.FOL_COALESCE
    Fld.FOL_COALESCE_SLOTS s.folio.slots.length).setFlag Reg.FOL_COALESCE Fld.FOL_COALESCE_OVERFLOW
    s.folio.overflow.isSome

/-- Coalesce an entry into its slot, a free slot or the overflow slot (R382). -/
def folCoalesce (s : State) (e : FolioEntry) : State :=
  let f := s.folio
  let s1 := folInt (s.glb 21 1) 1
  if f.slots.any fun c => c.code == e.code && c.source == e.source then
    s1.modFolio fun f => { f with slots := f.slots.map fun c =>
      if c.code == e.code && c.source == e.source then { c with count := c.count + 1, last := e.time } else c }
  else if f.slots.length < 64 then
    s1.modFolio fun f => { f with slots := f.slots ++ [⟨e.code, e.source, e.severity, 1, e.time, e.time,
      e.detail.take 16⟩] }
  else
    (s1.bump (Reg.FOL_CNT 3) 1).modFolio fun f => { f with overflow := some <| match f.overflow with
      | some o => { o with count := o.count + 1, last := e.time }
      | none => ⟨0xFF, e.source, 1, 1, e.time, e.time, []⟩ }

/-- Does a slot hold a count for this key. -/
def folSlotted (s : State) (e : FolioEntry) : Bool :=
  s.folio.slots.any fun c => c.code == e.code && c.source == e.source

/-- Take a token for an entry, from the CRITICAL bucket when the main one is empty (R381). -/
def folToken (s : State) (sev : Nat) : Option State :=
  let t := s.fld Reg.FOL_GOV Fld.FOL_GOV_TOKENS
  let r := s.fld Reg.FOL_GOV Fld.FOL_GOV_RESERVE
  if 0 < t then some (s.setFld Reg.FOL_GOV Fld.FOL_GOV_TOKENS (t - 1))
  else if sev == 3 && decide (0 < r) then
    some ((s.setFld Reg.FOL_GOV Fld.FOL_GOV_RESERVE (r - 1)).bump (Reg.FOL_CNT 1) 1)
  else none

/-- Stage an entry, or coalesce it when staging is full or closed, its key is slotted or no token is left
(R380 to R383). -/
def folStage (s : State) (e : FolioEntry) : State :=
  folShow <|
  if s.folio.closed || decide (64 ≤ s.folio.staging.length) || folSlotted s e then folCoalesce s e
  else match folToken s e.severity with
    | some s1 => s1.modFolio fun f => { f with staging := f.staging ++ [e] }
    | none => folCoalesce s e

/-- Post an entry for an event detected now. -/
def folPost (s : State) (code source sev : Nat) (detail : List Byte) : State :=
  folStage s (folMake s code source sev detail)

/-- An entry the AO core holds, up to 8, until the next boot (R379) (DEDUCED, log entry 81). -/
def folHold (s : State) (code source sev : Nat) (detail : List Byte) : State :=
  if s.folio.aoHeld.length < 8 then
    s.modFolio fun f => { f with aoHeld := f.aoHeld ++ [folMake s code source sev detail] }
  else s

/-! ## Ring arithmetic -/

/-- Entries in use of a ring: ahead of the host's head. -/
def Ring.used (r : Ring) : Nat := (r.count + 2 ^ 32 - r.ext) % 2 ^ 32

/-- Free entries of a ring the hub produces into. -/
def Ring.free (r : Ring) : Nat := r.size - r.used

/-- The phase of the entry at count c (R91). -/
def Ring.phase (r : Ring) (c : Nat) : Bool := (c / r.size) % 2 == 0

/-- Can the ring take n records now. -/
def ringTakes (s : State) (f : Fn) (i n : Nat) : Bool :=
  let r := s.ring f i
  (s.fnS f).bme && (r.st == .running || (r.st == .draining && decide (i < 512))) && decide (n ≤ r.free)

/-- Count written entries toward the ring's next message and send it when the profile's COUNT is reached (R99). -/
def moderate (s : State) (f : Fn) (i n : Nat) : State :=
  let r := s.ring f i
  if r.vector == 0xFFFF || n == 0 then s
  else
    let c := r.modCount + n
    if s.fld (Reg.HIF_MOD_PROFILE (fnIx f) r.profile) Fld.HIF_MOD_PROFILE_COUNT ≤ c then
      sendMsix (s.setRing f i { r with modCount := 0, modSince := none }) f r.vector
    else s.setRing f i { r with modCount := c, modSince := some (r.modSince.getD s.fc.now) }

/-- Produce one entry into a ring: its count advances (R91). -/
def produced (s : State) (f : Fn) (i n : Nat) : State :=
  s.modRing f i fun r => { r with count := (r.count + n) % 2 ^ 32 }

/-! ## Late-fault records -/

/-- The ring index of the FQ. -/
def fqIndex : Nat := 1536

/-- Write an FQ record into the ring. -/
def fqWrite (s : State) (f : Fn) (r : FqRecord) : State :=
  let q := s.ring f fqIndex
  let s1 := (s.emit (.fq f (q.count % q.size) (q.phase q.count) r)).glb 23 1
  moderate (produced s1 f fqIndex 1) f fqIndex 1

/-- Is a record the FQ_OVERFLOW record. -/
def isOverflow (r : FqRecord) : Bool := r.cause == 0x83

/-- Records that take a place of the on-chip store: the overflow record takes none. -/
def FnState.fqStored (x : FnState) : Nat := (x.fqWait.filter fun r => !isOverflow r).length

/-- One more record discarded: the overflow record at the end of those that wait counts it (R93). -/
def fqMiss : List FqRecord → List FqRecord
  | [] => [⟨0, 0x83, false, false, 0, 0, 0, 0, 0, 0, 1⟩]
  | [r] => if isOverflow r then [{ r with count := r.count + 1 }] else [r, ⟨0, 0x83, false, false, 0, 0, 0, 0, 0, 0, 1⟩]
  | r :: q :: l => r :: fqMiss (q :: l)

/-- Show how many FQ records wait. -/
def fqShow (s : State) (f : Fn) : State :=
  s.setFld (Reg.HIF_PENDING (fnIx f)) Fld.HIF_PENDING_FQ_WAITING (s.fnS f).fqStored

/-- An FQ record: written, waiting, or, while the store is full, discarded and counted (R93). -/
def fqPut (s : State) (f : Fn) (r : FqRecord) : State :=
  let x := s.fnS f
  if x.fqWait.isEmpty && ringTakes s f fqIndex 1 then fqWrite s f r
  else if x.fqStored < 4096 then fqShow (s.setFn f { x with fqWait := x.fqWait ++ [r] }) f
  else s.setFn f { x with fqLost := x.fqLost + 1, fqWait := fqMiss x.fqWait }

/-- Write the first waiting FQ record; the overflow record sets HIF_ERR_STATUS.FQ_OVERFLOW (R93). -/
def fqNext (s : State) (f : Fn) (r : FqRecord) : State :=
  let s1 := s.modFn f fun x => { x with fqWait := x.fqWait.drop 1 }
  if isOverflow r then
    hifErr ((fqWrite s1 f { r with originPf1 := fnIx f == 1, failTime := treeNs s }).modFn f fun x =>
      { x with fqLost := x.fqLost - r.count }) f 3
  else fqWrite s1 f r

/-- Write waiting FQ records in order while there is space; an overflow record goes at its place (R93). -/
def fqDrain (s : State) (f : Fn) : State :=
  fqShow ((s.fnS f).fqWait.foldl (fun (acc : State × Bool) r =>
    if acc.2 && ringTakes acc.1 f fqIndex 1 then (fqNext acc.1 f r, true) else (acc.1, false)) (s, true)).1 f

/-! ## The active function -/

/-- The function that records go to; none while no lease is valid (R96, R103, R105). -/
def activeFn (s : State) : Option Fn :=
  if isDual s then
    if s.lease.valid then (match s.lease.switchAt with
      | some _ => none
      | none => s.lease.holder)
    else none
  else some .pf0

/-- The system EQ of a function. -/
def sysEq (s : State) (f : Fn) : Nat := s.fld (Reg.HIF_SYS_EQ (fnIx f)) Fld.HIF_SYS_EQ_RING

/-- The shelf of an endpoint on a function. -/
def shelfOf (s : State) (f : Fn) (k : Nat) : Option Shelf := (s.shelvesOf f).find (s.ep k).shelf

/-- The ring of a TEA in a BY_TEA shelf: number TEA mod COUNT in list order (R241). -/
def teaRing (sh : Shelf) (tea : Nat) : Nat := sh.rings.getD (tea % sh.rings.length) 0

/-- The ring of an endpoint on a function: the one it was placed on while that is in the shelf, the system EQ when the shelf
is undefined (R240, R241). -/
def epRing (s : State) (f : Fn) (k tea : Nat) : Nat :=
  match shelfOf s f k with
  | none => sysEq s f
  | some sh =>
    let c := s.ep k
    let cand := if memNat sh.rings c.ring then c.ring else if sh.byTea then teaRing sh tea else sh.rings.headD (sysEq s f)
    if (s.ring f cand).st == .running then cand
    else (sh.rings.find? fun i => (s.ring f i).st == .running).getD cand

/-! ## Writing an event record -/

/-- The entries a record takes (R94). -/
def recEntries (r : EqRecord) : Nat := if 40 < r.data.length then 2 else 1

/-- The 24-byte header of an event record, little-endian (R3, R94). -/
def eqHeader (r : EqRecord) (phase cont more : Bool) : List Byte :=
  leBytes 4 (r.kind * 2 ^ 24 + r.tea) ++ leBytes 1 r.data.length ++
    leBytes 1 (b2n phase + 2 * (r.tq % 4) + 8 * b2n r.late + 16 * b2n cont + 32 * b2n r.coalesced + 64 * b2n more) ++
    leBytes 2 r.seq ++ leBytes 8 r.capture ++ leBytes 8 r.delivery

/-- The bytes of one entry of a record: part 0 whole, 1 the first of two, 2 the continuation (R94). -/
def eqBytes (r : EqRecord) (phase : Bool) (part : Nat) : List Byte :=
  eqHeader r phase (part == 2) (part == 1) ++ fitBytes 40 (if part == 2 then r.data.drop 40 else r.data)

/-- A record as the entries of a RECORD body (R94, R216). -/
def eqEntries (r : EqRecord) : List Byte :=
  if recEntries r = 2 then eqBytes r false 1 ++ eqBytes r false 2 else eqBytes r false 0

/-- Emit the entries of a record at the produce position of a ring; each has the phase of its own position (R91, R94). -/
def eqEmit (s : State) (f : Fn) (i : Nat) (r : EqRecord) : State :=
  let q := s.ring f i
  let c1 := (q.count + 1) % 2 ^ 32
  if recEntries r = 2 then
    (s.emit (.eq f i (q.count % q.size) (q.phase q.count) 1 r)).emit (.eq f i (c1 % q.size) (q.phase c1) 2 r)
  else s.emit (.eq f i (q.count % q.size) (q.phase q.count) 0 r)

/-- Write a record into an EQ: LATE by the elapsed frame-clock time of a Gale record (R37, R70, R94). The two copies of
LEASE_STATE keep the DELIVERY_TIME they were produced with, which is the same in both (R98) (DESIGN CHOICE, log entry 89). -/
def eqWrite (s : State) (f : Fn) (i : Nat) (w : Waiting) : State :=
  let late := w.gale && decide (w.bound < s.fc.now - w.capAt)
  let rec1 := { w.rec_ with late := w.rec_.late || late, delivery := if w.fn.isSome then w.rec_.delivery else treeNs s }
  let n := recEntries rec1
  let s1 := eqEmit s f i rec1
  let s2 := if late && !w.rec_.late then s1.glb 1 1 else s1
  moderate (produced s2 f i n) f i n

/-- The function and ring a waiting record goes to now. -/
def target (s : State) (w : Waiting) : Option (Fn × Nat) :=
  match w.fn with
  | some f => some (f, sysEq s f)
  | none => match activeFn s with
    | none => none
    | some f => some (f, if w.rec_.kind == 1 then
        (if w.ring != 0 && (s.ring f w.ring).st == .running then w.ring else epRing s f w.key w.rec_.tea) else sysEq s f)

/-- Do two records go to the same function: the two copies of LEASE_STATE do not (R98, R107). -/
def sameSide (s : State) (v w : Waiting) : Bool :=
  (v.fn.orElse fun _ => activeFn s) == (w.fn.orElse fun _ => activeFn s)

/-- Is a record held back by one that was produced before it: of the same endpoint, or for the same ring (R97, R98). -/
def behind (s : State) (w v : Waiting) : Bool :=
  (v.rec_.tea == w.rec_.tea && sameSide s v w) || (v.fn == w.fn && !isBranch s && target s v == target s w)

/-- Is a record held back by one that waits. -/
def blockedBy (s : State) (w : Waiting) : Bool := s.pool.any (behind s w)

/-- The virtual channel of a record of a branch: by class, system events on VC2 (R216). -/
def recVc (s : State) (w : Waiting) : Nat :=
  if w.gale then 0 else if w.rec_.kind == 1 && decide ((s.ep w.key).cls = .breeze) then 1 else 2

/-- Send a record of a branch to the root in one RECORD message: LATE as at the root (R37, R216). -/
def recordUp (s : State) (w : Waiting) : State :=
  let r := { w.rec_ with delivery := treeNs s }
  sendMsg s upLink (recVc s w) ⟨3, false, r.tea, 0, 0, 0, 0, eqEntries r⟩

/-- Try to write a record: into its ring, or on a branch into a RECORD message. -/
def tryWrite (s : State) (w : Waiting) : Option State :=
  if isBranch s then
    if (s.link upLink).st == 8 && goesAtOnce s upLink (recVc s w) then some (recordUp s w) else none
  else match target s w with
  | some (f, i) => if ringTakes s f i (recEntries w.rec_) then some (eqWrite s f i w) else none
  | none => none

/-- Records the wait pool may hold (R97, R229). -/
def poolLimit (s : State) : Nat :=
  if isBranch s && (s.link upLink).st != 8 && (s.link upLink).st != 9 then
    getField (upParamsOf s).orphan Fld.LNK_ORPHAN_LIMIT * 1024
  else 65536

/-- Granules of Stacks that hold the write data of endpoints in the reserve tier, one a write, from its acceptance until its
OUT completes (R247). -/
def writeGranules (s : State) : Nat :=
  s.eps.foldl (fun a kv => if kv.2.reserve then a + kv.2.hostWrites.length + kv.2.sending.toList.length else a) 0

/-- Free granules of the buffer pool. -/
def poolFree (s : State) : Nat := s.fld Reg.LIB_POOL Fld.LIB_POOL_FREE - writeGranules s

/-- Records of the pool that hold a granule. -/
def poolUsed (s : State) : Nat := (s.pool.filter fun w => !w.virtual).length

/-- Take a granule of the pool for a waiting record. -/
def poolAdd (s : State) (w : Waiting) : State :=
  let s1 := { s with pool := s.pool ++ [w] }
  if w.virtual then s1 else s1.setFld Reg.LIB_POOL Fld.LIB_POOL_FREE (s.fld Reg.LIB_POOL Fld.LIB_POOL_FREE - 1)

/-- Give back what a record of the pool held. -/
def poolRelease (s : State) (w : Waiting) : State :=
  if w.virtual then s else s.setFld Reg.LIB_POOL Fld.LIB_POOL_FREE (s.fld Reg.LIB_POOL Fld.LIB_POOL_FREE + 1)

/-- Replace the first SAMPLE of a TEA in a list, in its place, with COALESCED. -/
def replaceFirst (w : Waiting) : List Waiting → List Waiting
  | [] => []
  | v :: r => if v.rec_.kind == 1 && v.rec_.tea == w.rec_.tea then
      { w with virtual := v.virtual, rec_ := { w.rec_ with coalesced := true } } :: r else v :: replaceFirst w r

/-- Replace the newest waiting SAMPLE of a TEA, in its place, with COALESCED (R97). -/
def replaceNewest (l : List Waiting) (w : Waiting) : List Waiting := (replaceFirst w l.reverse).reverse

/-- A waiting sample stays with the ring its endpoint had when it was produced, while that ring runs (R98, R243). -/
def onItsRing (s : State) (w : Waiting) : Waiting :=
  match activeFn s with
  | some f => if w.rec_.kind == 1 && !isBranch s then { w with ring := epRing s f w.key w.rec_.tea } else w
  | none => w

/-- A record that cannot be written now waits, merges or is discarded (R97). -/
def waitRecord (s : State) (w0 : Waiting) : State :=
  let w := onItsRing s w0
  let same := s.pool.filter fun v => v.rec_.kind == 1 && v.rec_.tea == w.rec_.tea
  let full := decide (poolLimit s ≤ poolUsed s) || poolFree s == 0
  if w.rec_.kind == 1 then
    if 4 ≤ same.length || (full && !same.isEmpty) then
      { s with pool := replaceNewest s.pool w, poolMerged := s.poolMerged + 1 }
    else if full then poolAdd s { w with virtual := true, rec_ := { w.rec_ with coalesced := true } }
    else poolAdd s w
  else if full then
    let f := w.fn.getD ((activeFn s).getD .pf0)
    hifErr (folPost { s with poolMerged := s.poolMerged + 1 } 0x25 (9 + fnIx f) 1
      (leBytes 4 w.rec_.tea ++ leBytes 1 w.rec_.kind)) f 4
  else poolAdd s w

/-- EQ rings of a function that are without space (HIF_PENDING.EQ_FULL). -/
def eqFull (s : State) (f : Fn) : Nat :=
  (s.rings.filter fun kr => decide (ringKey f 512 ≤ kr.1) && decide (kr.1 < ringKey f 1536) &&
    kr.2.st == .running && kr.2.free == 0).length

/-- Write waiting records in order of production while their rings take them (R97, R98). -/
def drainPool (s : State) : State :=
  let step := fun (acc : State × List Waiting) (w : Waiting) =>
    if acc.2.any (behind acc.1 w) then (acc.1, acc.2 ++ [w])
    else match tryWrite acc.1 w with
      | some s1 => (poolRelease s1 w, acc.2)
      | none => (acc.1, acc.2 ++ [w])
  let r := s.pool.foldl step ({ s with pool := [] }, [])
  { r.1 with pool := r.2 }

/-- A produced record goes to its ring, or waits (R96 to R98). -/
def putRecord (s : State) (w : Waiting) : State :=
  if blockedBy s w then waitRecord s w
  else match tryWrite s w with
    | some s1 => s1
    | none => waitRecord s w

/-- The next SEQ of a TEA (R95). The root counts what it produces itself for an endpoint of a branch, so that the numbers
of both run on as one count (DEDUCED, log entry 89). -/
def nextSeq (s : State) (tea : Nat) : Nat × State :=
  let n := s.seqs.getD tea 0
  let own := if teaHub tea = s.hubNo then s.seqOwn else s.seqOwn.put tea 0 ((s.seqOwn.getD tea 0 + 1) % 65536)
  (n, { s with seqs := s.seqs.put tea 0 ((n + 1) % 65536), seqOwn := own })

/-- The SEQ at the root of a record that a branch produced: its own number after those that the root gave away; one for a
TEA of the root takes the root's next (R95) (DEDUCED, log entry 89). -/
def branchSeq (s : State) (tea seq : Nat) : Nat × State :=
  if teaHub tea = s.hubNo then nextSeq s tea
  else
    let n := (seq + s.seqOwn.getD tea 0) % 65536
    (n, { s with seqs := s.seqs.put tea 0 ((n + 1) % 65536) })

end Sys2Proof.Machine
end

