-- ==== Sys2Proof/Machine/Event.lean ====
section
/-! DEFINITION. Events: system event records (R95, R96), samples of endpoints (R37, R94), the lease records (R107) and
LINK_STATE (R235). -/
namespace Sys2Proof.Machine

/-- The TEA of this hub (event table: h.0.0.0). -/
def hubTea (s : State) : Nat := mkTea (hubOf s) 0 0 0

/-- The TEA of a port of this hub. -/
def portTea (s : State) (port : Nat) : Nat := mkTea (hubOf s) port 0 0

/-- The TEA of a link; the upstream link of a branch is named by the root port it attaches to (log entry 32). -/
def linkTea (s : State) (l : Nat) : Nat :=
  if l = upLink then mkTea 0 (48 + (s.link l).pport) 0 0 else portTea s (48 + l)

/-- A system event as a waiting record. -/
def sysRec (s : State) (kind tea seq capture : Nat) (data : List Byte) : Waiting :=
  { key := teaKey tea, fn := none, ring := 0, gale := false, capAt := s.fc.now, bound := 0, virtual := false,
    rec_ := { tea := tea, kind := kind, tq := tqNow s false, late := false, coalesced := false, seq := seq,
              capture := capture, delivery := 0, data := data } }

/-- Write a system event captured at a tree time (R95, R96). -/
def sysEventAt (s : State) (kind tea capture : Nat) (data : List Byte) : State :=
  let q := nextSeq s tea
  putRecord q.2 (sysRec s kind tea q.1 capture data)

/-- Write a system event of now. -/
def sysEvent (s : State) (kind tea : Nat) (data : List Byte) : State := sysEventAt s kind tea (treeNs s) data

/-- The bound of a Gale record, in ns: by the generation of its segment, and for VFP-3 by the role (R34, R35, R37)
(DESIGN CHOICE, log entry 83). -/
def galeBound (s : State) (port : Nat) (branch : Bool) : Nat :=
  if 48 ≤ port then 1200000
  else match s.fld (Reg.SEG_CTRL port) Fld.SEG_CTRL_GEN with
    | 3 => if branch then 175000 else 160000
    | 2 => 1100000
    | _ => 1200000

/-- Write the SAMPLE record of an endpoint: captured at a tree time and an instant of the frame clock (DESIGN CHOICE,
log entry 83). -/
def sampleEvent (s : State) (tea capture capAt tq : Nat) (data : List Byte) : State :=
  let q := nextSeq s tea
  let k := teaKey tea
  let gale := decide ((s.ep k).cls = .gale)
  putRecord q.2
    { key := k, fn := none, ring := 0, gale := gale, capAt := capAt, bound := galeBound s (teaPort tea) (isBranch s),
      virtual := false,
      rec_ := { tea := tea, kind := 1, tq := tq, late := false, coalesced := false, seq := q.1,
                capture := capture, delivery := 0, data := data } }

/-- LEASE_STATE to both system EQs: two copies of one record (R98, R107). -/
def leaseEvent (s : State) (data : List Byte) : State :=
  let q := nextSeq s 0
  let w0 := sysRec s 0x11 0 q.1 (treeNs s) data
  let w := { w0 with rec_ := { w0.rec_ with delivery := treeNs s } }
  putRecord (putRecord q.2 { w with fn := some .pf0 }) { w with fn := some .pf1 }

/-- LINK_STATE data (R235). -/
def linkData (l : Link) (cause prevHub : Nat) (diff : Int) (delivered coalesced : Nat) : List Byte :=
  leBytes 1 l.st ++ leBytes 1 l.prev ++ leBytes 1 cause ++ leBytes 1 l.active ++ leBytes 1 l.rate ++ leBytes 1 l.cls ++
    leBytes 1 l.phub ++ leBytes 1 prevHub ++ leBytes 4 (ofSigned 32 diff) ++ leBytes 4 delivered ++
    leBytes 4 coalesced ++ leBytes 4 0 ++ leBytes 8 l.identity

/-- The cause of the last LINK_STATE shows in LNK_STATUS.CAUSE. -/
def linkCause (s : State) (l cause : Nat) : State :=
  if l = upLink then s else s.setFld (Reg.LNK_STATUS l) Fld.LNK_STATUS_CAUSE cause

/-- Write a LINK_STATE event. The root writes the events of a branch's upstream link; the branch itself writes only its
REJOIN, its refusals and NO_PARTNER (R201) (DEDUCED, log entry 32). -/
def linkEvent (s : State) (l cause : Nat) : State :=
  let k := s.link l
  if l = upLink && !(cause == 7 || cause == 8 || cause == 9 || cause == 0x0F) then s
  else sysEvent (linkCause s l cause) 0x0C (linkTea s l) (linkData k cause k.phub 0 0 0)

/-- A link enters a state (link states table). -/
def linkTo (s : State) (l st : Nat) : State :=
  if (s.link l).st = st then s
  else lnkIrq (s.modLink l fun k => { k with prev := k.st, st := st, stateFrame := s.fc.frameNo }) l 0

/-- A link refuses its partner: REFUSED with credits at 0 and one LINK_STATE event (R218) (DEDUCED, log entry 56). -/
def refuseLink (s : State) (l cause : Nat) : State :=
  linkEvent (lnkIrq (linkTo (s.modLink l fun k => { k with credits := [0, 0, 0, 0], held := [], replay := [] }) l 10) l 2) l cause

/-- IMAGE_EVENT, THERMAL and the other hub events. -/
def hubEvent (s : State) (kind : Nat) (data : List Byte) : State := sysEvent s kind (hubTea s) data

end Sys2Proof.Machine
end

