-- ==== Sys2Proof/Machine/Bookmark.lean ====
section
/-! DEFINITION. Bookmark queues (R187, R188): the frames of a segment's queue, in fetch order, and what stalls. -/
namespace Sys2Proof.Machine

/-- Bytes the frames with a payload of a control transfer still take in the bookmark queue: the SETUP until it is
answered, the data to the node until its stage is over (R187, R188). -/
def ctlBytes (c : Ctl) : Nat :=
  (if c.stage = 0 then 9 + c.setup.length else 0) + if c.stage ≤ 1 && !c.out.isEmpty then 9 + c.out.length else 0

/-- A distribution block as the payload of its broadcast OUT (R192). -/
def blockPayload (b : DistBlock) : List Byte := beBytes 4 b.block ++ b.data

/-- Frames of the bookmark queue in fetch order: the descriptor's id and the bytes of its frame (R187) (DEDUCED, log
entry 24; DEDUCED, log entry 26). -/
def queueJobs (x : Seg) : List (Nat × Nat) :=
  let a := x.ctls.filterMap fun c => match c.owner with
    | .host d => some (d, ctlBytes c)
    | _ => none
  let b := x.bulks.filterMap fun b => if b.isIn then none else some (b.desc, 9 + b.data.length)
  let c := match x.dist with
    | some d => d.blocks.map fun k => (k.desc, 9 + (blockPayload k).length)
    | none => []
  sortBy (fun u v => decide (u.1 < v.1)) (a ++ b ++ c)

/-- The descriptors whose frames are in the queue: in fetch order while 32 KiB has room; the rest stall (R187)
(DEDUCED, log entry 24). -/
def queued (l : List (Nat × Nat)) : List Nat × Nat :=
  (l.foldl (fun (acc : List Nat × Nat × Bool) j =>
    if acc.2.2 && decide (acc.2.1 + j.2 ≤ 32768) then (acc.1 ++ [j.1], acc.2.1 + j.2, true) else (acc.1, acc.2.1, false))
    ([], 0, true)) |> fun a => (a.1, a.2.1)

/-- SEG_BQ_COUNT (R187) (DEDUCED, log entry 24). -/
def bqCount (x : Seg) : Nat := (queued (queueJobs x)).2

/-- Does a descriptor of an SQ wait for room in the bookmark queue of a segment: what is behind it in the SQ waits too (R83,
R187). -/
def sqStalled (s : State) (f : Fn) (i : Nat) : Bool :=
  s.segs.any fun kv =>
    let js := queueJobs kv.2
    let q := (queued js).1
    js.any fun j => !memNat q j.1 && s.flight.any fun d => d.id == j.1 && d.fn == f && d.sq == i

end Sys2Proof.Machine
end

