-- ==== Sys2Proof/Machine/Complete.lean ====
section
/-! DEFINITION. Rings and completions: ring contexts (R72, R73), fetching (R80, R81, R83), the checks before an opcode
(R18, R84, R104, R105), completion entries (R70, R91), disables (R100) and late faults (R92). -/
namespace Sys2Proof.Machine

/-! ## Ring contexts -/

/-- The code of a ring state (ring context byte 32). -/
def RingSt.code : RingSt → Nat
  | .off => 0
  | .running => 1
  | .draining => 2
  | .stopped => 3
  | .waiting => 4
  | .fault => 5

/-- Bytes 32 to 63 of a ring context (R72, R73). -/
def ctxBytes (r : Ring) (i : Nat) : List Byte :=
  let sq := decide (i < 256)
  leBytes 1 r.st.code ++ leBytes 1 r.cause ++ leBytes 2 0 ++ leBytes 4 r.count ++ leBytes 8 r.since ++
    leBytes 4 r.size ++ leBytes 2 (if sq then r.cq else 0) ++ leBytes 2 (if sq then 0 else r.vector) ++
    leBytes 1 (if sq then r.weight else 0) ++ leBytes 1 (if sq then b2n r.gale else 0) ++
    leBytes 1 (if sq then 0 else r.profile) ++ leBytes 5 0

/-- Write the hub's half of a ring's context; while the function may not write host memory it waits (R71, R72). -/
def ctxWrite (s : State) (f : Fn) (i : Nat) : State :=
  let b := ctxBytes (s.ring f i) i
  if (s.fnS f).bme then s.emit (.ctx f i b) else s.modFn f fun x => { x with ctxDue := x.ctxDue.insert i b }

/-- A ring enters a state, and its context is written. -/
def ringTo (s : State) (f : Fn) (i : Nat) (st : RingSt) : State :=
  if decide ((s.ring f i).st = st) then s
  else ctxWrite (s.modRing f i fun r => { r with st := st, since := treeNs s }) f i

/-- The ring indices of a function between two bounds whose ring meets a test, rising. -/
def ringsIn (s : State) (f : Fn) (lo hi : Nat) (p : Nat → Ring → Bool) : List Nat :=
  (s.rings.filter fun kr => decide (ringKey f lo ≤ kr.1) && decide (kr.1 < ringKey f hi) &&
    p (kr.1 - ringKey f 0) kr.2).map fun kr => kr.1 - ringKey f 0

/-- Finish disables that have nothing left to wait for (R100). -/
def settleRings (s : State) (f : Fn) : State :=
  let s1 := forEach (ringsIn s f 0 256 fun _ r => r.st == .draining) s fun s i =>
    if !(s.flight.any fun d => d.fn == f && d.sq == i && !d.posted) && !(s.cqWait.any fun d => d.1.fn == f && d.1.sq == i) then
      ringTo s f i .stopped else s
  forEach (ringsIn s1 f 256 512 fun _ r => r.st == .draining && r.reserved == 0) s1 fun s i =>
    if (ringsIn s f 0 256 fun _ r => r.cq == i && (r.st == .running || r.st == .draining)).isEmpty then
      ringTo s f i .stopped else s

/-! ## Completion -/

/-- A status of the completion table. -/
abbrev Status := Nat
def Status.done : Status := 0x00
def Status.accepted : Status := 0x01
def Status.withdrawn : Status := 0x02
def Status.nodeAbsent : Status := 0x03
def Status.stalled : Status := 0x04
def Status.noResponse : Status := 0x05
def Status.moved : Status := 0x06
def Status.roleChanged : Status := 0x07
def Status.linkNotReady : Status := 0x08
def Status.inert : Status := 0x09
def Status.denied : Status := 0x0A
def Status.retried : Status := 0x0B
def Status.execConflict : Status := 0x0C
def Status.cryptoReject : Status := 0x0D

/-- The 32 bytes of a completion entry (CQ entry table). -/
def cqBytes (e : CqEntry) (phase : Bool) (sq : Nat) : List Byte :=
  leBytes 4 e.tag ++ leBytes 1 e.status ++ leBytes 1 (b2n phase + 2 * b2n e.late) ++ leBytes 1 sq ++ leBytes 1 0 ++
    leBytes 4 e.effLen ++ leBytes 4 e.sqHead ++ leBytes 8 e.fetchTime ++ leBytes 8 e.doneTime

/-- The 64 bytes of a late-fault record (FQ record table). -/
def fqBytes (r : FqRecord) (phase : Bool) : List Byte :=
  leBytes 4 r.tag ++ leBytes 1 r.cause ++ leBytes 1 (b2n phase + 2 * b2n r.originPf1 + 4 * b2n r.copy) ++
    leBytes 1 r.opcode ++ leBytes 1 r.sq ++ leBytes 4 r.tea ++ leBytes 1 r.finalStatus ++ leBytes 3 0 ++
    leBytes 8 r.submitTime ++ leBytes 8 r.failTime ++ leBytes 8 r.count ++ leBytes 24 0

/-- Write a completion entry into the slot its fetch reserved (R70, R80, R91, R99). -/
def cqWrite (s : State) (d : Desc) (e : CqEntry) : State :=
  let i := d.cq
  let q := s.ring d.fn i
  let e1 := { e with sqHead := (s.ring d.fn d.sq).count }
  let s1 := s.emit (.cq d.fn i (q.count % q.size) (q.phase q.count) d.sq e1)
  let s2 := s1.modRing d.fn i fun r => { r with count := (r.count + 1) % 2 ^ 32, reserved := r.reserved - 1 }
  if d.quiet then s2 else moderate s2 d.fn i 1

/-- Has a CQ a free slot that no completion reserves (R80). -/
def cqRoom (s : State) (f : Fn) (cq : Nat) : Bool :=
  let c := s.ring f cq
  decide (c.used + c.reserved < c.size)

/-- Write one waiting completion, its data first (R70); one without a reserved slot waits for a free one. -/
def cqTake (s : State) (x : Desc × CqEntry) : State :=
  if x.1.noSlot && !cqRoom s x.1.fn x.1.cq then { s with cqWait := s.cqWait ++ [x] }
  else
    let s1 := if x.1.noSlot then s.modRing x.1.fn x.1.cq fun r => { r with reserved := r.reserved + 1 } else s
    cqWrite (if x.1.outData.isEmpty then s1 else s1.emit (.hostData x.1.fn x.1.addr x.1.outData)) x.1 x.2

/-- Write the completions that waited for Bus Master Enable or for a slot (R71, R80, R106). -/
def cqDrain (s : State) (f : Fn) : State :=
  if (s.fnS f).bme then
    let mine := s.cqWait.filter fun x => x.1.fn == f
    let s1 := { s with cqWait := s.cqWait.filter fun x => !(x.1.fn == f) }
    settleRings (mine.foldl cqTake s1) f
  else s

/-- The function that holds a valid lease; with one host, that host. -/
def activeHost (s : State) : Option Fn :=
  if isDual s then (if s.lease.valid then s.lease.holder else none) else some .pf0

/-- A late-fault record: to the submitting function, and a copy to the active one when that is another (R92); on a
branch it is a FAULT message to the root (DEDUCED, log entry 34). -/
def lateFault (s : State) (d : Desc) (cause : Nat) : State :=
  let r : FqRecord := ⟨d.tag, cause, d.fn == .pf1, false, d.opcode, d.sq, d.tea, 0, d.fetchTime, treeNs s, 0⟩
  if isBranch s then
    let m : Msg := ⟨4, d.fn == .pf1, d.tea, 0, 0, 0, 0, fqBytes r false⟩
    if (s.link upLink).st == 8 || (s.link upLink).st == 9 then sendMsg s upLink 2 m
    else { s with upHeld := s.upHeld ++ [m] }
  else
    let s1 := fqPut s d.fn r
    match activeHost s with
    | some f => if decide (f = d.fn) then s1 else fqPut s1 f { r with copy := true }
    | none => s1

/-- The virtual channel of the messages for an endpoint: that of its class (R210, R216). -/
def classVc : Cls → Nat
  | .gale => 0
  | .breeze => 1
  | .draught => 2

/-- Data that waits with a descriptor for its host buffer. -/
def heldData (s : State) (d : Desc) : List Byte := match s.flight.find? fun x => x.id == d.id with
  | some x => x.outData
  | none => d.outData

/-- The entry of a descriptor goes to its CQ; a descriptor that was in flight at a takeover also writes HANDOVER to the
new active function (R91, R106). -/
def cqOut (s : State) (d : Desc) (e : CqEntry) : State :=
  let s1 := { s with flight := s.flight.filter fun x => !(x.id == d.id && x.posted == d.posted) }
  let x := { d with outData := heldData s d }
  let s2 := if (s1.fnS d.fn).bme then cqTake s1 (x, e) else { s1 with cqWait := s1.cqWait ++ [(x, e)] }
  let s3 := if d.handover then
      fqPut s2 (otherFn d.fn) ⟨d.tag, 0x81, d.fn == .pf1, true, d.opcode, d.sq, d.tea, e.status, d.fetchTime, treeNs s, 0⟩
    else s2
  settleRings s3 d.fn

/-- Endpoints a mask of ARGS names, in the node of a TEA: those of the mask, or the TEA's own (R88). -/
def maskTeas (tea off : Nat) (args : List Byte) : List Nat :=
  let m := leAt args off 4
  if m = 0 then [tea] else (bitList 32 m).map fun e => tea / 32 * 32 + e

/-- The endpoints a descriptor names (R83): those of EP_MASK of a CONFIG_EP or a PLACE_HINT, else its TEA, for the opcodes
that act on an endpoint. -/
def namedEps (d : Desc) : List Nat :=
  if d.opcode = 4 then maskTeas d.tea 10 d.args
  else if d.opcode = 0x11 then maskTeas d.tea 8 d.args
  else if 1 ≤ d.opcode ∧ d.opcode ≤ 7 then [d.tea] else []

/-- Does an earlier descriptor of the same SQ that names the same endpoint still run (R83). -/
def earlierSame (s : State) (d : Desc) : Bool :=
  s.flight.any fun x => decide (x.id < d.id) && x.fn == d.fn && x.sq == d.sq && !x.posted &&
    (namedEps d).any fun t => memNat (namedEps x) t

/-- Entries that waited for an earlier descriptor of the same endpoint go out once none runs any more (R83). -/
def flushHeld (s : State) : State :=
  (s.flight.filter fun x => x.result.isSome).foldl (fun s x =>
    match x.result with
    | some e => if earlierSame s x then s else cqOut s x e
    | none => s) s

/-- Complete a descriptor in flight with an entry (R83, R91): it goes to its CQ after those of earlier descriptors of the
same endpoint; on a branch it goes to the root in a CPL message, with the data for the host's buffer after the entry (R216)
(DEDUCED, log entry 90). -/
def completeEntry (s : State) (d : Desc) (e : CqEntry) : State :=
  if isBranch s then
    let s3 := { s with flight := s.flight.filter fun x => x.id != d.id }
    let m : Msg := ⟨2, d.fn == .pf1, d.tea, d.sq, 0, 0, 0, cqBytes e false d.sq ++ heldData s d⟩
    if (s.link upLink).st == 8 || (s.link upLink).st == 9 then
      sendMsg s3 upLink (classVc (epCls s d.tea)) m
    else { s3 with upHeld := s3.upHeld ++ [m] }
  else
    let s3 := if e.status = Status.moved then s.glb 11 1 else s
    if earlierSame s3 d then
      { s3 with flight := s3.flight.map fun x => if x.id == d.id && x.posted == d.posted then { x with result := some e } else x }
    else flushHeld (cqOut s3 d e)

/-- Complete a descriptor with a status, now. -/
def completeLate (s : State) (d : Desc) (st : Status) (effLen : Nat) (late : Bool) : State :=
  completeEntry (if st = Status.cryptoReject then s.glb 22 1 else s) d ⟨d.tag, st, late, effLen, 0, d.fetchTime, treeNs s⟩

/-- Complete a descriptor that is not a late one. -/
def complete (s : State) (d : Desc) (st : Status) (effLen : Nat := 0) : State := completeLate s d st effLen false

/-- The descriptor with an id that still runs. -/
def inFlight (s : State) (id : Nat) : Option Desc := s.flight.find? fun d => d.id == id && d.result.isNone && !d.posted

/-- Complete the descriptor with an id, when it is still in flight. -/
def completeId (s : State) (id : Nat) (st : Status) (effLen : Nat := 0) : State :=
  match inFlight s id with
  | some d => complete s d st effLen
  | none => s

/-- Change a descriptor in flight. -/
def modDesc (s : State) (id : Nat) (f : Desc → Desc) : State :=
  { s with flight := s.flight.map fun d => if d.id == id then f d else d }

/-- Data for a descriptor's host buffer, written before its completion entry, and waiting with it while the function
may not write (R70, R71); on a branch it goes with the completion to the root (DEDUCED, log entry 86; DEDUCED, log entry
90). -/
def hostWrite (s : State) (d : Desc) (bytes : List Byte) : State :=
  if bytes.isEmpty || d.addr == 0 then s
  else if !isBranch s && (s.fnS d.fn).bme then s.emit (.hostData d.fn d.addr bytes)
  else modDesc s d.id fun x => { x with outData := bytes }

/-- Count the clamps of a descriptor once (R53). -/
def clampDesc (s : State) (d : Desc) (b : Bool) : State :=
  if b && !d.clampDone then modDesc s.clamped d.id fun x => { x with clampDone := true } else s

/-- Note the clamps of a descriptor within its own value. -/
def Desc.noted (d : Desc) (b : Bool) : Desc := { d with clampDone := d.clampDone || b }

/-! ## Roles of the functions -/

/-- Does a function hold a valid lease (DEDUCED, log entry 33). -/
def holdsLease (s : State) (f : Fn) : Bool := s.lease.valid && s.lease.holder == some f

/-- Does the other function hold a valid lease: this one is standby (R104) (DEDUCED, log entry 33). -/
def isStandby (s : State) (f : Fn) : Bool := isDual s && holdsLease s (otherFn f)

/-- May a function's descriptors execute in full: always with one host; in the dual-host role while it holds a valid
lease (R103 to R105, log entry 33). -/
def mayExecute (s : State) (f : Fn) : Bool := isBranch s || !isDual s || holdsLease s f

/-! ## Fetching -/

/-- The descriptor with FENCE that an SQ has fetched and that waits for the earlier ones (R83) (DEDUCED, log entry
63). -/
def fencedOf (s : State) (f : Fn) (i : Nat) : Option Desc := s.flight.find? fun x => x.fn == f && x.sq == i && x.fenced

/-- Is an SQ fetched now: it runs, its CQ takes completions, entries wait and a completion slot is free (R71, R80). Behind
a FENCE that waits (log entry 63), and behind a frame that finds no room in its bookmark queue (R187), nothing
more is fetched; nor by a function whose block is held (R59). -/
def sqReady (s : State) (f : Fn) (i : Nat) : Bool :=
  let q := s.ring f i
  let c := s.ring f q.cq
  (s.fnS f).bme && q.st == .running && (c.st == .running || c.st == .draining) && q.count != q.ext &&
    decide (c.used + c.reserved < c.size) && (fencedOf s f i).isNone &&
    !sqStalled s f i && !isHeld s (9 + fnIx f)

/-- Entries of an SQ that wait (DEDUCED, log entry 63). -/
def sqWaiting (s : State) (f : Fn) (i : Nat) : Nat :=
  let q := s.ring f i
  (q.ext + 2 ^ 32 - q.count) % 2 ^ 32

/-- The next fetch round: Gale SQs in ring-index order with up to 64 descriptors each, then the others with one
descriptor per unit of weight (R81). -/
def fetchRound (s : State) (f : Fn) : List Nat :=
  let ready := ringsIn s f 0 256 fun i _ => sqReady s f i
  let gale := ready.filter fun i => (s.ring f i).gale
  let rest := ready.filter fun i => !(s.ring f i).gale
  gale.flatMap (fun i => List.replicate (Nat.min 64 (sqWaiting s f i)) i) ++
    rest.flatMap fun i => List.replicate (Nat.min (s.ring f i).weight (sqWaiting s f i)) i

/-- The fetch round in force: what is left of it that can be fetched, or the next one. -/
def roundNow (s : State) (f : Fn) : List Nat :=
  match (s.fnS f).round.filter fun i => sqReady s f i with
  | [] => fetchRound s f
  | r => r

/-- Is a function in kick mode (R78, R79). -/
def kickMode (s : State) (f : Fn) : Bool :=
  !(s.fnS f).atomicEn || s.flag (Reg.HIF_CTRL (fnIx f)) Fld.HIF_CTRL_DB_MODE

/-- How an opcode uses LENGTH (R84): whether at all, its maximum, whether inline data is allowed, whether the buffer of
the endpoint limits it, and whether its own arguments say how much data moves (R108). -/
structure LenRule where
  used : Bool
  max : Nat
  inline : Bool
  buffer : Bool
  moves : Option Nat := none

/-- LENGTH after the clamps of R84. -/
def effLength (s : State) (d : SqEntry) (r : LenRule) : Nat :=
  let a := Nat.min d.length.toNat r.max
  let b := if r.buffer then Nat.min a ((epBuffer s d.tea.toNat).getD a) else a
  if !r.used then 0 else if d.dataAddr = 0 then (if r.inline then Nat.min b 40 else 0) else b

/-- A descriptor as it is fetched: its id, its times, its length after clamping. -/
def mkDesc (s : State) (opcode : Nat) (d : SqEntry) (r : LenRule) (issue : Option Nat) : Desc :=
  let n := effLength s d r
  { id := s.nextId, fn := d.fn, sq := d.sq.toNat, tag := d.tag.toNat, opcode := opcode, tea := d.tea.toNat, len := n,
    addr := d.dataAddr.toNat, args := fitBytes 40 d.args,
    data := if d.dataAddr = 0 then fitBytes n d.args else fitBytes (r.moves.getD n) d.data,
    fenced := false, quiet := d.quiet, dirIn := d.dirIn, fetchTime := treeNs s, fetchAt := s.fc.now, issueAt := issue,
    retried := false, late := false, link := none,
    cq := (s.ring d.fn d.sq.toNat).cq, vc := none, acked := false, handover := false, clampDone := r.used && n != d.length.toNat, posted := false, outData := [], noSlot := false, result := none }

/-- Take a descriptor into flight: the SQ's fetch count advances, a completion slot is reserved, its clamps count
(R53, R80, R84). -/
def takeDesc (s : State) (x : Desc) : State :=
  let i := (s.ring x.fn x.sq).cq
  let s1 := s.modRing x.fn x.sq fun r => { r with count := (r.count + 1) % 2 ^ 32 }
  let s2 := s1.modRing x.fn i fun r => { r with reserved := r.reserved + 1 }
  let s3 := s2.modFn x.fn fun n => { n with
    round := (roundNow s x.fn).drop 1,
    galeTaken := n.galeTaken.put x.sq 0 (n.galeTaken.getD x.sq 0 + 1) }
  { s3 with flight := s3.flight ++ [x], nextId := s3.nextId + 1 }.clampIf x.clampDone

/-- The instant from which a Gale command is measured: a descriptor among the first 64 of a Gale SQ at the sweep that
found it, with a sweep interval of at most 1 µs (R82). -/
def issueOf (s : State) (f : Fn) (sq : Nat) : Option Nat :=
  let n := s.fld (Reg.HIF_SWEEP (fnIx f)) Fld.HIF_SWEEP_INTERVAL
  if (s.ring f sq).gale && !kickMode s f && decide (n ≤ 4) && decide ((s.fnS f).galeTaken.getD sq 0 < 64) then
    ((s.fnS f).sweepAt.find sq).map fun t => t - n * 250
  else none

/-- An armed hub stops fetching descriptors, and accepting DESC messages, 100 ms before its T (activation table). -/
def isActivating (s : State) : Bool :=
  match s.nvm.armedT with
  | some t => decide (t ≤ treeNs s + 100000000)
  | none => false

/-- Is the hub in Lull, on its way in, or on its way out: it fetches nothing (R316, R319). -/
def inLull (s : State) : Bool := chipState s == 2 || s.pw.going == some 2 || s.pw.wakeAt.isSome

/-- May a function's entries be taken at all: the hub is up, awake and not about to activate (R80, R316, R367, R415)
(DEDUCED, log entry 35). -/
def takesWork (s : State) : Bool := !isBranch s && isReady s && !inLull s && !isActivating s

/-- Can this submission entry be fetched now: its SQ is the next of the fetch round (R81) (DEDUCED, log entry 35). -/
def canFetch (s : State) (d : SqEntry) : Bool := takesWork s && (roundNow s d.fn).head? == some d.sq.toNat

/-- Has every earlier descriptor of an SQ completed: none in flight but one with a given id (R83). A posted write has
completed when it is stored (DEDUCED, log entry 63). -/
def fenceOpen (s : State) (f : Fn) (i id : Nat) : Bool :=
  s.flight.all fun x => x.fn != f || x.sq != i || x.id == id || x.posted

/-! ## Addresses (R18) -/

/-- Does a link stand in UP or RATE_CHANGE. -/
def linkRuns (s : State) (l : Nat) : Bool := (s.link l).st == 8 || (s.link l).st == 9

/-- The link that a link port belongs to: of a bonded pair, that of the even port (R195). -/
def portLink (s : State) (port : Nat) : Nat := if bondedAway s (port - 48) then port - 49 else port - 48

/-- Is a branch attached to the link of its hub number and not orphaned. -/
def branchThere (s : State) (hub : Nat) : Bool :=
  decide (1 ≤ hub) && !isBranch s && linkRuns s (hub - 1) && (s.link (hub - 1)).cls == 2

/-- Does the port number name a root link that carries a branch: both ports of a bonded pair do (R12, R195). -/
def carriesBranch (s : State) (port : Nat) : Bool :=
  decide (48 ≤ port) && !isBranch s && linkRuns s (portLink s port) && (s.link (portLink s port)).cls == 2

/-- Is a node in the Catalogue and attached: it has an address and its attach has come to service (R18). -/
def nodeThere (s : State) (port node : Nat) : Bool :=
  match (s.node (nodeKey port node)).phase with
  | .ready | .served => true
  | .absent => false
  | _ => (s.node (nodeKey port node)).endpointsAgain

/-- The status R18 gives an address that cannot be served; the rows are tested in table order, for every opcode (R85)
(DEDUCED, log entry 64). -/
def addrStatus (s : State) (opcode tea : Nat) : Option Status :=
  let hub := teaHub tea
  let port := teaPort tea
  let node := teaNode tea
  if 17 ≤ hub then some Status.denied
  else if node = 255 ∧ 48 ≤ port then some Status.denied
  else if node = 255 ∧ opcode ≠ 1 ∧ opcode ≠ 0x1B then some Status.denied
  else if hub ≠ hubOf s then (if branchThere s hub then none else some Status.nodeAbsent)
  else if carriesBranch s port then some Status.nodeAbsent
  else if 48 ≤ port ∧ 2 ≤ node then some Status.nodeAbsent
  else if 1 ≤ node ∧ node ≤ 254 ∧ !nodeThere s port node then some Status.nodeAbsent
  else none

/-! ## Forwarding to a branch -/

/-- The virtual channel of a descriptor for a branch: control transfers on VC2, else that of the endpoint's class as the
root knows it. While messages for the endpoint that went on another channel are outstanding, that one stays in use (R83,
R210). -/
def descVc (s : State) (x : Desc) : Nat :=
  if x.opcode = 5 then 2
  else match s.flight.find? fun y => y.id != x.id && y.tea == x.tea && y.opcode != 5 && y.vc.isSome && y.result.isNone with
    | some y => y.vc.getD 2
    | none => classVc (epCls s x.tea)

/-- The 64 bytes of a submission entry (SQ entry table). -/
def sqBytes (opcode : Nat) (d : SqEntry) : List Byte :=
  leBytes 1 opcode ++ leBytes 1 (b2n d.fence + 2 * b2n d.quiet + 4 * b2n d.dirIn) ++ leBytes 2 0 ++
    leBytes 4 d.tag.toNat ++ leBytes 4 d.tea.toNat ++ leBytes 4 d.length.toNat ++ leBytes 8 d.dataAddr.toNat ++
    fitBytes 40 d.args

/-- The grid of R26: the largest grid value not above a time in µs, at least 125 µs and at most 65,535 ms. -/
def askedUs (us : Nat) : Nat :=
  if us = 0 then 0 else if us < 250 then 125 else if us < 500 then 250 else if us < 1000 then 500
  else Nat.min 65535000 (us / 1000 * 1000)

/-- The class a CONFIG_EP asks for: another code keeps the class, and INTERVAL_US decides between Draught and the
others (R25) (DEDUCED, log entry 72). -/
def askedCls (prev : Cls) (args : List Byte) : Cls :=
  let c := match byteAt args 4 with
    | 0 => Cls.draught
    | 1 => Cls.breeze
    | 2 => Cls.gale
    | _ => prev
  if leAt args 0 4 = 0 then .draught else if decide (c = .draught) then .breeze else c

/-- Does an opcode take data from the host's buffer: a write, a register write (R108), the OUT of a transfer, rules,
images and messages (opcode table). -/
def takesData (d : Desc) : Bool :=
  if d.opcode = 5 then (if d.tea % 2 ^ 19 = 0 then byteAt d.args 0 == 0xE2 else !bitOf (byteAt d.args 0) 7)
  else if d.opcode = 6 ∨ d.opcode = 7 then !d.dirIn
  else memNat [1, 2, 0x12, 0x1B, 0x28, 0x29, 0x38] d.opcode

/-- The body of a DESC message: the submission entry with its LENGTH as clamped at fetch, and after it the data of its
buffer, which the branch cannot fetch (R84, R86, R108, R216) (DEDUCED, log entry 90). -/
def descBody (x : Desc) (d : SqEntry) (r : LenRule) : List Byte :=
  sqBytes x.opcode (if r.used then { d with length := BitVec.ofNat 32 x.len } else d) ++
    (if x.addr != 0 && takesData x then x.data else [])

/-- A posted write that is accepted replaces one to the same endpoint whose message is still held at the root: that one
never leaves, and yields no FQ record (R86, R223). -/
def replaceHeld (s : State) (l tea : Nat) : State :=
  let old := ((s.flight.filter fun x => x.posted && x.opcode == 1 && x.link == some l && x.tea == tea).map (·.id)).filter
    fun id => (s.link l).held.any fun h => h.desc == some id
  let s1 := s.modLink l fun k => { k with held := k.held.filter fun h => match h.desc with
    | some id => !memNat old id
    | none => true }
  { s1 with flight := s1.flight.filter fun x => !(x.posted && memNat old x.id) }

/-- Send a fetched descriptor to the branch its TEA names, in a DESC message (R216). A posted write whose message finds
no credit is stored at the root and completes ACCEPTED there (R223, log entry 34). -/
def forward (s : State) (x : Desc) (vc : Nat) (body : List Byte) : State :=
  let l := teaHub x.tea - 1
  let held := !goesAtOnce s l vc && x.opcode == 1
  let s0 := if held then replaceHeld s l x.tea else s
  let s1 := modDesc s0 x.id fun d => { d with link := some l, vc := some vc }
  let s2 := sendMsg s1 l vc ⟨1, x.fn == .pf1, x.tea, x.sq, 0, 0, 0, body⟩ (some x.id)
  if held then
    let s3 := complete s2 x Status.accepted x.len
    { s3 with flight := s3.flight ++ [{ x with link := some l, vc := some vc, posted := true }] }
  else s2

/-! ## The common path of every descriptor -/

/-- What an opcode allows and needs before its own meaning: standby, length, whether the root serves it for every hub,
and whether its TEA must be h.0.0.0 (R166) (DEDUCED, log entry 73). -/
structure OpRule where
  opcode : Nat
  standby : Bool
  len : LenRule
  here : Bool := false
  mgmt : Bool := false

/-- May a descriptor stand on its SQ: a Gale SQ accepts NOP and writes to admitted Gale endpoints (R81). -/
def galeSqOk (s : State) (x : Desc) : Bool :=
  !(s.ring x.fn x.sq).gale || x.opcode == 0 ||
    ((x.opcode == 1 || x.opcode == 2) && decide (epCls s x.tea = .gale))

/-- The record of a vacated hub number (R253). -/
def vacatedOf (s : State) (hub : Nat) : Option Vacated := s.vacated.find? fun v => v.hub == hub

/-- A TEA with another hub number. -/
def teaTo (tea hub : Nat) : Nat := hub * 2 ^ 19 + tea % 2 ^ 19

/-- EFF_LEN of a MOVED completion: the new TEA, or for GUST_LOAD and GUST_ENABLE the new rule address (R254). -/
def movedLen (x : Desc) (successor : Nat) : Nat :=
  if x.opcode = 0x12 ∨ x.opcode = 0x13 then 2 * 2 ^ 24 + successor * 65536 + leAt x.args 0 2
  else 2 ^ 24 + teaTo x.tea successor

/-- Does a TEA have the form h.0.0.0 (DEDUCED, log entry 73). -/
def hubForm (tea : Nat) : Bool := tea % 2 ^ 19 == 0

/-- Serve a descriptor whose address stands: DENIED on a Gale SQ that does not take it, an unknown opcode among them
(DESIGN CHOICE: R81 denies it there, R85 calls it INERT; log entry 64), to its branch, DENIED at
another TEA than h.0.0.0 of an opcode of the hub itself, or its own meaning (R81, R166) (DEDUCED, log entry 64). -/
def served (s : State) (x : Desc) (d : SqEntry) (r : OpRule) (op : Desc → State → State) : State :=
  if !galeSqOk s x then complete s x Status.denied
  else if teaHub x.tea ≠ hubOf s ∧ !r.here then forward s x (descVc s x) (descBody x d r.len)
  else if r.mgmt && !hubForm x.tea then complete s x Status.denied
  else op x s

/-- Serve a descriptor at its address, or give it the status of R18 (DEDUCED, log entry 64). -/
def addressed (s : State) (x : Desc) (d : SqEntry) (r : OpRule) (op : Desc → State → State) : State :=
  match addrStatus s r.opcode x.tea with
  | some st => complete s x st
  | none => served s x d r op

/-- The checks before an opcode's own meaning, in order: role and standby, which a descriptor fetched before a takeover
has passed (R106), the address before anything of the opcode;
a descriptor for a vacated hub number goes to its successor within the window, and completes MOVED after it (R18, R85,
R104, R105, R254) (DEDUCED, log entry 64). -/
def checked (s : State) (x : Desc) (d : SqEntry) (r : OpRule) (op : Desc → State → State) : State :=
  if !(r.standby || x.handover || mayExecute s x.fn) then complete s x Status.denied
  else if addrStatus s r.opcode x.tea = some Status.denied then complete s x Status.denied
  else match vacatedOf s (teaHub x.tea) with
    | some v =>
      if v.window then
        let tea := teaTo x.tea v.successor
        addressed (libStat (modDesc s x.id fun y => { y with tea := tea }) 4) { x with tea := tea }
          { d with tea := BitVec.ofNat 24 tea } r op
      else complete s x Status.moved (movedLen x v.successor)
    | none => addressed s x d r op

/-- A descriptor fetched from its SQ and executed; without effect when it cannot be fetched now (log entry 35). One with
FENCE that earlier descriptors of its SQ hold is fetched and waits; given again when they have completed, it starts (R83,
log entry 63). -/
def fetched (s : State) (d : SqEntry) (r : OpRule) (op : Desc → State → State) : State :=
  match fencedOf s d.fn d.sq.toNat with
  | some w =>
    if !isHeld s (9 + fnIx d.fn) && d.fence && w.opcode == r.opcode && w.tag == d.tag.toNat && fenceOpen s d.fn d.sq.toNat w.id then
      let x := { w with fenced := false, data := (mkDesc s r.opcode d r.len none).data }
      checked (modDesc s w.id fun _ => x) x d r op
    else s
  | none =>
    if canFetch s d then
      let x := mkDesc s r.opcode d r.len (issueOf s d.fn d.sq.toNat)
      if d.fence && !fenceOpen s d.fn d.sq.toNat s.nextId then takeDesc s { x with fenced := true }
      else checked (takeDesc s x) x d r op
    else s

/-- A descriptor that arrived at a branch in a DESC message: it completes by CPL (R216). The age of a Gale command, in ns
since its summary bit was written, is an operand: the spec gives DESC no field for it (R82) (DESIGN CHOICE, log entry
90). -/
def arrived (s : State) (d : SqEntry) (age : Option Nat) (r : OpRule) (op : Desc → State → State) : State :=
  if isActivating s then s
  else
  let x := mkDesc s r.opcode d r.len (age.map fun n => s.fc.now - n)
  let s1 := { s with flight := s.flight ++ [x], nextId := s.nextId + 1 }.clampIf x.clampDone
  if teaHub x.tea ≠ hubOf s then complete s1 x Status.denied
  else match addrStatus s1 r.opcode x.tea with
    | some st => complete s1 x st
    | none => if r.mgmt && !hubForm x.tea then complete s1 x Status.denied else op x s1

end Sys2Proof.Machine
end

