-- ==== Sys2Proof/Machine/Frame.lean ====
section
/-! DEFINITION. VFP frames (R109 to R117): building a token, reading a reply. -/
namespace Sys2Proof.Machine

/-- A VFP frame with its parts (R109). The trailer is empty on a frame without SECURE. -/
structure Vfp where
  ftype : Nat
  toggle : Bool
  more : Bool
  secure : Bool
  node : Nat
  ep : Nat
  payload : List Byte
  trailer : List Byte
  deriving DecidableEq, Repr

/-- HCRC over the header bytes 0 to 3 (R110). -/
def hcrc (bs : List Byte) : Nat := (bs.foldl crc8Byte 0xFF) ^^^ 0xFF

/-- Header bytes 0 to 3 (VFP header). -/
def vfpHeader (f : Vfp) : List Byte :=
  [BitVec.ofNat 8 (f.ftype % 16 * 16 + b2n f.toggle * 8 + b2n f.more * 4 + b2n f.secure * 2), BitVec.ofNat 8 f.node,
   BitVec.ofNat 8 (f.ep % 32 * 8 + f.payload.length / 256 % 8), BitVec.ofNat 8 (f.payload.length % 256)]

/-- The bytes of a frame (R109). -/
def vfpEncode (f : Vfp) : List Byte :=
  vfpHeader f ++ [BitVec.ofNat 8 (hcrc (vfpHeader f))] ++ f.payload ++ (if f.secure then f.trailer else []) ++
    (if f.payload.isEmpty then [] else beBytes 4 (crc32c (f.payload ++ if f.secure then f.trailer else [])))

/-- How a received frame reads (R113). -/
inductive Read where
  | badHcrc
  | malformed (node : Nat)
  | ok (f : Vfp)
  deriving DecidableEq, Repr

/-- Is the length of a reply within what its type allows (R113, R115). -/
def replyLenOk (ftype n : Nat) : Bool :=
  match ftype with
  | 0 => decide (n ≤ 1024)
  | 5 => decide (n ≤ 1024)
  | 6 => n == 16
  | _ => n == 0

/-- How far a line pads a frame. -/
inductive Padding where
  | none | groups | any
  deriving DecidableEq, Repr

/-- May a frame of n bytes come as a body of m bytes (R173, R176, R177). -/
def Padding.allows : Padding → Nat → Nat → Bool
  | .none, n, m => m == n
  | .groups, n, m => decide (n ≤ m) && decide (m ≤ (n + 2) / 3 * 3)
  | .any, n, m => decide (n ≤ m)

/-- Read a reply (R113). Bytes beyond the frame are padding as far as the line pads, malformed otherwise: on VFP-3 the ESD
follows LENGTH and its padding (R177) (DEDUCED, log entry 28; DESIGN CHOICE, log entry 82). -/
def readReply (pads : Padding) (bs : List Byte) : Read :=
  if bs.length < 5 ∨ hcrc (bs.take 4) ≠ byteAt bs 4 then .badHcrc
  else
    let b0 := byteAt bs 0
    let n := byteAt bs 2 % 8 * 256 + byteAt bs 3
    let sec := bitOf b0 1
    let tn := if sec then 12 else 0
    let total := 5 + n + tn + (if n = 0 then 0 else 4)
    let f : Vfp := { ftype := b0 / 16, toggle := bitOf b0 3, more := bitOf b0 2, secure := sec, node := byteAt bs 1,
                     ep := byteAt bs 2 / 8, payload := (bs.drop 5).take n, trailer := (bs.drop (5 + n)).take tn }
    if 7 ≤ f.ftype then .malformed f.node
    else if !replyLenOk f.ftype n then .malformed f.node
    else if !pads.allows total bs.length then .malformed f.node
    else if (f.ftype = 5 ∨ f.ftype = 6) ∧ f.ep ≠ 0 then .malformed f.node
    else if n ≠ 0 ∧ beAt bs (5 + n + tn) 4 ≠ crc32c (f.payload ++ f.trailer) then .malformed f.node
    else .ok f

/-- Tokens (R114). -/
def Tok.sof : Nat := 0
def Tok.poll : Nat := 1
def Tok.out : Nat := 2
def Tok.in_ : Nat := 3
def Tok.setup : Nat := 4
def Tok.probe : Nat := 5
def Tok.discover : Nat := 6
def Tok.assign : Nat := 7
def Tok.suspend : Nat := 8
def Tok.resume : Nat := 9
def Tok.reset : Nat := 10
def Tok.squall : Nat := 11
def Tok.time : Nat := 12

/-- Bytes of a frame with n bytes of payload. -/
def frameLen (sec : Bool) (n : Nat) : Nat := if n = 0 then 5 else 9 + n + if sec then 12 else 0

/-- One entry of a COV (R117). -/
structure CovEntry where
  ep : Nat
  toggle : Bool
  halted : Bool
  age : Nat
  data : List Byte
  deriving DecidableEq, Repr

/-- The entries of a COV payload; none when an entry does not fit (R117). -/
def covEntries : Nat → List Byte → Option (List CovEntry)
  | 0, bs => if bs.isEmpty then some [] else none
  | fuel + 1, bs =>
    if bs.isEmpty then some []
    else
      let n := byteAt bs 1
      if bs.length < 4 ∨ 64 < n ∨ bs.length < 4 + n then none
      else match covEntries fuel (bs.drop (4 + n)) with
        | none => none
        | some r =>
          let b0 := byteAt bs 0
          some (⟨b0 / 8, bitOf b0 2, bitOf b0 1, beAt bs 2 2, (bs.drop 4).take n⟩ :: r)

/-- A HELLO payload, also the data of GET_CAPS (R117, R138). -/
structure Hello where
  identity : Nat
  gen : Nat
  caps : Nat
  curAddr : Nat
  epCount : Nat
  deriving DecidableEq, Repr

/-- Read a HELLO payload (R117). -/
def readHello (bs : List Byte) : Hello :=
  ⟨beAt bs 0 8, byteAt bs 8, beAt bs 9 2, byteAt bs 11, byteAt bs 12⟩

/-- Capability bits of HELLO. -/
def capAge (c : Nat) : Bool := bitOf c 0
def capWake (c : Nat) : Bool := bitOf c 1
def capSecure (c : Nat) : Bool := bitOf c 2
def capTime (c : Nat) : Bool := bitOf c 3
def capBcast (c : Nat) : Bool := bitOf c 5

end Sys2Proof.Machine
end

