-- ==== Sys2Proof/Machine/Endpoint.lean ====
section
/-! DEFINITION. Nodes and endpoints: events about nodes (R155), outcomes of writes (R92, R134, R135, R137, R273), halting
endpoints and detaching nodes, toggles (R132). Ports 0 to 47 are segments, 48 to 63 the stream nodes of link ports. -/
namespace Sys2Proof.Machine

/-- The generation of a segment; 0 on a link port. -/
def segGen (s : State) (p : Nat) : Nat := if p < 48 then s.fld (Reg.SEG_CTRL p) Fld.SEG_CTRL_GEN else 0

/-- Advance a segment counter; a link port has none (R194). -/
def segCnt (s : State) (p k n : Nat) : State := if p < 48 then s.bump (Reg.SEG_CNT p k) n else s

/-- Add to a 64-bit counter held in two registers, low word first (R8). -/
def bump64 (s : State) (lo hi n : Nat) : State :=
  let v := (s.rd lo).toNat + n
  (s.wr lo (BitVec.ofNat 32 v)).bump hi (v / 2 ^ 32)

/-- The TEA of an endpoint of this hub. -/
def epTea (s : State) (p node ep : Nat) : Nat := mkTea (hubOf s) p node ep

/-- Is an endpoint periodic: Breeze or Gale (R25). -/
def EpCtx.periodic (c : EpCtx) : Bool := decide (c.cls ≠ .draught)

/-- Does an endpoint carry data node to hub; unknown entries count so (R180). -/
def EpCtx.inbound (c : EpCtx) : Bool := match c.info with
  | some i => i.isIn
  | none => true

/-- The MAX of an endpoint; 64 while its entry has not been read (R180). -/
def EpCtx.maxLen (c : EpCtx) : Nat := match c.info with
  | some i => i.max
  | none => 64

/-- The buffer an endpoint holds, in bytes: only while it is enabled (R251). -/
def EpCtx.buffer (c : EpCtx) : Nat := if c.enabled then c.granules * 64 else 0

/-- Is an endpoint out of service by a halt or by errors (R135). -/
def EpCtx.stopped (c : EpCtx) : Bool := c.halted || c.erred

/-- The node addresses in use on a port, rising. -/
def nodesOf (s : State) (p : Nat) : List Nat :=
  (s.nodes.filter fun kv => kv.1 / 256 == p).map fun kv => kv.1 % 256

/-- Attached nodes: those announced by ATTACH or quarantined by STRANGER. -/
def attachedOf (s : State) (p : Nat) : List Nat := (nodesOf s p).filter fun n => nodeThere s p n

/-- Nodes in service on a port: attached, not quarantined, served from their frame on (R146, R149). -/
def servedOf (s : State) (p : Nat) : List Nat :=
  (nodesOf s p).filter fun n => (s.node (nodeKey p n)).phase = .served && !(s.node (nodeKey p n)).quarantined

/-! ## Events about nodes (R155) -/

/-- ATTACH. -/
def attachEvent (s : State) (p node : Nat) : State :=
  let n := s.node (nodeKey p node)
  let flags := b2n n.returned + 2 * b2n n.authed + 4 * b2n n.autoApproved + 8 * b2n n.approvedNow + 16 * b2n n.truncated
  sysEvent s 2 (epTea s p node 0)
    (leBytes 8 n.identity ++ leBytes 1 n.gen ++ leBytes 1 flags ++ leBytes 2 n.caps ++ leBytes 1 n.epCount ++ leBytes 3 0)

/-- DETACH. -/
def detachEvent (s : State) (p node cause scope mask : Nat) : State :=
  let n := s.node (nodeKey p node)
  sysEvent s 3 (epTea s p node 0)
    (leBytes 8 n.identity ++ leBytes 1 cause ++ leBytes 1 scope ++ leBytes 2 0 ++ leBytes 4 mask ++ leBytes 4 n.lastGood)

/-- Was a STRANGER event with this identity and cause written on any port in the last 10 s (R154). -/
def toldLately (s : State) (cause identity : Nat) : Bool :=
  s.segs.any fun kv => kv.2.reported.any fun r =>
    r.1 == identity && r.2.1 == cause && decide (s.fc.now < r.2.2 + 10000000000)

/-- STRANGER, under the limit of one event for an identity and cause every 10 s, whatever the ports (R154). NOISE names no
identity and has no such limit. -/
def strangerEvent (s : State) (p cause gen addr frames identity : Nat) : State :=
  let x := s.seg p
  if cause != 9 && toldLately s cause identity then s
  else
    let keep := x.reported.filter fun r => !(r.1 == identity && r.2.1 == cause) && decide (s.fc.now < r.2.2 + 10000000000)
    sysEvent (s.setSeg p { x with reported := keep ++ [(identity, cause, s.fc.now)] }) 4 (portTea s p)
      (leBytes 1 cause ++ leBytes 1 gen ++ leBytes 1 addr ++ leBytes 1 0 ++ leBytes 4 frames ++ leBytes 8 identity)

/-! ## Outcomes of writes -/

/-- The outcome of a host write: done, or the status it failed with. A posted write that fails is a late fault (R92). -/
def hostOutcome (s : State) (w : HostWrite) (failed : Option Status) : State :=
  if w.posted then
    match failed with
    | some c => lateFault s w.d c
    | none => s
  else match inFlight s w.desc with
    | none => s
    | some d =>
      match failed with
      | some c => complete s d c
      | none => completeLate s d (if d.retried then Status.retried else Status.done) d.len d.late

/-- Advance a Gust counter (R274). -/
def gstCnt (s : State) (k n : Nat) : State := s.bump (Reg.GST_CNT k) n

/-- GUST_FIRED (R273). -/
def firedEvent (s : State) (tea ra action outcome slot frame trigger capture actTime : Nat) (missed : Bool) : State :=
  sysEventAt s 0x0A tea capture
    (leBytes 4 ra ++ leBytes 1 action ++ leBytes 1 outcome ++ leBytes 1 slot ++ leBytes 1 (b2n missed) ++ leBytes 4 frame ++
      leBytes 4 trigger ++ leBytes 8 actTime)

/-- The outcome of a rule's write: counted and reported at the rule's home hub; for a rule of another hub it goes
there in a GUST RESULT (R268, R269, R273) (DEDUCED, log entry 74). -/
def ruleOutcome (s : State) (tea : Nat) (w : RuleWrite) (outcome : Nat) : State :=
  let at_ := w.actTime.getD w.handed
  if w.remote then
    sendMsg s upLink (if w.gale then 0 else 1) ⟨5, false, tea, 0, 0, 7 + 256 * w.ra, at_, [BitVec.ofNat 8 outcome]⟩
  else
    let s1 := gstCnt s (if outcome = 0 then 2 else 3) 1
    if w.event then
      firedEvent s1 tea w.ra w.action outcome w.slot w.frame w.trigger w.capture at_ w.missed
    else s1

/-- End every queued write of an endpoint: host writes with a status, rule writes with an outcome. -/
def endWrites (s : State) (p node ep : Nat) (st : Status) (outcome : Nat) : State :=
  let k := epKey p node ep
  let c := s.ep k
  let hw := c.sending.toList ++ c.hostWrites
  let rw := c.ruleSending.toList ++ c.ruleWrites
  let s1 := s.setEp k { c with sending := none, hostWrites := [], ruleSending := none, ruleWrites := [], writeFails := 0,
                               writeFailedNow := false }
  let s2 := hw.foldl (fun s w => hostOutcome s w (some st)) s1
  rw.foldl (fun s w => ruleOutcome s (epTea s p node ep) w outcome) s2

/-- Bulk transfers of an endpoint end with a status; nothing of the endpoint stays on the wire or in line (R135). -/
def endBulks (s : State) (p node e : Nat) (st : Status) : State :=
  let x := s.seg p
  let mine := x.bulks.filter fun b => b.node == node && b.ep == e
  let keep := fun (w : Txn) => !(w.node == node && (match w.kind with
    | .outEp a _ _ | .bulkOut a _ | .bulkIn a _ | .probe a => a == e
    | _ => false))
  let s1 := s.setSeg p { x with
    bulks := x.bulks.filter fun b => !(b.node == node && b.ep == e), work := x.work.filter keep, cur := x.cur.filter keep,
    voided := x.voided || !(x.cur.all keep) }
  mine.foldl (fun s b => completeId s b.desc st) s1

/-- Stop endpoints of a node: halted by the node or stalled by errors (R135). One DETACH of scope endpoints. -/
def haltEps (s : State) (p node cause : Nat) (eps : List Nat) : State :=
  let fresh := eps.filter fun e => e != 0 && !(s.ep (epKey p node e)).stopped
  if fresh.isEmpty then s
  else
    let s1 := forEach fresh s fun s e =>
      endWrites (endBulks (s.modEp (epKey p node e) fun c =>
        if cause = 0x11 then { c with halted := true } else { c with erred := true }) p node e Status.stalled)
        p node e Status.stalled 2
    detachEvent s1 p node cause 1 (bitmapOf fresh)

/-- Return an endpoint to service with its toggles at 0 (R132, R135). -/
def clearEp (s : State) (p node ep : Nat) : State :=
  s.modEp (epKey p node ep) fun c => { c with
    togOut := false, togIn := false, halted := false, erred := false, failFrames := 0, writeFails := 0,
    probeFirst := false, askToggle := false, resetEpFirst := false, force := true }

/-- Return every endpoint of a node to service (R132). -/
def clearEps (s : State) (p node : Nat) : State := forEach (List.range 32) s fun s e => clearEp s p node e

/-- Is a transaction for a node. -/
def Txn.on (x : Txn) (node : Nat) : Bool := x.node == node

/-- The control transfers and bulk transactions of a node end with a status (R137, R164). -/
def endTransfers (s : State) (p node : Nat) (st : Status) : State :=
  let x := s.seg p
  let mine := x.ctls.filter fun c => c.node == node
  let bulk := x.bulks.filter fun b => b.node == node
  let s1 := s.setSeg p { x with
    ctls := x.ctls.filter fun c => c.node != node, bulks := x.bulks.filter fun b => b.node != node,
    work := x.work.filter fun w => !w.on node, cur := x.cur.filter fun w => !w.on node,
    voided := x.voided || x.cur.any fun w => w.on node }
  let s2 := mine.foldl (fun s c => match c.owner with
    | .host d => completeId s d st
    | _ => s) s1
  bulk.foldl (fun s b => completeId s b.desc st) s2

/-- Targets of a distribution session less one node; a block's descriptor is judged at the next status (R193). -/
def distDrop (s : State) (p node : Nat) : State :=
  s.modSeg p fun x => match x.dist with
    | some d => if memNat d.targets node then
        { x with dist := some { d with targets := dropNat d.targets node, dropped := d.dropped + 1 } } else x
    | none => x

/-- The approvals of a node end with a status. -/
def approvalsEnd (s : State) (n : Node) (st : Status) : State := n.approve.foldl (fun s d => completeId s d st) s

/-- Detach a node (R137). A node that was never announced leaves without an event. A detach ends Lull (R319). -/
def detachNode (s : State) (p node cause : Nat) : State :=
  let n := s.node (nodeKey p node)
  if n.phase = .absent then s
  else
    let s1 := if nodeThere s p node then detachEvent s p node cause 0 0 else s
    let s2 := forEach (List.range 32) s1 fun s e => endWrites s p node e Status.nodeAbsent 1
    let s3 := endTransfers s2 p node Status.nodeAbsent
    let s4 := approvalsEnd s3 n Status.nodeAbsent
    lullWake ((distDrop s4 p node).setNode (nodeKey p node) Node.reset) 8

end Sys2Proof.Machine
end

