-- ==== Sys2Proof/Machine/Gust.lean ====
section
/-! DEFINITION. The Gust engine: rules and their fields (R261, R264), evaluation (R262, R267), actions (R263, R268, R269),
enabling and activity (R265, R266), subscriptions and deposits (R269, R272). -/
namespace Sys2Proof.Machine

/-! ## Rule fields (Gust rule table) -/

def Rule.sense (r : Rule) : Nat := leAt r.bytes 0 3
def Rule.ctrl (r : Rule) : Nat := byteAt r.bytes 3
def Rule.gale (r : Rule) : Bool := bitOf r.ctrl 7
def Rule.combine (r : Rule) : Nat := bitsOf r.ctrl 5 2
def Rule.action (r : Rule) : Nat := bitsOf r.ctrl 3 2
def Rule.event (r : Rule) : Bool := bitOf r.ctrl 2
def Rule.orphan (r : Rule) : Nat := bitsOf r.ctrl 0 2
def Rule.cond2 (r : Rule) : Nat := leAt r.bytes 4 3
def Rule.conds (r : Rule) : Nat := leAt r.bytes 7 3
def Rule.hold (r : Rule) : Nat := leAt r.bytes 18 2
def Rule.target (r : Rule) : Nat := leAt r.bytes 20 3
def Rule.bytesMask (r : Rule) : Nat := byteAt r.bytes 23
def Rule.data (r : Rule) : List Byte := (r.bytes.drop 24).take 8

/-- Does a slot hold a rule. -/
def Rule.present (r : Rule) : Bool := !r.bytes.isEmpty

/-- A rule with other values in byte 3. -/
def Rule.withCtrl (r : Rule) (c : Nat) : Rule := { r with bytes := r.bytes.set 3 (BitVec.ofNat 8 c) }

/-- The TEAs a rule names: SENSE, COND2 when COMBINE is not 0, TARGET for WRITE (R264). -/
def Rule.teas (r : Rule) : List Nat :=
  r.sense :: ((if r.combine = 0 then [] else [r.cond2]) ++ if r.action = 0 then [r.target] else [])

/-- The endpoints that trigger a rule. -/
def Rule.watched (r : Rule) : List Nat := r.sense :: if r.combine = 0 then [] else [r.cond2]

/-- A rule as it is stored: COMBINE 3, ORPHAN 3 and reserved bits read as 0 (R261) (DEDUCED, log entry 73). -/
def storedRule (bs : List Byte) : List Byte :=
  let c := byteAt bs 3
  let c1 := if bitsOf c 5 2 = 3 then setBits c 5 2 0 else c
  let c2 := if bitsOf c1 0 2 = 3 then setBits c1 0 2 0 else c1
  let cond := setBits (byteAt bs 9) 4 4 0
  (bs.set 3 (BitVec.ofNat 8 c2)).set 9 (BitVec.ofNat 8 cond)

/-- The rule address of a rule of this hub. -/
def ruleRa (s : State) (i : Nat) : Nat := hubOf s * 65536 + i

/-! ## Conditions (R261, R262) -/

/-- An operand: W bytes from OFF, most significant first, ANDed with its mask; none when the sample is too short. -/
def operand (bs : List Byte) (off : Nat) (wide : Bool) (mask : Nat) : Option Nat :=
  let w := if wide then 2 else 1
  if off + w ≤ bs.length then some (beAt bs off w &&& mask) else none

/-- A comparison of the new operand with the threshold or the previous operand. -/
def compareOp (op v thr : Nat) (p : Option Nat) : Bool :=
  match op with
  | 0 => v == thr
  | 1 => v != thr
  | 2 => decide (thr < v)
  | 3 => decide (v < thr)
  | 4 => match p with
    | some q => decide (q < thr) && decide (thr ≤ v)
    | none => false
  | 5 => match p with
    | some q => decide (thr ≤ q) && decide (v < thr)
    | none => false
  | 6 => match p with
    | some q => v != q
    | none => false
  | _ => false

/-- The fields of one condition. -/
structure Cond where
  off : Nat
  wide : Bool
  op : Nat
  mask : Nat
  thr : Nat

def Rule.c1 (r : Rule) : Cond := ⟨bitsOf r.conds 0 6, bitOf r.conds 6, bitsOf r.conds 7 3, leAt r.bytes 10 2, leAt r.bytes 12 2⟩
def Rule.c2 (r : Rule) : Cond := ⟨bitsOf r.conds 10 6, bitOf r.conds 16, bitsOf r.conds 17 3, leAt r.bytes 14 2, leAt r.bytes 16 2⟩

/-- Is a comparison an edge. -/
def Cond.edge (c : Cond) : Bool := decide (4 ≤ c.op)

/-- The value of a condition on a sample: its truth, and whether the sample was too short. -/
def Cond.eval (c : Cond) (new : Option (List Byte)) (prev : Option (List Byte)) : Bool × Bool :=
  match new with
  | none => (false, false)
  | some bs => match operand bs c.off c.wide c.mask with
    | none => (false, true)
    | some v => (compareOp c.op v c.thr (prev.bind fun q => operand q c.off c.wide c.mask), false)

/-- The latest sample of an endpoint: its own, or the mirror of a remote one (R269). -/
def latest (s : State) (tea : Nat) : Option (List Byte) :=
  if teaHub tea = hubOf s then (s.ep (teaKey tea)).sample else s.mirror.find tea

/-- Is the branch that owns a TEA orphaned (R272). -/
def teaOrphaned (s : State) (tea : Nat) : Bool :=
  teaHub tea != hubOf s && bitOf (s.fld Reg.GST_ORPHAN Fld.GST_ORPHAN_BRANCHES) (teaHub tea - 1)

/-! ## Counting evaluations (R267, R274) -/

/-- Count one evaluation and its time, a free value within the bounds of R267. -/
def countEval (s : State) (gale : Bool) : State :=
  let n := (Config.evalNs s.freeCtr).toNat
  let ns := if gale then Nat.min n 5000 else n
  let s1 := gstCnt { s with freeCtr := s.freeCtr + 1, evals := s.evals + 1 } 0 1
  let slots := fitSlots s1.slotEvals
  let s2 := { s1 with slotEvals := slots.set s.fc.slot (slots.getD s.fc.slot 0 + 1) }
  let most := s2.fld Reg.GST_EVAL_MAX Fld.GST_EVAL_MAX_NS
  let s3 := if most < ns then s2.setFld Reg.GST_EVAL_MAX Fld.GST_EVAL_MAX_NS ns else s2
  if !gale && decide (5000 < ns) then gstCnt s3 15 1 else s3
where
  /-- Eight counts, one for each slot. -/
  fitSlots (l : List Nat) : List Nat := l.take 8 ++ List.replicate (8 - l.length) 0

/-! ## Actions (R263, R268, R269, R273) -/

/-- The value a WRITE builds from the output value: bytes selected by BYTES replaced, gaps 0, cut at MAX (R263)
(DEDUCED, log entry 74). -/
def buildValue (old : List Byte) (mask : Nat) (data : List Byte) (max : Nat) : List Byte :=
  let top := (bitList 8 mask).foldl (fun a i => Nat.max a (i + 1)) 0
  let n := Nat.max old.length top
  ((List.range n).map fun i => if i < 8 && bitOf mask i then data.getD i 0 else old.getD i 0).take max

/-- A rule's action as it reaches an endpoint of this hub: stored for the endpoint's next OUT, or its outcome at once
when no OUT can be sent (R263, R268) (DEDUCED, log entry 74). -/
def ruleWriteAt (s : State) (tea : Nat) (w : RuleWrite) (mask : Nat) (data : List Byte) : State :=
  let p := teaPort tea
  let node := teaNode tea
  let k := teaKey tea
  let c := s.ep k
  if !nodeThere s p node || (s.node (nodeKey p node)).quarantined then ruleOutcome s tea w 1
  else if c.stopped then ruleOutcome s tea w 2
  else if !c.periodic || !c.enabled then ruleOutcome s tea w 4
  else
    let v := buildValue c.outVal mask data (Nat.min c.maxLen 64)
    s.setEp k { c with outVal := v, ruleWrites := c.ruleWrites ++ [{ w with data := v }] }

/-- The GUST_FIRED of a firing whose action needs no OUT, counted by its outcome. -/
def instantOutcome (s : State) (r : Rule) (ra outcome trigger capture : Nat) (event : Bool) : State :=
  let s1 := gstCnt s (if outcome = 0 ∨ outcome = 5 then 2 else 3) 1
  if event then
    firedEvent s1 (if r.action = 0 then r.target else r.sense) ra r.action outcome s.fc.slot s.fc.frameNo trigger capture
      (treeNs s) false
  else s1

/-- The write of a firing rule. -/
def ruleWriteOf (s : State) (r : Rule) (ra trigger capture capAt : Nat) : RuleWrite :=
  { ra := ra, gale := r.gale, event := r.event, action := r.action, trigger := trigger, capture := capture,
    capAt := capAt, handed := treeNs s, slot := s.fc.slot, frame := s.fc.frameNo, remote := false, missed := false,
    actTime := none, data := [] }

/-- The link that carries a branch's traffic. -/
def branchLink (tea : Nat) : Nat := teaHub tea - 1

/-- Send ACT for an action on a branch endpoint (GUST message fields). -/
def sendAct (s : State) (r : Rule) (w : RuleWrite) : State :=
  let s1 := gstCnt { s with gustActs := s.gustActs ++ [(r.target, w)] } 10 1
  sendMsg s1 (branchLink r.target) (if r.gale then 0 else 1)
    ⟨5, false, r.target, 0, 0, 2 + 256 * w.ra, w.capture, BitVec.ofNat 8 r.bytesMask :: r.data⟩

/-- Carry out the action of a rule that fired; one for an orphaned branch is dropped, and its event reports NODE ABSENT
(R263, R269, R272, R273) (DEDUCED, log entry 74). -/
def ruleAct (s : State) (i : Nat) (r : Rule) (trigger capture capAt : Nat) : State :=
  let ra := ruleRa s i
  let w := ruleWriteOf s r ra trigger capture capAt
  match r.action with
  | 0 =>
    if teaHub r.target = hubOf s then ruleWriteAt s r.target w r.bytesMask r.data
    else if teaOrphaned s r.target then ruleOutcome s r.target w 1
    else sendAct s r w
  | 1 => { s with ruleReqs := s.ruleReqs ++ [⟨r.target % 65536, 1, true, none, some w⟩] }
  | 2 => { s with ruleReqs := s.ruleReqs ++ [⟨r.target % 65536, 1, false, none, some w⟩] }
  | _ => instantOutcome s r ra 0 trigger capture true

/-- A rule fires: counted, shown, reported, acted on (R262, R273). -/
def ruleFire (s : State) (i : Nat) (r : Rule) (trigger capture capAt : Nat) : State :=
  let s1 := gstCnt (s.glb 15 1) 1 1
  let s2 := gstInt (s1.wr Reg.GST_LAST_FIRED (BitVec.ofNat 32 (2 ^ 31 + ruleRa s i))) 0
  ruleAct s2 i r trigger capture capAt

/-! ## Evaluation (R262, R267) -/

/-- One condition in an evaluation: its truth now, its run of truth, whether it was short. A level condition is true only
when it has held for HOLD of capture time; an edge only when its own endpoint triggered. -/
def condNow (c : Cond) (own : Bool) (new prev : Option (List Byte)) (orphaned : Bool) (since : Option Nat)
    (hold capture : Nat) : Bool × Option Nat × Bool :=
  if orphaned then (false, none, false)
  else
    let e := c.eval new (if own then prev else none)
    if c.edge then (own && e.1, none, e.2)
    else if e.1 then
      let t := since.getD capture
      (decide (hold * 1000 ≤ capture - t), some t, e.2)
    else (false, none, e.2)

/-- Evaluate one active rule on a sample (R262). -/
def evalRule (s : State) (i tea : Nat) (prev new : Option (List Byte)) (capture capAt : Nat) : State :=
  let r := s.rule i
  let s1 := countEval s r.gale
  let own1 := r.sense == tea
  let own2 := r.cond2 == tea
  let a := condNow r.c1 own1 (if own1 then new else latest s r.sense) prev (teaOrphaned s r.sense) r.since1 r.hold capture
  let b := if r.combine = 0 then (false, none, false)
    else condNow r.c2 own2 (if own2 then new else latest s r.cond2) prev (teaOrphaned s r.cond2) r.since2 r.hold capture
  let s2 := gstCnt s1 14 (b2n a.2.2 + b2n b.2.2)
  let res := match r.combine with
    | 1 => a.1 && b.1
    | 2 => a.1 || b.1
    | _ => a.1
  let s3 := s2.setRule i { r with episode := res, since1 := a.2.1, since2 := b.2.1 }
  if res && !r.episode then ruleFire s3 i r tea capture capAt else s3

/-- Active rules that a sample of an endpoint triggers: Gale rules first (R262, R267). -/
def triggered (s : State) (tea : Nat) : List Nat :=
  let l := s.rules.filter fun kv => kv.2.active && memNat kv.2.watched tea
  ((l.filter fun kv => kv.2.gale) ++ l.filter fun kv => !kv.2.gale).map (·.1)

/-- Evaluate the rules a new sample triggers, before it is stored; a held GST block evaluates none (R59, R262, R267)
(DEDUCED, log entry 17). -/
def gustEval (s : State) (tea : Nat) (prev new : Option (List Byte)) (capture capAt : Nat) : State :=
  if isHeld s 7 || chipState s == 2 then s
  else forEach (triggered s tea) s fun s i =>
    if (s.rule i).active then evalRule s i tea prev new capture capAt else s

/-! ## Activity and enabling (R265, R266, R269, R272) -/

/-- Show the counts of rules, hold trackers and deposits. -/
def gustShow (s : State) : State :=
  let on := s.rules.filter fun kv => kv.2.enabled
  let s1 := s.setFld Reg.GST_STATUS Fld.GST_STATUS_COUNT (on.filter fun kv => kv.2.active).length
  let s2 := s1.setFld Reg.GST_RULES Fld.GST_RULES_COUNT on.length
  let s3 := s2.setFld Reg.GST_HOLD Fld.GST_HOLD_COUNT (on.filter fun kv => kv.2.hold != 0).length
  let s4 := if isBranch s then s3 else s3.setFld (Reg.GST_HUB_RULES 0) Fld.GST_HUB_RULES_COUNT on.length
  let s5 := s4.setFld Reg.GST_DEPOSITS Fld.GST_DEPOSITS_COUNT s.deposits.length
  s5.wr Reg.GST_SUBSCRIBED (BitVec.ofNat 32 (if isBranch s then s.subs.length else s.mirror.length))

/-- Why a rule may not be active: 0 nothing, 1 Gust off, 2 a segment it names, 3 its orphan action (R266). -/
def ruleBlock (s : State) (r : Rule) : Nat :=
  if !s.flag Reg.GST_CTRL Fld.GST_CTRL_ENABLE then 1
  else if r.teas.any fun t => teaHub t == hubOf s && decide (teaPort t < 48) && decide ((s.seg (teaPort t)).st ≤ 1) then 2
  else if r.orphan != 1 && r.teas.any (teaOrphaned s) then 3
  else 0

/-- Make a rule inactive: it loses its episode and hold state (R266). -/
def ruleOff (s : State) (i cause : Nat) : State :=
  let r := s.rule i
  if r.active then
    gstCnt (s.setRule i { r with active := false, cause := cause, episode := false, since1 := none, since2 := none }) 13 1
  else s.setRule i { r with cause := cause }

/-- Rules whose conditions have failed become inactive at once; at a frame boundary those whose conditions hold return
(R266). -/
def refreshRules (s : State) (atFrame : Bool) : State :=
  if s.rules.isEmpty || chipState s == 2 then s
  else gustShow (forEach s.rules s fun s kv =>
    let r := s.rule kv.1
    if !r.enabled then s
    else
      let b := ruleBlock s r
      if b != 0 then (if r.active || r.cause != b then ruleOff s kv.1 b else s)
      else if atFrame && !r.active then s.setRule kv.1 { r with active := true, cause := 0 } else s)

/-- Remote endpoints that enabled rules of this root name: SENSE, COND2 and TARGET, as R264 counts them (R269). -/
def remoteTeas (s : State) : List Nat :=
  if isBranch s then []
  else s.rules.foldl (fun a kv => if kv.2.enabled then
      (kv.2.teas.filter fun t => teaHub t != hubOf s).foldl addNat a else a) []

/-- Is some enabled rule that names an endpoint Gale (R269). -/
def galeNamed (s : State) (tea : Nat) : Bool :=
  s.rules.any fun kv => kv.2.enabled && kv.2.gale && memNat kv.2.teas tea

/-- Subscribe to remote endpoints that enabled rules name, and end subscriptions that none names any more (R269). Each
mirror takes one granule of the pool. -/
def resubscribe (s : State) : State :=
  if isBranch s then s
  else
    let want := remoteTeas s
    let s1 := forEach (s.subs.filter fun kv => !memNat want kv.1) s fun s kv =>
      let s' := { s with subs := s.subs.erase kv.1, mirror := s.mirror.erase kv.1 }
      sendMsg (s'.setFld Reg.LIB_POOL Fld.LIB_POOL_FREE (s'.fld Reg.LIB_POOL Fld.LIB_POOL_FREE + 1)) (branchLink kv.1) 1
        ⟨5, false, kv.1, 0, 0, 4, 0, []⟩
    forEach want s1 fun s t =>
      let g := galeNamed s t
      if s.subs.find t = some g then s
      else
        let s' := if (s.subs.find t).isSome then s
          else s.setFld Reg.LIB_POOL Fld.LIB_POOL_FREE (s.fld Reg.LIB_POOL Fld.LIB_POOL_FREE - 1)
        sendMsg { s' with subs := s'.subs.insert t g } (branchLink t) 1 ⟨5, false, t, 0, 0, 3, 0, [BitVec.ofNat 8 (b2n g)]⟩

/-- Does a rule need a deposit on a branch: an orphan FIRE whose TARGET is there (R272). -/
def Rule.deposits (r : Rule) (home : Nat) : Bool := r.orphan == 2 && r.action == 0 && teaHub r.target != home

/-- Deposits sent to the branch of a TEA. -/
def depositsTo (s : State) (tea : Nat) : Nat := (s.deposits.filter fun kv => teaHub (leAt kv.2 20 3) == teaHub tea).length

/-- How many enabled rules other than one watch an endpoint (R265). -/
def watchers (s : State) (i tea : Nat) : Nat :=
  (s.rules.filter fun kv => kv.1 != i && kv.2.enabled && memNat kv.2.watched tea).length

/-- Is an endpoint an admitted Gale endpoint (R33). -/
def isGale (s : State) (tea : Nat) : Bool := decide (epCls s tea = .gale)

/-- Enable or disable one rule: the clamps of R265. Answers whether the rule ends in the state asked for, and whether a
clamp changed it. -/
def switchRule (s : State) (i : Nat) (enable : Bool) : State × Bool × Bool :=
  let r := s.rule i
  if !r.present then (s, false, false)
  else if !enable then
    let s1 := if r.enabled && r.deposits (hubOf s) && !isBranch s then
        sendMsg { s with deposits := s.deposits.erase i } (branchLink r.target) 1 ⟨5, false, 0, 0, 0, 6 + 256 * ruleRa s i, 0, []⟩
      else s
    (s1.setRule i { r with enabled := false, active := false, cause := 0, episode := false, since1 := none, since2 := none },
      true, false)
  else if r.enabled then (s, true, false)
  else
    let down := r.gale && (!isGale s r.sense || (r.action == 0 && !isGale s r.target))
    let r1 := if down then r.withCtrl (setBits r.ctrl 7 1 0) else r
    let noHold := r1.hold != 0 && decide (4096 ≤ (s.rules.filter fun kv => kv.2.enabled && kv.2.hold != 0).length)
    let many := r1.watched.any fun t => decide (64 ≤ watchers s i t)
    let noDeposit := r1.deposits (hubOf s) && decide (4096 ≤ depositsTo s r1.target)
    if noHold || many || noDeposit then (gstCnt s 12 1, false, true)
    else
      let s1 := if down then gstCnt s 12 1 else s
      let s2 := if r1.deposits (hubOf s) && !isBranch s then
          sendMsg { s1 with deposits := s1.deposits.insert i r1.bytes } (branchLink r1.target) 1
            ⟨5, false, r1.target, 0, 0, 5 + 256 * ruleRa s i, 0, r1.bytes⟩
        else s1
      let b := ruleBlock s2 r1
      (s2.setRule i { r1 with enabled := true, active := b == 0, cause := b, episode := false, since1 := none, since2 := none },
        true, down)

/-- Apply the changes of rule state due at a gust slot, while GST is not held (R59, log entry 17): rule actions win over
descriptors for the same rule, and among them the lowest rank, which is applied last (R263, R265, R270) (DEDUCED, log
entry 74). -/
def applyRuleReqs (s : State) : State :=
  let reqs := s.ruleReqs
  if reqs.isEmpty || isHeld s 7 then s
  else
    let s0 := { s with ruleReqs := [] }
    let rank := fun (q : RuleReq) => (q.by_.map fun w => w.ra % 65536).getD 0
    let acts := sortBy (fun a b => decide (rank b < rank a)) (reqs.filter fun q => q.by_.isSome)
    let won := acts.map fun q => q.first
    let s1 := forEach acts s0 fun s q =>
      let z := switchRule s q.first q.enable
      let t := if z.2.2 then gstInt z.1 3 else z.1
      match q.by_ with
      | some w => ruleOutcome t (s.rule (w.ra % 65536)).sense { w with action := if q.enable then 1 else 2 }
          (if z.2.1 then 0 else 4)
      | none => t
    let s2 := forEach (reqs.filter fun q => q.by_.isNone) s1 fun s q =>
      let z := ((List.range q.count).map fun k => q.first + k).foldl (fun (acc : State × Nat × Bool) i =>
        if memNat won i then acc
        else
          let z := switchRule acc.1 i q.enable
          (z.1, acc.2.1 + b2n z.2.1, acc.2.2 || z.2.2)) (s, 0, false)
      let s' := if z.2.2 then gstInt (z.1.clamped) 3 else z.1
      match q.desc with
      | some d => completeId s' d Status.done z.2.1
      | none => s'
    gustShow (resubscribe s2)

/-! ## Orphan actions (R272) -/

/-- Root-placed rules that involve a branch. -/
def involving (s : State) (hub : Nat) : List Nat :=
  (s.rules.filter fun kv => kv.2.enabled && kv.2.teas.any fun t => teaHub t == hub).map (·.1)

/-- A branch is orphaned: each involving rule applies its ORPHAN code. -/
def orphanActions (s : State) (hub : Nat) : State :=
  let m := s.fld Reg.GST_ORPHAN Fld.GST_ORPHAN_BRANCHES
  let s0 := s.setFld Reg.GST_ORPHAN Fld.GST_ORPHAN_BRANCHES (setBits m (hub - 1) 1 1)
  let l := involving s0 hub
  if l.isEmpty then s0
  else gstInt (gustShow (forEach l s0 fun s i =>
    let r := s.rule i
    match r.orphan with
    | 1 => s
    | 2 =>
      let s1 := if r.deposits (hubOf s) && teaHub r.target == hub then s
        else
          let w := { ruleWriteOf s r (ruleRa s i) r.sense (treeNs s) s.fc.now with event := false }
          let s2 := match r.action with
            | 0 => if teaHub r.target = hubOf s then ruleWriteAt s r.target w r.bytesMask r.data
              else if teaOrphaned s r.target then gstCnt s 3 1 else sendAct s r w
            | 1 => { s with ruleReqs := s.ruleReqs ++ [⟨r.target % 65536, 1, true, none, some w⟩] }
            | 2 => { s with ruleReqs := s.ruleReqs ++ [⟨r.target % 65536, 1, false, none, some w⟩] }
            | _ => s
          let s3 := gstCnt s2 11 1
          if r.event then firedEvent s3 (if r.action = 0 then r.target else r.sense) (ruleRa s i) r.action 5 s.fc.slot
            s.fc.frameNo r.sense (treeNs s) (treeNs s) false else s3
      ruleOff s1 i 3
    | _ => ruleOff s i 3)) 2

/-- A branch is back: its orphan actions are no longer in force; deposits go there again (R272). -/
def orphanEnd (s : State) (hub : Nat) : State :=
  let m := s.fld Reg.GST_ORPHAN Fld.GST_ORPHAN_BRANCHES
  let s0 := s.setFld Reg.GST_ORPHAN Fld.GST_ORPHAN_BRANCHES (setBits m (hub - 1) 1 0)
  let s1 := forEach s0.deposits s0 fun s kv =>
    if teaHub (leAt kv.2 20 3) = hub then
      sendMsg s (hub - 1) 1 ⟨5, false, leAt kv.2 20 3, 0, 0, 5 + 256 * ruleRa s kv.1, 0, kv.2⟩ else s
  forEach s1.subs s1 fun s kv =>
    if teaHub kv.1 = hub then sendMsg s (hub - 1) 1 ⟨5, false, kv.1, 0, 0, 3, 0, [BitVec.ofNat 8 (b2n kv.2)]⟩ else s

end Sys2Proof.Machine
end

