-- ==== Sys2Proof/Machine/Schedule.lean ====
section
/-! DEFINITION. The schedule of a segment (R179 to R189): costs, Gale charge, payload cap, Breeze round, and the choice
and sending of the next transaction. -/
namespace Sys2Proof.Machine

/-! ## Costs (R179, R180, R183, R184) -/

/-- VFP-1 bit rate in kbit/s, bits per ms. -/
def v1Rate (s : State) (p : Nat) : Nat := s.fld (Reg.SEG_V1_CFG p) Fld.SEG_V1_CFG_RATE_KBPS

/-- PLCA node count. -/
def plcaCount (s : State) (p : Nat) : Nat := s.fld (Reg.SEG_V2_CFG p) Fld.SEG_V2_CFG_PLCA_COUNT

/-- Bit times of a round trip with a token of ft bytes and a reply of fr bytes (R179). -/
def roundTrip (s : State) (p ft fr : Nat) : Nat :=
  match segGen s p with
  | 3 => 24 * (ceilDiv ft 3 + ceilDiv fr 3) + 408
  | 2 => 8 * ft + 8 * (38 + Nat.max 46 fr)
  | 1 => 11 * (ft + fr) + 55 + ceilDiv (2 * v1Rate s p) 1000
  | _ => 0

/-- Bit times of one PLCA cycle besides its polled nodes (R179). -/
def plcaCycle (s : State) (p sumFt k : Nat) : Nat :=
  20 + 8 * (38 + Nat.max 46 sumFt) + 32 * (plcaCount s p - 1 - k) - 8 * sumFt

/-- Nanoseconds of a number of bit times. -/
def bitsNs (s : State) (p bits : Nat) : Nat :=
  match segGen s p with
  | 3 => bits * 5
  | 2 => bits * 100
  | 1 => ceilDiv (bits * 1000000) (Nat.max 1 (v1Rate s p))
  | _ => 0

/-- Does an endpoint hold a Gale share: it is Gale, or it was when its context was rebuilt (R31, R397). -/
def holdsShare (c : EpCtx) : Bool := decide (c.cls = .gale) || c.galeKept

/-- Gale endpoints of a node, by direction: their MAXs node to hub, and hub to node. -/
def galeIn (s : State) (p node : Nat) : List Nat :=
  (List.range 32).filter fun e => let c := s.ep (epKey p node e); holdsShare c && c.inbound
def galeOut (s : State) (p node : Nat) : List Nat :=
  (List.range 32).filter fun e => let c := s.ep (epKey p node e); holdsShare c && !c.inbound

/-- Reply bytes of the Gale poll of a node: every Gale endpoint at its MAX (R180). -/
def galePollFr (s : State) (p node : Nat) : Nat :=
  9 + (galeIn s p node).foldl (fun a e => a + 4 + (s.ep (epKey p node e)).maxLen) 0

/-- The charge of one Gale node (R180). -/
def nodeCharge (s : State) (p node : Nat) : Nat :=
  (if (galeIn s p node).isEmpty then 0 else roundTrip s p 22 (galePollFr s p node)) +
    (galeOut s p node).foldl (fun a e => a + roundTrip s p (9 + (s.ep (epKey p node e)).maxLen) 5) 0

/-- Addresses of a port that hold a Gale endpoint. -/
def galeNodes (s : State) (p : Nat) : List Nat :=
  (s.eps.filter fun kv => kv.1 / 8192 == p && holdsShare kv.2).foldl (fun a kv => addNat a (kv.1 / 32 % 256)) []

/-- The Gale charge of a segment (R180). -/
def galeCharge (s : State) (p : Nat) (nodes : List Nat) : Nat :=
  let sum := nodes.foldl (fun a n => a + nodeCharge s p n) 0
  if nodes.isEmpty then 0
  else match segGen s p with
    | 3 => sum
    | 1 => sum + 143
    | 2 =>
      let tok := nodes.foldl (fun a n => a + (if (galeIn s p n).isEmpty then 0 else 22) +
        (galeOut s p n).foldl (fun a e => a + 9 + (s.ep (epKey p n e)).maxLen) 0) 11
      let k := nodes.foldl (fun a n => a + (if (galeIn s p n).isEmpty then 0 else 1) + (galeOut s p n).length) 0
      sum + plcaCycle s p tok k
    | _ => 0

/-- Do the admission limits of R29 hold for the Gale nodes of a segment. -/
def galeFits (s : State) (p : Nat) (nodes : List Nat) : Bool :=
  let c := galeCharge s p nodes
  match segGen s p with
  | 3 => decide (nodes.length ≤ 16) && decide (c ≤ 12500)
  | 2 => decide (nodes.length ≤ 8) && decide (c ≤ 5000)
  | 1 => decide (nodes.length ≤ 8) && decide (2 * c ≤ v1Rate s p) && decide (8000 ≤ v1Rate s p)
  | _ => false

/-- The admitted charge in force (SEG_BUDGET.GALE_BT): the shares as they stood at the last frame boundary (R31). -/
def galeBt (s : State) (p : Nat) : Nat := (s.seg p).shares.foldl (fun a x => a + x.2) 0

/-- DRAUGHT_CAP (R183); 0 while DISABLED. -/
def draughtCap (s : State) (p : Nat) : Nat :=
  let gale := !(s.seg p).shares.isEmpty
  if 48 ≤ p then 1024
  else if (s.seg p).st = 0 then 0
  else match segGen s p with
    | 3 => 1024
    | 2 => if gale then 400 else 1024
    | 1 => Nat.min 1024 ((if gale then v1Rate s p * 45 / 1100 else v1Rate s p * 9 / 110) - 21)
    | _ => 0

/-- The grid of R26: 125, 250, 500 µs and whole ms; the smallest grid value that is at least a time in µs. -/
def gridUp (us : Nat) : Nat :=
  if us ≤ 125 then 125 else if us ≤ 250 then 250 else if us ≤ 500 then 500 else ceilDiv us 1000 * 1000

/-- The largest grid value not above a time in µs (R26 step 1). -/
def gridDown (us : Nat) : Nat :=
  if us < 250 then 125 else if us < 500 then 250 else if us < 1000 then 500 else us / 1000 * 1000

/-- The generation minimum of R26. -/
def genMin (s : State) (p : Nat) : Nat := if segGen s p = 3 then 125 else 1000

/-- Breeze endpoints of a node that carry data node to hub and are served. -/
def breezeIn (s : State) (p node : Nat) : List Nat :=
  (List.range 32).filter fun e =>
    let c := s.ep (epKey p node e)
    decide (c.cls = .breeze) && c.inbound && c.enabled && !c.stopped && c.info.isSome

/-- The BUDGET of a round POLL (R184). -/
def covBudget (s : State) (p node : Nat) (eps : List Nat) : Nat :=
  let most := eps.foldl (fun a e => Nat.max a (s.ep (epKey p node e)).maxLen) 0
  let floor := if p < 48 then s.fld (Reg.SEG_SCHED p) Fld.SEG_SCHED_COV_BUDGET else 2
  Nat.min 128 (Nat.max floor (if eps.isEmpty then 0 else ceilDiv (4 + most) 8))

/-- The endpoint of the open session on a port that a node is a target of (R192). -/
def distEp (s : State) (p node : Nat) : Option Nat :=
  match (s.seg p).dist with
  | some d => if memNat d.targets node && !d.blocks.isEmpty then some d.ep else none
  | none => none

/-- Nodes polled once in a Breeze round: those not in Gale service, Gale nodes that have Breeze endpoints, and targets
of a distribution session that holds blocks (R184, R192). -/
def roundNodes (s : State) (p : Nat) : List Nat :=
  (servedOf s p).filter fun n =>
    !memNat (galeNodes s p) n || !(breezeIn s p n).isEmpty || (distEp s p n).isSome

/-- The BUDGET of a node's round POLL: 2 more while it is a target of held blocks (R184, R192). -/
def pollBudget (s : State) (p node : Nat) (eps : List Nat) : Nat :=
  Nat.min 128 (covBudget s p node eps + if (distEp s p node).isSome then 2 else 0)

/-- The overhead of the VFP-2 cycles that n polled nodes take, as many in a cycle as have a PLCA ID (R173, R179). -/
def cyclesCost (s : State) (p n : Nat) : Nat :=
  let m := Nat.max 1 (plcaCount s p - 1)
  n / m * plcaCycle s p (22 * m) m + if n % m = 0 then 0 else plcaCycle s p (22 * (n % m)) (n % m)

/-- The sum of the costs of a round's polls, each at its BUDGET, with the overhead of each VFP-2 cycle (R184, R192). -/
def roundCost (s : State) (p : Nat) : Nat :=
  (roundNodes s p).foldl (fun a n => a + roundTrip s p 22 (9 + 8 * pollBudget s p n (breezeIn s p n)))
    (if segGen s p = 2 then cyclesCost s p (roundNodes s p).length else 0)

/-- Bit times per ms outside Gale (R184). -/
def outsideGale (s : State) (p : Nat) : Nat :=
  match segGen s p with
  | 3 => 8 * (25000 - galeBt s p)
  | 2 => 10000 - galeBt s p
  | 1 => v1Rate s p - galeBt s p
  | _ => 1

/-- The round period in µs of a port that asks for a number of 125 µs units: the smallest grid value that is at least
that, the generation minimum and what the round's POLLs take of their share (R184). -/
def roundFor (s : State) (p asked : Nat) : Nat :=
  let load := if segGen s p = 0 then 0 else ceilDiv (roundCost s p * 10000) (7 * Nat.max 1 (outsideGale s p))
  Nat.min 65535000 (gridUp (Nat.max (asked * 125) (Nat.max (genMin s p) load)))

/-- The round period in µs; a link's node is polled each ms (R184). -/
def roundUs (s : State) (p : Nat) : Nat :=
  if 48 ≤ p then 1000 else roundFor s p (s.fld (Reg.SEG_SCHED p) Fld.SEG_SCHED_ROUND)

/-! ## Windows (R181, R182) -/

/-- The instant at which the next Gale window or SOF begins. -/
def nextWindow (s : State) (p : Nat) : Nat :=
  if segGen s p = 3 then s.fc.frameStart + (s.fc.slot + 1) * 125000 else s.fc.frameStart + 1000000

/-- The number of the present gust slot of VFP-3, or of the present frame, in which an endpoint gets one Gale OUT. -/
def windowNo (s : State) (p : Nat) : Nat :=
  if segGen s p = 3 then s.fc.frameNo * 8 + s.fc.slot else s.fc.frameNo * 8

/-- Does a node's traffic carry the security trailer (R152). -/
def secured (s : State) (p node : Nat) : Bool := (s.node (nodeKey p node)).authed

/-- Is a transaction Gale traffic. -/
def Txn.isGale (x : Txn) : Bool :=
  match x.kind with
  | .poll _ _ _ g => g
  | .outEp _ g _ => g
  | _ => false

/-- The longest answer to a transaction, in payload bytes (R182). -/
def Txn.answerMax (x : Txn) : Nat :=
  match x.kind with
  | .poll _ _ b _ => 8 * b
  | .bulkIn .. | .ctlIn => leAt x.payload.reverse 0 2
  | .statusIn => 1
  | _ => 0

/-- The cost of a transaction with its longest answer (R179). -/
def txnCost (s : State) (p : Nat) (x : Txn) : Nat :=
  let sec := secured s p x.node
  roundTrip s p (frameLen sec x.payload.length) (frameLen sec x.answerMax)

/-- Bit times of a VFP-2 cycle that adds a token of ft bytes to the batch in progress, with the polled nodes so far and k
more (R179). -/
def cycleCost (s : State) (p ft k : Nat) : Nat :=
  (s.seg p).cur.foldl (fun a w => a + txnCost s p w) 0 + plcaCycle s p ((s.seg p).batch + ft) ((s.seg p).cur.length + k)

/-- Does a transaction that is not Gale end before the next window; on VFP-2 with its batch and the overhead of its cycle
(R182) (DEDUCED, log entry 22). -/
def fits (s : State) (p : Nat) (x : Txn) : Bool :=
  let cost := txnCost s p x + if segGen s p = 2 then cycleCost s p (frameLen (secured s p x.node) x.payload.length) 1 else 0
  decide (48 ≤ p) || decide (s.fc.now + bitsNs s p cost ≤ nextWindow s p)

/-- Bit times of a token of n bytes without an answer, with the gap after it (R169 to R178). -/
def tokenCost (s : State) (p n : Nat) : Nat :=
  match segGen s p with
  | 3 => 24 * ceilDiv n 3 + 114
  | 2 => cycleCost s p n 0
  | _ => 11 * n + 22

/-- Does a token without an answer end before the next window (R182). -/
def tokenFits (s : State) (p payload : Nat) : Bool :=
  decide (48 ≤ p) || decide (s.fc.now + bitsNs s p (tokenCost s p (frameLen false payload)) ≤ nextWindow s p)

/-! ## Frames out -/

/-- The virtual channel of a VFP message to a stream node: that of the endpoint's class; a POLL is periodic traffic, control
and bulk travel on VC2 (R210, R216). -/
def vfpVc (s : State) (p : Nat) (x : Txn) : Nat :=
  match x.kind with
  | .poll .. => 1
  | .outEp e _ _ => classVc (s.ep (epKey p x.node e)).cls
  | _ => 2

/-- The descriptor that a transaction carries out (R223). -/
def txnDesc (s : State) (p : Nat) (x : Txn) : Option Nat :=
  match x.kind with
  | .outEp e _ false => (s.ep (epKey p x.node e)).sending.map (·.desc)
  | .bulkOut _ d | .bulkIn _ d => some d
  | .setup | .ctlOut | .ctlIn | .statusIn | .statusOut =>
    match (s.seg p).ctls.find? fun c => c.node == x.node with
    | some c => match c.owner with
      | .host d => some d
      | _ => none
    | none => none
  | _ => none

/-- The IV of a secured frame of the hub: direction 0, the address, two zeros, IDENTITY[31:0] and COUNTER (R152). -/
def hubIv (node identity ctr : Nat) : List Byte :=
  beBytes 1 0 ++ beBytes 1 node ++ beBytes 2 0 ++ beBytes 4 (identity % 2 ^ 32) ++ beBytes 4 ctr

/-- Build a frame for a node; a secured frame takes the next COUNTER, and its tag over header and payload under the
node's session key (R109, R152, R153). -/
def buildFrame (s : State) (p node tok ep : Nat) (toggle : Bool) (payload : List Byte) : State × List Byte :=
  let k := nodeKey p node
  let n := s.node k
  let sec := n.authed && node != 255 && !payload.isEmpty && tok != Tok.assign
  let ctr := n.txCtr + 1
  let f : Vfp := ⟨tok, toggle, false, sec, node, ep, payload, []⟩
  let tag := Config.gcmTag (BitVec.ofNat 256 n.sessKey) (hubIv node n.identity ctr) (vfpHeader f ++ payload)
  if sec then (s.setNode k { n with txCtr := ctr }, vfpEncode { f with trailer := beBytes 4 ctr ++ beBytes 8 tag.toNat })
  else (s, vfpEncode f)

/-- Put frames on the line of a segment, or in a VFP message to a stream node (R173, R231) (DESIGN CHOICE, log entry
84). -/
def putFrames (s : State) (p : Nat) (frames : List (List Byte)) (vc : Nat := 2) (desc : Option Nat := none) : State :=
  if frames.isEmpty then s
  else if p < 48 then segCnt (s.emit (.frame p frames.flatten)) p 0 frames.length
  else frames.foldl (fun s f => sendMsg s (p - 48) vc ⟨0x20, false, epTea s p 1 0, 0, 0, 0, 0, f⟩ desc) s

/-- After a RESET to a node address no token goes to it for 10 ms (R160). A RESET to 255 names no node address and starts
no such time (DEDUCED, log entry 88). -/
def noteReset (s : State) (p tok node : Nat) : State :=
  if tok = Tok.reset ∧ node ≠ 255 then s.modNode (nodeKey p node) fun n => { n with quietUntil := s.fc.now + 10000000 } else s

/-- Send a token that has no answer; SQUALL goes to a stream node on VC0 (R306) (DEDUCED, log entry 23). -/
def sendToken (s : State) (p tok node : Nat) (payload : List Byte) : State :=
  let z := buildFrame s p node tok 0 false payload
  putFrames (noteReset z.1 p tok node) p [z.2] (if tok = Tok.squall then 0 else 2)

/-- Send a token that waited for the line, as it was built or as it is built now. -/
def sendWaitingToken (s : State) (p : Nat) (k : Token) : State :=
  match k.frame with
  | some bs => putFrames (noteReset s p k.tok k.node) p [bs]
  | none => sendToken s p k.tok k.node k.payload

/-! ## Transactions -/

/-- The token, endpoint and toggle of a transaction (R114, R128). -/
def Txn.token (s : State) (p : Nat) (x : Txn) : Nat × Nat × Bool :=
  match x.kind with
  | .poll .. => (Tok.poll, 0, false)
  | .outEp e _ _ => (Tok.out, e, (s.ep (epKey p x.node e)).togOut)
  | .bulkOut e _ => (Tok.out, e, (s.ep (epKey p x.node e)).togOut)
  | .bulkIn e _ => (Tok.in_, e, (s.ep (epKey p x.node e)).togIn)
  | .setup => (Tok.setup, 0, false)
  | .ctlOut => (Tok.out, 0, true)
  | .ctlIn => (Tok.in_, 0, true)
  | .statusIn => (Tok.in_, 0, true)
  | .statusOut => (Tok.out, 0, true)
  | .probe e => (Tok.probe, e, false)
  | .duplicate _ => (Tok.probe, 0, false)
  | .assign _ => (Tok.assign, 0, false)

/-- The node a token is addressed to: an ASSIGN goes to 255 (R114). -/
def Txn.addressee (x : Txn) : Nat := match x.kind with
  | .assign _ => 255
  | _ => x.node

/-- A fresh transaction. -/
def mkTxn (kind : TxnKind) (node : Nat) (payload : List Byte) : Txn := ⟨kind, node, 0, 0, payload⟩

/-- What the first bit of an OUT settles: the rule's act time and whether its Gale action missed its bound (R37, R268),
and the delay of a Gale command of the host (R82). -/
def firstBit (s : State) (p : Nat) (x : Txn) : State :=
  match x.kind with
  | .outEp e _ true =>
    let k := epKey p x.node e
    match (s.ep k).ruleSending with
    | some w =>
      if w.actTime.isSome then s
      else
        let bound := match segGen s p with
          | 3 => if w.remote then 300000 else 280000
          | 2 => 2200000
          | _ => 2400000
        let miss := w.gale && decide ((s.ep k).cls = .gale) && decide (epCls s w.trigger = .gale) &&
          decide (bound < s.fc.now - w.capAt)
        let s1 := if miss then gstCnt (s.glb 1 1) 8 1 else s
        s1.modEp k fun c => { c with ruleSending := some { w with actTime := some (treeNs s), missed := miss } }
    | none => s
  | .outEp e _ false =>
    match (s.ep (epKey p x.node e)).sending with
    | some w =>
      match w.d.issueAt with
      | some t =>
        let bound := if isBranch s then 150000 else 145000
        if x.tries = 0 && segGen s p = 3 && decide (bound < s.fc.now - t) then
          if w.posted then s.glb 1 1 else modDesc s w.desc fun d => { d with late := true }
        else s
      | none => s
    | none => s
  | _ => s

/-- The first attempt of a control transfer or a bulk transfer starts its limit (R131). -/
def noteFirst (s : State) (p : Nat) (x : Txn) : State :=
  match x.kind with
  | .setup => s.modSeg p fun g => { g with ctls := g.ctls.map fun c =>
      if c.node == x.node && c.stage == 0 && c.setup == x.payload then { c with started := some (c.started.getD s.fc.now) } else c }
  | .bulkOut _ d | .bulkIn _ d => s.modSeg p fun g => { g with bulks := g.bulks.map fun b =>
      if b.desc == d then { b with first := some (b.first.getD s.fc.now) } else b }
  | _ => s

/-- The TOGGLE bits of a POLL (R117). -/
def toggleBits (s : State) (p node : Nat) : Nat :=
  bitmapOf ((List.range 32).filter fun e => (s.ep (epKey p node e)).togIn)

/-- The payload of a transaction as it goes out: a POLL carries the toggles the hub expects now (R117). -/
def Txn.bytesNow (s : State) (p : Nat) (x : Txn) : List Byte :=
  match x.kind with
  | .poll due force budget _ => beBytes 4 due ++ beBytes 4 force ++ beBytes 4 (toggleBits s p x.node) ++ beBytes 1 budget
  | _ => x.payload

/-- Is a transaction Breeze traffic: a round POLL or a periodic OUT that is not Gale. -/
def Txn.isBreeze (x : Txn) : Bool :=
  match x.kind with
  | .poll _ _ _ g => !g
  | .outEp _ g _ => !g
  | _ => false

/-- Build the frame of a transaction and put the transaction on the wire. Gale retries and Breeze traffic count against
their shares (R181, R185). -/
def launch (s : State) (p : Nat) (x : Txn) : State × List Byte :=
  let s1 := noteFirst (firstBit s p x) p x
  let t := x.token s p
  let z := buildFrame s1 p x.addressee t.1 t.2.1 t.2.2 (x.bytesNow s p)
  let y := { x with sentAt := s.fc.now }
  let s2 := z.1.modSeg p fun g => { g with
    cur := g.cur ++ [y], galeUsed := g.galeUsed + (if x.isGale && decide (0 < x.tries) then txnCost s p x else 0),
    breezeUsed := g.breezeUsed + if x.isBreeze then txnCost s p x else 0 }
  let s3 := match x.kind with
    | .assign _ | .duplicate _ => s2
    | _ => s2.modNode (nodeKey p x.node) fun n => { n with lastAddressed := s.fc.frameNo }
  (s3, z.2)

/-! ## What is next (R181, R185, R268) -/

/-- An item for the line: a transaction, a token without an answer, one built before, or a distribution block. -/
inductive Item where
  | txn (x : Txn)
  | token (tok node : Nat) (payload : List Byte)
  | built (k : Token)
  | block (ep : Nat) (payload : List Byte)

/-- The writes of an endpoint contest a slot: the rule write of lowest rank wins over other rules and over the host's
(R270). Losing rule writes are discarded; a losing host write is deferred, or discarded when it was deferred before
and is posted (R271) (DEDUCED, log entry 74). -/
def contest (s : State) (p node e : Nat) : State :=
  let k := epKey p node e
  let c := s.ep k
  let tea := epTea s p node e
  let rank := fun (w : RuleWrite) => w.ra % 65536 * 32 + w.ra / 65536
  match sortBy (fun a b => decide (rank a < rank b)) c.ruleWrites with
  | [] =>
    match c.hostWrites with
    | [] => s
    | w :: rest => s.setEp k { c with sending := some w, hostWrites := rest }
  | w :: losers =>
    let host := c.hostWrites.head?
    let discard := match host with
      | some h => h.posted && h.deferred
      | none => false
    let hw := match c.hostWrites with
      | [] => []
      | h :: rest => if discard then rest else { h with deferred := true } :: rest
    let s1 := s.setEp k { c with ruleSending := some w, ruleWrites := [], hostWrites := hw }
    let s2 := losers.foldl (fun s l => ruleOutcome (gstCnt s 5 1) tea l 3) s1
    let s3 := match host with
      | some _ => gstCnt s2 (if discard then 7 else 6) 1
      | none => s2
    if losers.isEmpty && host.isNone then s3
    else
      let s4 := gstInt (gstCnt (s3.glb 16 1) 4 1) 1
      let s5 := s4.wr Reg.GST_LAST_ARB (BitVec.ofNat 32 (2 ^ 31 + tea))
      if s5.flag Reg.GST_CTRL Fld.GST_CTRL_ARB_EVENT then
        let hcode := match host with
          | none => 0
          | some h => if discard then 3 else if h.posted then 1 else 2
        sysEventAt s5 0x0B tea w.capture
          (leBytes 4 w.ra ++ leBytes 2 losers.length ++ leBytes 1 hcode ++ leBytes 1 s.fc.slot ++ leBytes 4 s.fc.frameNo ++
            leBytes 4 ((host.map fun h => h.d.tag).getD 0) ++ leBytes 8 w.handed ++
            leBytes 8 ((host.map fun h => h.d.fetchTime).getD 0))
      else s5

/-- Does an endpoint have a write to send now. -/
def EpCtx.due (c : EpCtx) : Bool :=
  c.sending.isSome || c.ruleSending.isSome || !c.hostWrites.isEmpty || !c.ruleWrites.isEmpty

/-- Are frames to a node held: while its authentication is renewed (R153), and for 10 ms after a RESET to it (R160). -/
def nodeWaits (s : State) (p node : Nat) : Bool :=
  (s.node (nodeKey p node)).phase = .auth || decide (s.fc.now < (s.node (nodeKey p node)).quietUntil)

/-- Must a transaction in line wait for its node: the quiet time after a RESET, or the renewal of its authentication for
all but the control transfers that renew it (R153, R160). -/
def workWaits (s : State) (p : Nat) (x : Txn) : Bool :=
  let n := s.node (nodeKey p x.node)
  let ctl := match x.kind with
    | .setup | .ctlOut | .ctlIn | .statusIn | .statusOut => true
    | _ => false
  decide (s.fc.now < n.quietUntil) || (decide (n.phase = .auth) && !ctl)

/-- Was a descriptor fetched before the SEG block was held, or is the block not held (R163). -/
def goesHeld (s : State) (p desc : Nat) : Bool := !isHeld s 13 || decide (desc < (s.seg p).holdFrom)

/-- Has an endpoint a write that may go while the SEG block is held: a rule's, or a host write accepted before. -/
def heldWrite (s : State) (p : Nat) (c : EpCtx) : Bool :=
  !isHeld s 13 || c.sending.isSome || c.ruleSending.isSome || !c.ruleWrites.isEmpty ||
    c.hostWrites.any fun w => goesHeld s p w.desc

/-- The key under which a job of a node is held until the next frame. -/
def jobKey (p node ep : Nat) : Nat := 1048576 + epKey p node ep

/-- The keys of endpoints of a port with a write that can go now: Gale endpoints once in a slot or frame, the others
once in a frame (R180, R268) (DEDUCED, log entry 26). -/
def writersOf (s : State) (p : Nat) (gale : Bool) : List Nat :=
  let x := s.seg p
  (s.eps.filter fun kv => kv.1 / 8192 == p && decide (kv.2.cls = .gale) == gale && kv.2.due &&
    !kv.2.stopped && !kv.2.resetEpFirst && !memNat x.held kv.1 &&
    (gale || !memNat x.held (1048576 + kv.1)) && heldWrite s p kv.2 && !nodeWaits s p (kv.1 / 32 % 256) && kv.2.outSlot != some (windowNo s p) &&
    (s.node (kv.1 / 32)).phase == .served && !(x.cur ++ x.work).any (fun w => match w.kind with
      | .outEp e _ _ => w.node == kv.1 / 32 % 256 && e == kv.1 % 32
      | .probe e => w.node == kv.1 / 32 % 256 && e == kv.1 % 32
      | _ => false)).map (·.1)

/-- Take the OUT of an endpoint, or the PROBE that must come before it (R125, R134). Endpoints with a rule's write go
first. -/
def takeOut (s : State) (p : Nat) (gale : Bool) : Option (State × Txn) :=
  let l := writersOf s p gale
  let r := l.filter fun k => !(s.ep k).ruleWrites.isEmpty || (s.ep k).ruleSending.isSome
  match (r ++ l).head? with
  | none => none
  | some k =>
    let node := k / 32 % 256
    let e := k % 32
    let c := s.ep k
    if c.probeFirst || c.askToggle then
      some (s.modEp k fun c => { c with outSlot := some (windowNo s p) }, mkTxn (.probe e) node [])
    else
      let s1 := if c.sending.isSome || c.ruleSending.isSome then s else contest s p node e
      let c1 := s1.ep k
      let s2 := s1.modEp k fun c => { c with outSlot := some (windowNo s p) }
      match c1.ruleSending, c1.sending with
      | some w, _ => some (s2, mkTxn (.outEp e gale true) node w.data)
      | none, some w => some (s2, mkTxn (.outEp e gale false) node w.data)
      | none, none => none

/-- Drop the first transaction of the work list that meets a test. -/
def dropFirst (q : Txn → Bool) : List Txn → List Txn
  | [] => []
  | x :: r => if q x then r else x :: dropFirst q r

/-- May a Gale transaction go now: on VFP-3 a retry only while the slot's Gale charge, with the retries before it and
itself, stays within the share (R133, R181). -/
def galeRoom (s : State) (p : Nat) (x : Txn) : Bool :=
  x.isGale && !workWaits s p x &&
    (x.tries == 0 || segGen s p != 3 || decide (galeBt s p + (s.seg p).galeUsed + txnCost s p x ≤ 12500))

/-- The first Gale transaction of the work list that may go. -/
def takeGaleWork (s : State) (p : Nat) : Option (State × Txn) :=
  match (s.seg p).work.find? (galeRoom s p) with
  | some x => some (s.modSeg p fun g => { g with work := dropFirst (galeRoom s p) g.work }, x)
  | none => none

/-- The first Breeze, or the first other transaction that is not Gale, of the work list that fits. -/
def takeWork (s : State) (p : Nat) (breeze : Bool) : Option (State × Txn) :=
  let q := fun (x : Txn) => !x.isGale && x.isBreeze == breeze && !workWaits s p x && fits s p x
  match (s.seg p).work.find? q with
  | some x => some (s.modSeg p fun g => { g with work := dropFirst q g.work }, x)
  | none => none

/-! ### Draught (R183, R185, R187) -/

/-- The transaction of a control transfer's stage (R117, R127, R128). -/
def ctlStage (c : Ctl) : Txn :=
  let inward := bitOf (byteAt c.setup 0) 7
  match c.stage with
  | 0 => mkTxn .setup c.node c.setup
  | 1 => if inward then mkTxn .ctlIn c.node (beBytes 2 (Nat.max 1 c.askLen)) else mkTxn .ctlOut c.node c.out
  | _ => if inward && c.askLen != 0 then mkTxn .statusOut c.node [] else mkTxn .statusIn c.node (beBytes 2 1)

/-- What a control transfer puts on the line: its stage, or before an OUT the PROBE that a NYET of endpoint 0 asks for
(R125). -/
def ctlTxn (s : State) (p : Nat) (c : Ctl) : Txn :=
  let t := ctlStage c
  match t.kind with
  | .ctlOut | .statusOut => if (s.ep (epKey p c.node 0)).probeFirst then mkTxn (.probe 0) c.node [] else t
  | _ => t

/-- The order key of a control transfer: the hub's own first, then fetch order (R129, R185). -/
def Ctl.order (c : Ctl) : Nat := match c.owner with
  | .host d => d + 1
  | _ => 0

/-- Is a control transfer the one its node runs: the first of the node in order (R129). -/
def ctlFirst (x : Seg) (c : Ctl) : Bool :=
  match x.ctls.find? fun d => d.node == c.node && d.started.isSome && d.order == 0 with
  | some d => d == c
  | none => match x.ctls.find? fun d => d.node == c.node && d.started.isSome with
    | some d => d == c
    | none => (x.ctls.filter fun d => d.node == c.node).all fun d => decide (c.order ≤ d.order)

/-- Is a transaction of a control transfer of a node on the wire or in the work list. -/
def ctlBusy (x : Seg) (node : Nat) : Bool :=
  (x.cur ++ x.work).any fun w => w.node == node && (match w.kind with
    | .setup | .ctlOut | .ctlIn | .statusIn | .statusOut => true
    | .probe e => e == 0
    | _ => false)

/-- The hub's own control transfer that can go now. -/
def takeHubCtl (s : State) (p : Nat) : Option (State × Txn) :=
  let x := s.seg p
  (x.ctls.find? fun c => c.order == 0 && ctlFirst x c && !ctlBusy x c.node && !memNat x.held (jobKey p c.node 0) &&
    decide ((s.node (nodeKey p c.node)).quietUntil ≤ s.fc.now) && fits s p (ctlTxn s p c)).map fun c => (s, ctlTxn s p c)

/-- The next host job in fetch order: control, bulk, or a distribution block not sent yet (R185, R192). -/
def takeHostJob (s : State) (p : Nat) : Option (State × Item) :=
  let x := s.seg p
  let q := (queued (queueJobs x)).1
  let ctl := (x.ctls.filter fun c => c.order != 0 && ctlFirst x c && !ctlBusy x c.node && !nodeWaits s p c.node &&
    !memNat x.held (jobKey p c.node 0) && memNat q (c.order - 1) && goesHeld s p (c.order - 1) && fits s p (ctlTxn s p c)).map fun c =>
      (c.order - 1, Item.txn (ctlTxn s p c))
  let bulk := (x.bulks.filter fun b => (b.isIn || memNat q b.desc) && goesHeld s p b.desc && !memNat x.held (jobKey p b.node b.ep) &&
      !nodeWaits s p b.node && !(x.cur ++ x.work).any (fun w => match w.kind with
        | .bulkOut e _ | .bulkIn e _ | .probe e => w.node == b.node && e == b.ep
        | _ => false)).map fun b =>
      let c := s.ep (epKey p b.node b.ep)
      let t := if (c.probeFirst || c.askToggle) && !b.isIn then mkTxn (.probe b.ep) b.node []
        else if b.isIn then mkTxn (.bulkIn b.ep b.desc) b.node (beBytes 2 (Nat.max 1 b.len))
        else mkTxn (.bulkOut b.ep b.desc) b.node b.data
      (b.desc, Item.txn t)
  let blk := match x.dist with
    | some d => ((d.blocks.filter fun b => !b.sent && memNat q b.desc && goesHeld s p b.desc && !memNat x.held (jobKey p 255 d.ep)).take
        1).map fun b => (b.desc, Item.block d.ep (blockPayload b))
    | none => []
  let ok := (ctl ++ bulk ++ blk).filter fun j => match j.2 with
    | .txn t => fits s p t
    | .block _ pl | .token _ _ pl => tokenFits s p pl.length
    | .built _ => true
  match (sortBy (fun u v => decide (u.1 < v.1)) ok).head? with
  | none => none
  | some j => match j.2 with
    | .block _ _ => some (s.modSeg p fun g => { g with dist := g.dist.map fun d => { d with
        blocks := d.blocks.map fun b => if b.desc == j.1 then { b with sent := true } else b } }, j.2)
    | _ => some (s, j.2)

/-- The TIME token (R117, R290, R291). -/
def timePayload (s : State) : List Byte :=
  beBytes 4 s.fc.frameNo ++ beBytes 8 (treeNsAt s s.fc.frameStart) ++ beBytes 2 (s.tt.time % 65536) ++
    beBytes 1 (s.tt.eff.code + 8 * b2n s.tt.absolute)

/-- The DISCOVER payload (R117). -/
def discoverPayload (s : State) (p : Nat) : List Byte :=
  beBytes 1 (s.fld (Reg.SEG_DISCOVER p) Fld.SEG_DISCOVER_SWEEP) ++ beBytes 1 (b2n (s.seg p).reannounce) ++
    beBytes 1 (s.fld (Reg.SEG_DISCOVER p) Fld.SEG_DISCOVER_SPREAD)

/-- May a DISCOVER sweep start now: the DISCOVER fits, and on VFP-3 its line frame of 150 bit times and its response
slots end before the next gust slot (R176, R182, R186). -/
def sweepFits (s : State) (p : Nat) : Bool :=
  if segGen s p = 3 then decide (s.fc.now + 750 + 45600 ≤ nextWindow s p) else tokenFits s p 3

/-- When the response slots of a sweep have passed (R186): 16 slots after the DISCOVER on VFP-3, the 16 frames after it on
VFP-1, 16 PLCA cycles on VFP-2, each batch and HELLO on the line making its cycle longer (DEDUCED, log entry 23). -/
def sweepEnd (s : State) (p : Nat) : Nat :=
  match segGen s p with
  | 3 => s.fc.now + 750 + 45600
  | 1 => s.fc.frameStart + 17000000
  | _ => s.fc.now + 16 * bitsNs s p (20 + 32 * plcaCount s p)

/-- Bit times added to the PLCA cycles of a sweep on VFP-2. -/
def sweepLonger (s : State) (p bits : Nat) : State :=
  if segGen s p = 2 then s.modSeg p fun g => { g with sweeping := g.sweeping.map fun t => t + bitsNs s p bits } else s

/-- Start a sweep: SWEEP advances (R117, R140). -/
def startSweep (s : State) (p : Nat) : State :=
  (s.bumpFld (Reg.SEG_DISCOVER p) Fld.SEG_DISCOVER_SWEEP).modSeg p fun g => { g with
    sweepDue := false, sweeping := some (sweepEnd s p), sweepFrame := s.fc.frameNo, corrupt := [], helloSeen := false }

/-- Is the response slot of this frame still open: on VFP-1 a sweep has one in each of its frames, from 2 character times
after the SOF on, 28 wide, and nothing else starts before it is over (R181, R186). -/
def slotOpen (s : State) (p : Nat) : Bool :=
  segGen s p == 1 && (s.seg p).sweeping.isSome && (s.seg p).sweepFrame != s.fc.frameNo &&
    decide (s.fc.now < s.fc.frameStart + bitsNs s p (143 + 11 * 30))

/-- The ASSIGN of the next HELLO in slot order, or the PROBE of an attached identity that comes before it (R143, R145);
the address 0 has no answer. -/
def helloItem (s : State) (p : Nat) (h : HelloWait) : Item :=
  let pl := beBytes 8 h.identity ++ beBytes 1 h.addr ++ beBytes 1 (b2n h.quarantine + 2 * b2n (s.seg p).secure)
  if h.probe then .txn (mkTxn (.duplicate h.addr) h.addr [])
  else if h.addr = 0 then .token Tok.assign 255 pl else .txn (mkTxn (.assign h.addr) h.addr pl)

/-- May an item go before the next window (R182). -/
def Item.fits (s : State) (p : Nat) : Item → Bool
  | .txn x => Sys2Proof.Machine.fits s p x && !workWaits s p x
  | .token _ _ pl | .block _ pl => tokenFits s p pl.length
  | .built k => tokenFits s p k.payload.length

/-- Is a transaction on the wire or in line that belongs to a HELLO. -/
def helloBusy (x : Seg) : Bool :=
  (x.cur ++ x.work).any fun w => match w.kind with
    | .assign _ | .duplicate _ => true
    | _ => false

/-- The next broadcast OUT, which completes its WRITE_EP as it goes (R126). -/
def takeBroadcast (s : State) (p : Nat) : Option (State × Item) :=
  match (s.seg p).bcast with
  | b :: rest =>
    if goesHeld s p b.2.desc && tokenFits s p b.2.data.length then
      some (completeId (s.modSeg p fun g => { g with bcast := rest }) b.2.desc Status.accepted b.2.data.length,
        .token (Tok.out + 16 * b.1) 255 b.2.data)
    else none
  | [] => none

/-- The next Draught item in the order of R185; each waits until it fits (R182). RESET goes first, and the broadcast OUT
of a WRITE_EP, which the order does not name, after the hub's own transfers and before the host's (DEDUCED, log entry
88). -/
def takeDraught (s : State) (p : Nat) : Option (State × Item) :=
  let x := s.seg p
  match x.tokens with
  | k :: rest =>
    if (Item.built k).fits s p then some (s.setSeg p { x with tokens := rest }, .built k) else none
  | [] =>
    if x.timeDue && tokenFits s p 15 then some (s.setSeg p { x with timeDue := false }, .token Tok.time 255 (timePayload s))
    else if x.sweepDue && x.sweeping.isNone && x.hellos.isEmpty && sweepFits s p then
      let s1 := startSweep s p
      some (s1, .token Tok.discover 255 (discoverPayload s1 p))
    else match x.hellos with
      | h :: rest =>
        let it := helloItem s p h
        if helloBusy x || !it.fits s p then none
        else some (if h.addr = 0 && !h.probe then s.setSeg p { x with hellos := rest } else s, it)
      | [] => match takeHubCtl s p with
        | some z => some (z.1, .txn z.2)
        | none => match takeBroadcast s p with
          | some z => some z
          | none => takeHostJob s p

/-- May the segment carry traffic: ACTIVE, or HELD and still serving (R162, R163); a stream node while its link is up. -/
def segRuns (s : State) (p : Nat) : Bool :=
  if p < 48 then ((s.seg p).st == 3 || (s.seg p).st == 5) && !(s.seg p).lost else (s.link (p - 48)).st == 8 && (s.link (p - 48)).cls == 3

/-- What Breeze may take of a round in bit times: 70 % of F over the round (R185). -/
def breezeShare (s : State) (p : Nat) : Nat := outsideGale s p * roundUs s p * 7 / 10000

/-- The next Breeze transaction: an OUT, then polls and their retries. -/
def takeBreeze (s : State) (p : Nat) : Option (State × Txn) :=
  match takeOut s p false with
  | some z => if fits s p z.2 then some z else takeWork s p true
  | none => takeWork s p true

/-- The next Draught item: retries, then what is next in the order of R185. -/
def takeDraughtNext (s : State) (p : Nat) : Option (State × Item) :=
  match takeWork s p false with
  | some z => some (z.1, .txn z.2)
  | none => takeDraught s p

/-- Breeze goes before Draught while it has room in its share of the round, after it otherwise (R185). -/
def takeRest (s : State) (p : Nat) : Option (State × Item) :=
  match takeBreeze s p with
  | none => takeDraughtNext s p
  | some z =>
    if 48 ≤ p ∨ (s.seg p).breezeUsed + txnCost s p z.2 ≤ breezeShare s p then some (z.1, .txn z.2)
    else match takeDraughtNext s p with
      | some d => some d
      | none => some (z.1, .txn z.2)

/-- The next item for the line (R181, R185, R268). On VFP-2 and VFP-1 the Gale OUTs go with the frame's Gale traffic
(DEDUCED, log entry 22); the first batch of a VFP-2 frame carries nothing but it. -/
def nextItem (s : State) (p : Nat) (galeOnly : Bool) : Option (State × Item) :=
  let x := s.seg p
  if (segGen s p = 3 && x.sweeping.isSome) || slotOpen s p then none
  else match (if segGen s p = 3 then takeOut s p true else none) with
    | some z => some (z.1, .txn z.2)
    | none => match takeGaleWork s p with
      | some z => some (z.1, .txn z.2)
      | none => if galeOnly then none else takeRest s p

/-- Put an item on the line; a broadcast OUT carries its endpoint above its token. -/
def putItem (s : State) (p : Nat) : Item → State × List Byte
  | .txn x => launch s p x
  | .token tok node pl => buildFrame s p node (tok % 16) (tok / 16) false pl
  | .built k =>
    match k.frame with
    | some bs => (noteReset s p k.tok k.node, bs)
    | none => let z := buildFrame s p k.node k.tok 0 false k.payload; (noteReset z.1 p k.tok k.node, z.2)
  | .block ep pl => buildFrame s p 255 Tok.out ep false pl

/-- The virtual channel of an item for a stream node, and the descriptor it carries. -/
def Item.vc (s : State) (p : Nat) : Item → Nat
  | .txn x => vfpVc s p x
  | _ => 2
def Item.desc (s : State) (p : Nat) : Item → Option Nat
  | .txn x => txnDesc s p x
  | _ => none

/-- The node an item waits for. -/
def Item.waitsFor : Item → Option Nat
  | .txn x => some x.node
  | _ => none

/-! ### Cut-through (R187 to R189) -/

/-- Does a frame of a transaction come from the bookmark queue: it carries a payload of control or bulk (R187) (DEDUCED,
log entry 24). -/
def Txn.queuedFrame (x : Txn) : Bool :=
  match x.kind with
  | .setup | .ctlOut | .bulkOut .. => !x.payload.isEmpty
  | _ => false

/-- The key under which an item whose frame comes from the bookmark queue waits; none for the others. -/
def Item.queueKey (p : Nat) : Item → Option Nat
  | .txn x => if x.queuedFrame then some (match x.kind with
      | .bulkOut e _ => jobKey p x.node e
      | _ => jobKey p x.node 0) else none
  | .block ep _ => some (jobKey p 255 ep)
  | _ => none

/-- An underrun of a frame of n bytes: the bytes that went out before one was missing. A frame starts with CUT_THROUGH
bytes of it present, or whole when it is shorter (R189); how the fabric fills the rest is a free value (DESIGN CHOICE,
log entry 24). -/
def underrun (s : State) (p n : Nat) (it : Item) : State × Option Nat :=
  let cut := s.fld (Reg.SEG_BQ_CFG p) Fld.SEG_BQ_CFG_CUT_THROUGH
  if 48 ≤ p ∨ (it.queueKey p).isNone ∨ n ≤ cut then (s, none)
  else
    let z := s.fresh
    match Config.underrunAt z.1 with
    | some k => (z.2, if cut ≤ k ∧ k < n then some k else none)
    | none => (z.2, none)

/-- A session whose block with a payload is not sent yet. -/
def unsent (pl : List Byte) (d : Dist) : Dist :=
  { d with blocks := d.blocks.map fun b => if blockPayload b == pl then { b with sent := false } else b }

/-- The transmitter ends a frame invalid, rewinds, and sends the frame again in a later frame; no attempt is charged
(R189). -/
def underran (s : State) (p : Nat) (it : Item) (sent : List Byte) : State :=
  let s1 := (s.emit (.invalidFrame p sent)).modSeg p fun g => { g with
    held := match it.queueKey p with
      | some k => addNat g.held k
      | none => g.held,
    dist := match it with
      | .block _ pl => g.dist.map (unsent pl)
      | _ => g.dist }
  segInt (segCnt (segCnt s1 p 0 1) p 5 1) p 2

/-- Fill the line of a segment: tokens go out until a transaction waits for its answer; on VFP-2 one batch carries a
token for each of several nodes, the first one of a frame Gale traffic alone (R173, R181) (DEDUCED, log entry 22). -/
def segFill : Nat → State → Nat → List (List Byte) → Bool → State
  | 0, s, p, fs, _ => putBatch s p fs
  | fuel + 1, s, p, fs, first =>
    let x := s.seg p
    if !segRuns s p then putBatch s p fs
    else if !x.cur.isEmpty && segGen s p != 2 then putBatch s p fs
    else if decide (plcaCount s p ≤ x.cur.length + 1) && segGen s p == 2 then putBatch s p fs
    else match nextItem s p first with
      | none => putBatch s p fs
      | some (s1, it) =>
        if segGen s p = 2 && (match it.waitsFor with
            | some n => x.cur.any fun w => w.node == n
            | none => false) then putBatch s p fs
        else
          let z := putItem s1 p it
          let u := underrun s1 p z.2.length it
          match u.2 with
          | some k =>
            let s2 := underran u.1 p it (fs.flatten ++ z.2.take k)
            if segGen s p = 2 then s2 else segFill fuel s2 p [] first
          | none =>
            let s2 := { z.1 with freeCtr := u.1.freeCtr }
            if segGen s p = 2 then
              segFill fuel (s2.modSeg p fun g => { g with batch := g.batch + z.2.length }) p (fs ++ [z.2]) first
            else segFill fuel (putFrames s2 p [z.2] (it.vc s1 p) (it.desc s1 p)) p [] first
where
  /-- Send what has been gathered: on VFP-2 one batch, whose cycle makes a running sweep longer. -/
  putBatch (s : State) (p : Nat) (fs : List (List Byte)) : State :=
    let s1 := if fs.isEmpty then s else sweepLonger s p (cycleCost s p 0 0 - 20)
    (putFrames s1 p fs).modSeg p fun g => { g with batch := 0 }

/-- Serve a port whose line is free (DEDUCED, log entry 22). -/
def segKick (s : State) (p : Nat) : State :=
  if (s.seg p).cur.isEmpty && segRuns s p then segFill 512 s p [] false else s

/-- Serve every port whose line is free (DEDUCED, log entry 22). -/
def settle (s : State) : State := forEach s.segs s fun s kv => segKick s kv.1

end Sys2Proof.Machine
end

