-- ==== Sys2Proof/Machine/Attach.lean ====
section
/-! DEFINITION. Attach and the Catalogue (R140 to R149), authentication (R151), and the control transfers the hub makes
for them. -/
namespace Sys2Proof.Machine

/-! ## The Catalogue (R144, R147) -/

/-- The entry of an identity on a port. -/
def catOn (s : State) (p identity : Nat) : Option CatEntry :=
  s.catalogue.find? fun e => e.port == p && e.identity == identity

/-- The entry of an identity on any other port of the segments. -/
def catElsewhere (s : State) (p identity : Nat) : Option CatEntry :=
  s.catalogue.find? fun e => e.port != p && e.identity == identity

/-- The entry that holds an address on a port. -/
def catAt (s : State) (p addr : Nat) : Option CatEntry :=
  s.catalogue.find? fun e => e.port == p && e.addr == addr && addr != 0

/-- Is an address of a port promised to a node that an approval moves there (R150). -/
def promised (s : State) (p addr : Nat) : Bool := (nodesOf s p).any fun n => (s.node (nodeKey p n)).moveTo == addr

/-- The lowest address that no entry on the port holds; 0 when none is free. -/
def freeAddr (s : State) (p : Nat) : Nat :=
  ((List.range 254).map (· + 1)).find? (fun a => (catAt s p a).isNone && !promised s p a) |>.getD 0

/-- Are all Catalogue entries in use. -/
def catFull (s : State) : Bool := decide (12192 ≤ s.catalogue.length)

/-- Is an entry kept in the settings store: approved, denied or with a pinned key (R147). -/
def CatEntry.kept (e : CatEntry) : Bool := decide (e.st ≠ .quarantined) || e.keyFp.isSome

/-- The settings store takes the entries it keeps; not while it is read-only (R147, R354). -/
def catSave (s : State) : State :=
  if s.nvm.settingsRo then s else s.modNvm fun n => { n with catalogue := s.catalogue.filter CatEntry.kept }

/-- Add or replace the entry of an identity on a port. -/
def catPut (s : State) (e : CatEntry) : State :=
  catSave (if (catOn s e.port e.identity).isSome then
    { s with catalogue := s.catalogue.map fun x => if x.port == e.port && x.identity == e.identity then e else x }
  else { s with catalogue := s.catalogue ++ [e] })

/-- Remove the entry of an identity on a port. -/
def catDrop (s : State) (p identity : Nat) : State :=
  catSave { s with catalogue := s.catalogue.filter fun x => !(x.port == p && x.identity == identity) }

/-- Count a quarantine (R154). -/
def countQuarantine (s : State) : State := (s.glb 14 1).glb 13 1

/-- STRANGER causes (STRANGER data). -/
def Stranger.unknown : Nat := 1
def Stranger.authFail : Nat := 2
def Stranger.keyMismatch : Nat := 3
def Stranger.otherPort : Nat := 4
def Stranger.noAddress : Nat := 5
def Stranger.duplicate : Nat := 6
def Stranger.invalidId : Nat := 7
def Stranger.foreign : Nat := 8
def Stranger.noise : Nat := 9
def Stranger.denied : Nat := 10
def Stranger.catalogueFull : Nat := 11

/-- Would a HELLO of an identity be admitted by the port's policy (R148). -/
def autoApproved (x : Seg) (identity : Nat) : Bool :=
  x.policy == 1 || (x.policy == 2 && identity / 2 ^ 32 == x.pfx)

/-- Put a HELLO in line for its ASSIGN. -/
def waitAssign (s : State) (p : Nat) (h : Hello) (addr : Nat) (quarantine isNew : Bool) : State :=
  s.modSeg p fun x => { x with
    hellos := x.hellos ++ [⟨h.identity, h.gen, h.caps, h.epCount, addr, quarantine, isNew, false⟩] }

/-- Refuse a HELLO with ADDRESS 0 and a STRANGER event. -/
def refuse (s : State) (p : Nat) (h : Hello) (cause : Nat) : State :=
  waitAssign (strangerEvent (s.glb 13 1) p cause h.gen 0 0 h.identity) p h 0 false false

/-- Quarantine an identity on a port under an address. -/
def quarantineAs (s : State) (p : Nat) (h : Hello) (cause : Nat) : State :=
  if catFull s then refuse s p h Stranger.catalogueFull
  else
    let a := freeAddr s p
    if a = 0 then refuse s p h Stranger.noAddress
    else waitAssign (countQuarantine (catPut s ⟨h.identity, p, a, .quarantined, none, cause⟩)) p h a true true

/-- The address assigned to a HELLO, by the rows of R144. -/
def chooseAddress (s : State) (p : Nat) (h : Hello) : State :=
  if h.identity = 0 ∨ h.identity = 2 ^ 64 - 1 then refuse s p h Stranger.invalidId
  else match catOn s p h.identity with
    | some e =>
      match e.st with
      | .approved => waitAssign s p h e.addr false false
      | .preApproved =>
        if e.addr ≠ 0 then waitAssign s p h e.addr false true
        else
          let a := freeAddr s p
          if a = 0 then refuse s p h Stranger.noAddress
          else waitAssign (catPut s { e with addr := a }) p h a false true
      | .quarantined => waitAssign s p h e.addr true false
      | .denied => waitAssign s p h 0 false false
    | none =>
      match catElsewhere s p h.identity with
      | some _ => quarantineAs s p h Stranger.otherPort
      | none =>
        if autoApproved (s.seg p) h.identity then
          if catFull s then refuse s p h Stranger.catalogueFull
          else
            let a := freeAddr s p
            if a = 0 then refuse s p h Stranger.noAddress
            else waitAssign (catPut s ⟨h.identity, p, a, .approved, none, 0⟩) p h a false true
        else quarantineAs s p h Stranger.unknown

/-! ## The hub's own control transfers (R129, R138) -/

/-- A SETUP payload (R117). -/
def setupBytes (reqType request value index length : Nat) : List Byte :=
  beBytes 1 reqType ++ beBytes 1 request ++ beBytes 2 value ++ beBytes 2 index ++ beBytes 2 length

/-- Queue a control transfer of the hub to a node. -/
def hubCtl (s : State) (p node : Nat) (owner : CtlOwner) (setup out : List Byte) (len : Nat) : State :=
  s.modSeg p fun x => { x with ctls := x.ctls ++ [⟨owner, node, setup, out, 0, none, [], len⟩] }

/-- RESET_EP of an endpoint (R138, R397) (DESIGN CHOICE, log entry 27). -/
def resetEp (s : State) (p node e : Nat) : State := hubCtl s p node (.hubResetEp e) (setupBytes 0x01 0x02 0 e 0) [] 0

/-- GET_ENDPOINTS: the whole entries that fit under DRAUGHT_CAP (R138, R183). -/
def readEndpoints (s : State) (p node : Nat) : State :=
  let n := (s.node (nodeKey p node)).epCount
  let fit := Nat.min (8 * n) (draughtCap s p / 8 * 8)
  let s1 := s.modNode (nodeKey p node) fun x => { x with phase := .endpoints, truncated := decide (fit < 8 * n) }
  hubCtl s1 p node .hubEndpoints (setupBytes 0x80 0x0A 0 0 fit) [] fit

/-- Start the authentication of a node: AUTH_CHALLENGE with a fresh key and nonce (R151). Without randomness it fails
(R373). In a renewal the frames stay under the key in force until the node has passed (R152). -/
def startAuth (s : State) (p node : Nat) : State :=
  let z := (s.bump (Reg.SEC_CNT 4) 1).fresh
  let data := beBytes 64 (Config.ephKey z.1).toNat ++ beBytes 16 (Config.nonce z.1).toNat
  hubCtl (z.2.modNode (nodeKey p node) fun x => { x with phase := .auth, authNo := z.1 }) p node .hubChallenge
    (setupBytes 0x00 0x20 0 0 80) data 80

/-- Queue a RESET with MODE 1 to an address; for a node that is authenticated it is built now, under its key (R146, R152).
No token goes to the address for 10 ms after it (R160). -/
def queueReset (s : State) (p node : Nat) : State :=
  let z := buildFrame s p node Tok.reset 0 false [1]
  let f := if (s.node (nodeKey p node)).authed then some z.2 else none
  z.1.modSeg p fun x => { x with tokens := x.tokens ++ [⟨Tok.reset, node, [1], f⟩] }

/-- RESET with MODE 1 takes an address away (R143, R146). -/
def resetNode (s : State) (p node : Nat) : State :=
  let s1 := queueReset s p node
  endTransfers s1 p node Status.nodeAbsent |>.setNode (nodeKey p node) Node.reset

/-- A failed attach step: the node is unassigned and reset (R146) (DESIGN CHOICE, log entry 27). -/
def attachFailed (s : State) (p node : Nat) : State :=
  resetNode (approvalsEnd s (s.node (nodeKey p node)) Status.nodeAbsent) p node

/-- Steps 3 and 4 of R146: ATTACH, or STRANGER for a quarantined node; service from the next frame boundary. -/
def attachDone (s : State) (p node : Nat) : State :=
  let k := nodeKey p node
  let n := s.node k
  let s1 := s.setNode k { n with phase := .ready, endpointsAgain := false, serveAt := s.fc.frameNo + 1, goodNow := true, lastGood := s.fc.frameNo,
                                 lastAddressed := s.fc.frameNo }
  if n.quarantined then
    let cause := ((catOn s p n.identity).map fun e => e.cause).getD Stranger.unknown
    strangerEvent s1 p cause n.gen node 0 n.identity
  else
    let s2 := match catOn s1 p n.identity with
      | some e => catPut s1 { e with st := .approved, addr := node }
      | none => s1
    let s3 := attachEvent s2 p node
    (approvalsEnd s3 n Status.done).modNode k fun x => { x with approve := [] }

/-- A stream node is gone from its link port. -/
def streamClear (s : State) (p : Nat) : State :=
  (s.setNode (nodeKey p 1) Node.reset).modSeg p fun x => { x with
    st := 0, work := [], cur := [], ctls := [], bulks := [], stateFrame := s.fc.frameNo }

/-- Do the first bytes of SHA-384 over the partner's key equal LNK_KEY_FP (R232). -/
def keyMatches (s : State) (l : Nat) : Bool :=
  let fp := beBytes 16 (s.link l).keyFp
  (List.range 4).all fun i => decide ((s.rd (Reg.LNK_KEY_FP l i)).toNat = leAt fp (4 * i) 4)

/-- Approval of a stream node by LNK_POLICY (R232). -/
def streamApproval (s : State) (p : Nat) : State :=
  let l := p - 48
  match s.fld (Reg.LNK_POLICY l) Fld.LNK_POLICY_POLICY with
  | 1 => attachDone s p 1
  | 2 => if keyMatches s l then attachDone s p 1 else refuseLink (streamClear s p) l 0x0A
  | _ => attachDone (countQuarantine ((s.modNode (nodeKey p 1) fun n => { n with quarantined := true }).modLink l
      fun k => { k with quarantined := true })) p 1

/-- A node failed its authentication: quarantined, after a DETACH when it was attached (R151). A result of
CRYPTO_REJECT counts in GLB_CNT22 as a CRYPTO_REJECT completion does, once (R372, R373) (DEDUCED, log entry 29). -/
def authFailed (s : State) (p node cause : Nat) (rejected : Bool) : State :=
  let k := nodeKey p node
  let n := s.node k
  let s0 := if !rejected then s else if n.approve.isEmpty then cryptoResult s else secInt s 1
  let s1 := approvalsEnd s0 n Status.cryptoReject
  let n1 := { n with approve := [], moveTo := 0 }
  let s2 := s1.setNode k n1
  let s3 := if n.endpointsAgain && !n.quarantined then
      (detachNode s2 p node 7).setNode k { n1 with lastAddressed := s.fc.frameNo }
    else s2
  let s4 := match catOn s3 p n.identity with
    | some e => catPut s3 { e with st := .quarantined, cause := cause }
    | none => s3
  attachDone ((countQuarantine s4).modNode k fun m => { m with
    quarantined := true, authed := false, endpointsAgain := false }) p node

/-! ## GET_ENDPOINTS data (R138, R139, R146) -/

/-- One GET_ENDPOINTS entry. -/
def readEntry (bs : List Byte) : Nat × EpDesc :=
  (byteAt bs 0, ⟨bitsOf (byteAt bs 1) 6 2, bitOf (byteAt bs 1) 5, beAt bs 2 2, beAt bs 4 2, bitOf (byteAt bs 6) 1⟩)

/-- The entries of GET_ENDPOINTS data, whole ones only. -/
def readEntries : Nat → List Byte → List (Nat × EpDesc)
  | 0, _ => []
  | fuel + 1, bs => if bs.length < 8 then [] else readEntry (bs.take 8) :: readEntries fuel (bs.drop 8)

/-- Judge held configuration against an endpoint's entry (R139): a kind that is not periodic leaves it non-periodic, Gale
without the capability becomes Breeze. -/
def judgeEp (c : EpCtx) : EpCtx :=
  match c.info with
  | none => c
  | some i =>
    if c.periodic && i.kind != 1 then { c with cls := .draught, intervalUs := 0 }
    else if decide (c.cls = .gale) && !i.galeCapable then { c with cls := .breeze } else c

/-- Take in the entries of a node; held configuration is judged against them when the node comes into service (R139).
An entry that names an endpoint above 31 is left out (DESIGN CHOICE, log entry 88). -/
def takeEntries (s : State) (p node : Nat) (data : List Byte) : State :=
  let es := (readEntries data.length data).filter fun x => decide (x.1 < 32)
  let s0 := forEach (List.range 32) s fun s e =>
    if es.any fun x => x.1 == e then s else s.modEp (epKey p node e) fun c => { c with info := none }
  let s1 := forEach es s0 fun s x => s.modEp (epKey p node x.1) fun c => { c with info := some x.2 }
  s1.modNode (nodeKey p node) fun n => { n with epCount := es.length }

/-! ## After an ASSIGN (R143, R146) -/

/-- The node of an identity that is being moved to an address of its port (R150). -/
def movingTo (s : State) (p addr : Nat) : Option Nat :=
  (nodesOf s p).find? fun n => n != addr && (s.node (nodeKey p n)).moveTo == addr

/-- A node that an approval moved answers from its new address: what was known of it goes there, and the attach ends
(R150). -/
def moved (s : State) (p old addr : Nat) : State :=
  let n := s.node (nodeKey p old)
  let s1 := forEach (List.range 32) s fun s e => s.modEp (epKey p addr e) fun c => { c with info := (s.ep (epKey p old e)).info }
  let s2 := (s1.setNode (nodeKey p old) Node.reset).setNode (nodeKey p addr) { n with moveTo := 0, rxCtr := 0, txCtr := 0 }
  attachDone s2 p addr

/-- A node answered its ASSIGN: every toggle is 0 and the attach goes on (R132, R143, R146). -/
def assigned (s : State) (p : Nat) (h : HelloWait) : State :=
  let s1 := clearEps (s.modSeg p fun x => { x with
    hellos := x.hellos.drop 1, ctls := x.ctls.filter fun c => !(c.node == h.addr && c.order == 0) }) p h.addr
  let st := (catOn s p h.identity).map fun e => e.st
  match movingTo s p h.addr with
  | some old => moved s1 p old h.addr
  | none =>
    let n : Node := { Node.reset with
      quietUntil := (s.node (nodeKey p h.addr)).quietUntil, identity := h.identity, gen := h.gen, caps := h.caps, epCount := h.epCount, phase := .assigned,
      quarantined := h.quarantine, returned := !h.isNew, autoApproved := h.isNew && (st == some CatSt.approved),
      lastGood := s.fc.frameNo, lastAddressed := s.fc.frameNo }
    readEndpoints (s1.setNode (nodeKey p h.addr) n) p h.addr

/-- An ASSIGN that no attempt got an ACK for: RESET with MODE 1; the node is left to the next sweep (R143). An
approval that moved it ends with it (DESIGN CHOICE, log entry 27). -/
def assignFailed (s : State) (p : Nat) (h : HelloWait) : State :=
  let s1 := queueReset (s.modSeg p fun x => { x with hellos := x.hellos.drop 1 }) p h.addr
  match movingTo s p h.addr with
  | some old => attachFailed s1 p old
  | none => s1

/-- After an approval: the node moves to its address by ASSIGN when that differs, or the attach ends here (R150). -/
def approvedHere (s : State) (p node : Nat) : State :=
  let n := s.node (nodeKey p node)
  if n.moveTo ≠ 0 ∧ n.moveTo ≠ node then
    s.modSeg p fun x => { x with hellos := x.hellos ++ [⟨n.identity, n.gen, n.caps, n.epCount, n.moveTo, false, false, false⟩] }
  else attachDone (s.modNode (nodeKey p node) fun n => { n with moveTo := 0 }) p node

/-- After GET_ENDPOINTS: authentication on a secure segment, quarantined or not, or the end of the attach (R146, R150). -/
def afterEndpoints (s : State) (p node : Nat) : State :=
  let n := s.node (nodeKey p node)
  if 48 ≤ p then streamApproval s p
  else if (s.seg p).secure && !n.authed then
    if capSecure n.caps && !s.trngBad then startAuth s p node
    else authFailed s p node Stranger.authFail (capSecure n.caps)
  else approvedHere (if n.approve.isEmpty then s else s.modNode (nodeKey p node) fun m => { m with quarantined := false }) p node

/-- The HELLO whose PROBE has ended: it leaves the line, and what it gets takes its place (R143, R145). -/
def probedHello (s : State) (p addr : Nat) : Option HelloWait := (s.seg p).hellos.find? fun h => h.probe && h.addr == addr

/-- The last HELLO in line comes first: it takes the place of the one it was probed for (R143). -/
def lastFirst (s : State) (p : Nat) : State :=
  s.modSeg p fun x => { x with hellos := x.hellos.drop (x.hellos.length - 1) ++ x.hellos.take (x.hellos.length - 1) }

/-- The answer of the PROBE that a HELLO of an attached identity calls for: a duplicate is refused; without one the node
has restarted (R145). -/
def duplicateAnswer (s : State) (p : Nat) (w : HelloWait) (answered : Bool) : State :=
  let h : Hello := ⟨w.identity, w.gen, w.caps, 0, w.epCount⟩
  let s1 := s.modSeg p fun g => { g with hellos := g.hellos.filter fun y => !(y == w) }
  lastFirst (if answered then refuse s1 p h Stranger.duplicate else chooseAddress (detachNode s1 p w.addr 3) p h) p

/-! ## Sweeps (R140, R142) -/

/-- Set the sweep interval. -/
def setInterval (s : State) (p ms : Nat) : State := s.setFld (Reg.SEG_DISCOVER p) Fld.SEG_DISCOVER_INTERVAL_MS ms

/-- The sweep's response slots have passed: SPREAD, the repeat, the interval and NOISE (R140, R142). The repeat comes 2
frames after the sweep, on VFP-1 after its last slot (R186); the sweeps of a burst do not lengthen the interval. -/
def sweepDone (s : State) (p : Nat) : State :=
  let x := s.seg p
  let n := x.corrupt.length
  let noise := s.flag (Reg.SEG_DISCOVER p) Fld.SEG_DISCOVER_NOISE
  let sp := s.fld (Reg.SEG_DISCOVER p) Fld.SEG_DISCOVER_SPREAD
  let run := if n ≠ 0 ∧ !x.helloSeen then x.corruptRun + 1 else 0
  let enter := !noise && decide (8 ≤ run)
  let noise1 := (noise || enter) && !x.helloSeen
  let s1 := s.setFlag (Reg.SEG_DISCOVER p) Fld.SEG_DISCOVER_NOISE noise1
  let s2 := if n ≠ 0 ∧ !noise1 then s1.setFld (Reg.SEG_DISCOVER p) Fld.SEG_DISCOVER_SPREAD
      (if 8 ≤ n then Nat.min 7 (sp + 1) else if n ≤ 2 then sp - 1 else sp) else s1
  let isEmpty := !x.helloSeen && (n == 0 || noise1) && !x.burstRun
  let empties := if isEmpty then x.empty + 1 else 0
  let ms := s.fld (Reg.SEG_DISCOVER p) Fld.SEG_DISCOVER_INTERVAL_MS
  let grow := decide (16 ≤ empties) && x.burst == 0
  let s3 := if x.helloSeen then setInterval s2 p 100 else if grow then setInterval s2 p (Nat.min 10000 (2 * ms)) else s2
  let s4 := if enter then strangerEvent s3 p Stranger.noise 0 0 0 0 else s3
  s4.modSeg p fun y => { y with
    sweeping := none, corruptRun := run, empty := if grow then 0 else empties, reannounce := false,
    burstRun := false,
    repeatAt := if n ≠ 0 ∧ !noise1 then some (x.sweepFrame + if segGen s p = 1 then 18 else 2) else none }

/-- End a sweep whose slots have passed. -/
def sweepCheck (s : State) (p : Nat) : State :=
  match (s.seg p).sweeping with
  | some t => if t ≤ s.fc.now + 1000 then sweepDone s p else s
  | none => s

/-- A corrupt slot of the sweep (R142). -/
def corruptSlot (s : State) (p slot : Nat) : State :=
  segCnt s p 2 1 |>.modSeg p fun y => { y with corrupt := addNat y.corrupt slot }

/-- A HELLO, or a corrupt frame in its slot, received during a sweep: every valid HELLO gets one ASSIGN in slot order, one
with the identity of an attached node after the PROBE of it (R142 to R145). While the SEG block is held no new HELLO is
answered (R163). -/
def takeHello (s : State) (p slot : Nat) (r : Read) : State :=
  if isHeld s 13 then s
  else match r with
    | .ok f =>
      if f.ftype = 6 then
        let h := readHello f.payload
        let s1 := setInterval (segCnt s p 1 1) p 100 |>.modSeg p fun y => { y with helloSeen := true }
        let s2 := bump64 s1 (Reg.SEG_CNT p 6) (Reg.SEG_CNT p 7) f.payload.length
        match catOn s2 p h.identity with
        | some e =>
          if e.addr ≠ 0 ∧ nodeThere s2 p e.addr ∧ (s2.node (nodeKey p e.addr)).identity = h.identity then
            s2.modSeg p fun y => { y with
              hellos := y.hellos ++ [⟨h.identity, h.gen, h.caps, h.epCount, e.addr, false, false, true⟩] }
          else chooseAddress s2 p h
        | none => chooseAddress s2 p h
      else corruptSlot s p slot
    | _ => corruptSlot s p slot

/-- The response slot in which a frame began, where its row names none: by its first bit on VFP-3, by its frame on VFP-1;
on VFP-2 the next slot not corrupt so far, since PLCA cycles carry no number (R186) (DESIGN CHOICE, log entry 88). -/
def slotOf (s : State) (p since : Nat) : Nat :=
  let x := s.seg p
  match segGen s p with
  | 3 => Nat.min 15 ((s.fc.now - since + 45600 - x.sweeping.getD 0) / 2850)
  | 1 => Nat.min 15 (s.fc.frameNo - x.sweepFrame - 1)
  | _ => Nat.min 15 x.corrupt.length

end Sys2Proof.Machine
end

