-- ==== Sys2Proof/Machine/Judge.lean ====
section
/-! DEFINITION. Attempts and failures: retries within the frame (R133), failed frames of nodes, endpoints and writes
(R134 to R136), and the judgement of a frame at its end. -/
namespace Sys2Proof.Machine

/-! ## The transaction leaves the wire -/

/-- Take a transaction off the wire (DEDUCED, log entry 24). -/
def offWire (s : State) (p : Nat) (x : Txn) : State :=
  s.modSeg p fun g => { g with cur := dropFirst (fun y => y == x) g.cur }

/-- Put a transaction at the head of the work list; a Gale retry goes behind the Gale polls (R181). -/
def putBack (s : State) (p : Nat) (x : Txn) : State :=
  s.modSeg p fun g => { g with work := if x.isGale then g.work ++ [x] else x :: g.work }

/-- Hold a key back until the next frame boundary. -/
def holdKey (s : State) (p key : Nat) : State := s.modSeg p fun g => { g with held := addNat g.held key }

/-! ## Exhausted transactions (R133 to R135) -/

/-- A node's frame has failed: counted once, and the node's bit in SEG_FAILING (R133) (DEDUCED, log entry 30). -/
def nodeFailed (s : State) (p node : Nat) : State :=
  let k := nodeKey p node
  let n := s.node k
  if n.phase = .absent || n.failedNow then s
  else
    let s1 := (segCnt s p 4 1).setNode k { n with failedNow := true, failing := true }
    if !n.failing && decide (p < 48) then segInt s1 p 0 else s1

/-- A write has used up its attempts in this frame; in its eighth consecutive failed frame it ends NO_RESPONSE, and a
PROBE takes the toggle before the next OUT (R134) (DEDUCED, log entry 30). -/
def writeExhausted (s : State) (p node e : Nat) : State :=
  let k := epKey p node e
  let c := s.ep k
  if c.writeFailedNow then s
  else
    let n := c.writeFails + 1
    if n < 8 then s.setEp k { c with writeFails := n, writeFailedNow := true }
    else
      let s1 := s.setEp k { c with
        writeFails := 0, writeFailedNow := true, probeFirst := true, askToggle := true, sending := none,
        ruleSending := none }
      let s2 := match c.sending with
        | some w => hostOutcome s1 w (some Status.noResponse)
        | none => s1
      match c.ruleSending with
      | some w => ruleOutcome s2 (epTea s p node e) w 6
      | none => s2

/-- Mark an endpoint whose poll or IN failed every attempt (R135). -/
def pollFailed (s : State) (p node e : Nat) : State :=
  s.modEp (epKey p node e) fun c => { c with failedNow := true }

/-- A transaction failed every attempt of this frame (R133). -/
def exhausted (s : State) (p : Nat) (x : Txn) : State :=
  match x.kind with
  | .assign _ => match (s.seg p).hellos with
    | h :: _ => assignFailed s p h
    | [] => s
  | .duplicate a =>
    match probedHello s p a with
    | some h => duplicateAnswer s p h false
    | none => s
  | .poll due _ _ _ => forEach (bitList 32 due) (nodeFailed s p x.node) fun s e => pollFailed s p x.node e
  | .outEp e _ _ => holdKey (writeExhausted (nodeFailed s p x.node) p x.node e) p (epKey p x.node e)
  | .bulkIn e _ => holdKey (pollFailed (nodeFailed s p x.node) p x.node e) p (jobKey p x.node e)
  | .bulkOut e _ => holdKey (nodeFailed s p x.node) p (jobKey p x.node e)
  | .probe e => holdKey (holdKey (nodeFailed s p x.node) p (epKey p x.node e)) p (jobKey p x.node e)
  | .setup | .ctlOut | .ctlIn | .statusIn | .statusOut => holdKey (nodeFailed s p x.node) p (jobKey p x.node 0)

/-- No answer of a bulk transfer was NAK last (R131). -/
def notNaked (s : State) (p : Nat) (x : Txn) : State :=
  match x.kind with
  | .bulkOut _ d | .bulkIn _ d => s.modSeg p fun g => { g with bulks := g.bulks.map fun b =>
      if b.desc == d then { b with naked := false } else b }
  | _ => s

/-- An attempt failed: it is repeated up to 3 times within the frame; a queued frame rewinds after every failed attempt
(R133, R188). -/
def failAttempt (s : State) (p : Nat) (x : Txn) : State :=
  let s1 := segCnt (offWire (notNaked s p x) p x) p 3 1
  let s2 := if x.queuedFrame then segCnt s1 p 5 1 else s1
  if x.tries < 3 then putBack s2 p { x with tries := x.tries + 1 } else exhausted s2 p x

/-- The frame ends before a transaction used all its attempts: the rest of them did not fit, and it has failed. -/
def cutShort (s : State) (p : Nat) (x : Txn) : State :=
  exhausted (s.modSeg p fun g => { g with work := dropFirst (fun y => y == x) g.work }) p x

/-- A valid answer of a node (R136). -/
def goodNode (s : State) (p node : Nat) : State :=
  s.modNode (nodeKey p node) fun n => if n.phase = .absent then n else
    { n with goodNow := true, lastGood := s.fc.frameNo, wakeFirst := false }

/-- An endpoint was served by a valid answer. -/
def goodEp (s : State) (p node e : Nat) : State :=
  s.modEp (epKey p node e) fun c => { c with goodNow := true }

/-- A valid reply: counted with its payload, and the transaction leaves the wire (R194). -/
def answered (s : State) (p : Nat) (x : Txn) (n : Nat) : State :=
  let s1 := segCnt (offWire s p x) p 1 1
  let s2 := if p < 48 then bump64 s1 (Reg.SEG_CNT p 6) (Reg.SEG_CNT p 7) n else s1
  goodNode s2 p x.node

/-! ## The end of a frame (R135, R136) -/

/-- Judge the endpoints of a node for the frame: those that failed for the eighth time in a row are stalled by error
(R135) (DEDUCED, log entry 30). -/
def judgeEps (s : State) (p node : Nat) : State :=
  let ks := (List.range 32).filter fun e => let c := s.ep (epKey p node e); c.failedNow || c.goodNow || c.writeFailedNow
  let s1 := forEach ks s fun s e => s.modEp (epKey p node e) fun c => { c with
    failFrames := if c.goodNow then 0 else if c.failedNow then c.failFrames + 1 else c.failFrames,
    failedNow := false, goodNow := false, writeFailedNow := false }
  haltEps s1 p node 0x10 (ks.filter fun e => decide (8 ≤ (s1.ep (epKey p node e)).failFrames))

/-- Judge a node for the frame: detached after 8 frames that addressed it without a valid answer (R136, R159)
(DEDUCED, log entry 30). -/
def judgeNode (s : State) (p node : Nat) : State :=
  let k := nodeKey p node
  let n := s.node k
  if n.lastAddressed ≠ s.fc.frameNo then s
  else
    let fails := if n.goodNow then 0 else if n.failedNow then n.failFrames + 1 else n.failFrames
    let s1 := s.setNode k { n with failFrames := fails, failing := n.failedNow, failedNow := false, goodNow := false }
    if 8 ≤ fails && nodeThere s p node then detachNode s1 p node (if n.wakeFirst then 6 else 1)
    else judgeEps s1 p node

/-- Judge every node of a port at the end of a frame (DEDUCED, log entry 30). -/
def judgeFrame (s : State) (p : Nat) : State := forEach (nodesOf s p) s fun s n => judgeNode s p n

end Sys2Proof.Machine
end

