-- ==== Sys2Proof/Machine/Answer.lean ====
section
/-! DEFINITION. Answers of nodes: samples (R117 to R123, R262, R269), handshakes (R124, R125), control and bulk stages
(R128 to R130), distribution status (R193), authentication (R151). -/
namespace Sys2Proof.Machine

/-! ## Samples -/

/-- SENSE to the root, for an endpoint the root has subscribed to (R269). -/
def senseUp (s : State) (tea capture : Nat) (data : List Byte) : State :=
  if !isBranch s then s
  else match s.subs.find tea with
    | some g => sendMsg (gstCnt s 9 1) upLink (if g then 0 else 1) ⟨5, false, tea, 0, 0, 1, capture, data⟩
    | none => s

/-- The sample of an endpoint in the reserve tier goes to the region before its record (R247). -/
def reserveSample (s : State) (k : Nat) (data : List Byte) : State :=
  if (s.ep k).reserve && !isBranch s then
    match activeFn s with
    | some f => s.emit (.reserve f k data)
    | none => s
  else s

/-- Accept a sample: rules are evaluated against the previous value, the sample is stored, its record is written (R262,
R267). -/
def acceptSample (s : State) (p node e : Nat) (data : List Byte) (capture capAt tq : Nat) : State :=
  let k := epKey p node e
  let tea := epTea s p node e
  let s1 := gustEval s tea (s.ep k).sample (some data) capture capAt
  let s2 := senseUp s1 tea capture data
  let s3 := s2.modEp k fun c => { c with
    sample := some data, sampleCap := capture, sampleTq := tq, lastSample := s.fc.now, epochRecs := c.epochRecs + 1,
    force := false }
  sampleEvent (reserveSample s3 k data) tea capture capAt tq data

/-- AGE in ns (R123). -/
def ageNs (a : Nat) : Nat := if bitOf a 15 then a % 32768 * 100000 else a * 100

/-- The capture instant of a COV entry on the frame clock, and whether AGE gave it (R123). -/
def captureAt (s : State) (p : Nat) (x : Txn) (since age : Nat) : Nat × Bool :=
  if capAge (s.node (nodeKey p x.node)).caps && age != 0xFFFF then (s.fc.now - since - ageNs age, true)
  else (x.sentAt, false)

/-! ## Distribution (R192, R193) -/

/-- Does a target hold a block, by its last status: BASE is the lowest block it lacks, MAP the blocks from BASE on. -/
def Dist.holds (d : Dist) (node block : Nat) : Bool :=
  match d.status.find node with
  | some (base, map) => decide (block < base) || (decide (block < base + 32) && bitOf map (block - base))
  | none => false

/-- Do all remaining targets hold a block that was sent. -/
def Dist.allHold (d : Dist) (b : DistBlock) : Bool := b.sent && d.targets.all fun n => d.holds n b.block

/-- The session is closed: what it still holds is withdrawn (R193) (DEDUCED, log entry 38). -/
def distClose (s : State) (p : Nat) : State :=
  match (s.seg p).dist with
  | none => s
  | some d =>
    let s1 := (d.blocks.filter fun b => !b.done).foldl (fun s b => completeId s b.desc Status.withdrawn 0) s
    let s2 := s1.modSeg p fun x => { x with dist := none }
    if p < 48 then segInt s2 p 4 else s2

/-- Blocks that every remaining target holds complete; those at the head leave the queue. A LAST block that completes
closes the session (R193). -/
def distSettle (s : State) (p : Nat) : State :=
  match (s.seg p).dist with
  | none => s
  | some d =>
    let now := d.blocks.filter fun b => !b.done && d.allHold b
    let s1 := now.foldl (fun s b => completeId s b.desc Status.done 0) s
    let marked := d.blocks.map fun b => if d.allHold b then { b with done := true } else b
    let s2 := s1.modSeg p fun x => { x with dist := some { d with blocks := marked.dropWhile fun b => b.done } }
    if now.any (·.last) then distClose s2 p else s2

/-- After a status collection: blocks held everywhere complete; blocks out of ROUNDS end NO_RESPONSE and drop the
targets that lack them; every block from the oldest missing one on is sent again (R193) (DEDUCED, log entry 38). -/
def distCollect (s : State) (p : Nat) : State :=
  let s1 := distSettle s p
  match (s1.seg p).dist with
  | none => s1
  | some d =>
    let lacks := fun (b : DistBlock) => b.sent && !b.done
    let spent := d.blocks.filter fun b => lacks b && decide (b.limit ≤ b.rounds)
    let lost := d.targets.filter fun n => spent.any fun b => !d.holds n b.block
    let s2 := spent.foldl (fun s b =>
      completeId s b.desc Status.noResponse (d.targets.filter fun n => !d.holds n b.block).length) s1
    let kept := d.blocks.filter fun b => !(lacks b && decide (b.limit ≤ b.rounds))
    let d1 := { d with targets := d.targets.filter (fun n => !memNat lost n), dropped := d.dropped + lost.length, asked := [] }
    let again := kept.any fun b => lacks b && !d1.allHold b
    let head := kept.takeWhile fun b => !(lacks b && !d1.allHold b)
    let tail := (kept.dropWhile fun b => !(lacks b && !d1.allHold b)).map fun b =>
      if b.sent then { b with sent := false, rounds := b.rounds + 1 } else b
    let s3 := s2.modSeg p fun x => { x with dist := some { d1 with blocks := head ++ tail } }
    let s4 := if again then segCnt s3 p 5 1 else s3
    distSettle (if spent.any (·.last) then distClose s4 p else s4) p

/-- A target's status entry (R192); when every remaining target has reported in this round, the blocks are judged. -/
def distStatus (s : State) (p node : Nat) (data : List Byte) : State :=
  match (s.seg p).dist with
  | none => s
  | some d =>
    let d1 := { d with status := d.status.insert node (beAt data 0 4, beAt data 4 4), asked := addNat d.asked node }
    let s1 := s.modSeg p fun x => { x with dist := some d1 }
    if d1.targets.all fun n => memNat d1.asked n then distCollect s1 p else s1

/-! ## COV (R119 to R123) -/

/-- One entry of a COV: discarded when it was not due, a duplicate by its toggle, a halt, a distribution status or a
sample (R121, R122, R192). Answers the endpoints reported as halted. -/
def takeEntry (s : State) (p : Nat) (x : Txn) (due since : Nat) (halts : List Nat) (e : CovEntry) :
    State × List Nat :=
  let k := epKey p x.node e.ep
  let c := s.ep k
  if !bitOf due e.ep then (s, halts)
  else if e.toggle != c.togIn then (s.glb 12 1, halts)
  else
    let s1 := s.setEp k { c with togIn := !c.togIn }
    if e.halted then (s1, halts ++ [e.ep])
    else if distEp s p x.node == some e.ep then (distStatus s1 p x.node e.data, halts)
    else
      let a := captureAt s p x since e.age
      (acceptSample s1 p x.node e.ep e.data (treeNsAt s a.1) a.1 (tqNow s a.2), halts)

/-- A COV answers a POLL. -/
def takeCov (s : State) (p : Nat) (x : Txn) (due since : Nat) (es : List CovEntry) : State :=
  let s1 := forEach (bitList 32 due) s fun s e => goodEp s p x.node e
  let z := es.foldl (fun (acc : State × List Nat) e => takeEntry acc.1 p x due since acc.2 e) (s1, [])
  haltEps z.1 p x.node 0x11 z.2

/-! ## Authentication (R151) -/

/-- A node passed: session key, counters, pinned key; then the attach, an approval or the service goes on (R151 to
R153). A node that is quarantined for another cause and not being approved stays so; its key is pinned by the approval
that follows (R150, R151). -/
def authPassed (s : State) (p node key : Nat) : State :=
  let k := nodeKey p node
  let n := s.node k
  let stays := n.quarantined && n.approve.isEmpty
  let s1 := match catOn s p n.identity with
    | some e => if e.keyFp.isNone && !stays then catPut s { e with keyFp := some (Config.keyFp key).toNat } else s
    | none => s
  let s2 := s1.setNode k { n with
    authed := true, rxCtr := 0, txCtr := 0, quarantined := stays,
    sessKey := (Config.sessionKey n.authNo (BitVec.ofNat 512 key) (BitVec.ofNat 64 n.identity)).toNat,
    approvedNow := !stays && (n.approvedNow || n.quarantined || !n.approve.isEmpty), endpointsAgain := false }
  if stays then attachDone s2 p node
  else if n.endpointsAgain && !n.quarantined then
    approvalsEnd (s2.modNode k fun m => { m with
      phase := .ready, serveAt := s.fc.frameNo + 1, approve := [], approvedNow := false }) n Status.done
  else approvedHere s2 p node

/-! ## Control transfers (R128, R129, R132, R138) -/

/-- A node leaves its control transfer. -/
def dropCtl (s : State) (p : Nat) (c : Ctl) : State :=
  s.modSeg p fun x => { x with ctls := x.ctls.filter fun d => !(d == c) }

/-- Change the running control transfer of a node. -/
def modCtl (s : State) (p : Nat) (c d : Ctl) : State :=
  s.modSeg p fun x => { x with ctls := x.ctls.map fun y => if y == c then d else y }

/-- The control transfer a node runs: the one that has begun (R129). -/
def runningCtl (s : State) (p node : Nat) : Option Ctl :=
  let x := s.seg p
  x.ctls.find? fun c => c.node == node && ctlFirst x c

/-- Standard request and its index (R138). -/
def Ctl.request (c : Ctl) : Option (Nat × Nat) :=
  if bitsOf (byteAt c.setup 0) 5 2 = 0 then some (byteAt c.setup 1, beAt c.setup 4 2) else none

/-- What a completed standard request does at the hub (R132, R135, R138): endpoints return to service at the next frame
boundary. -/
def ctlEffect (s : State) (p : Nat) (c : Ctl) : State :=
  match c.request with
  | some (1, e) => holdKey (clearEp s p c.node (e % 32)) p (epKey p c.node (e % 32))
  | some (2, e) => holdKey (clearEp s p c.node (e % 32)) p (epKey p c.node (e % 32))
  | some (3, _) => s.modNode (nodeKey p c.node) fun n => { n with wakeEn := beAt c.setup 2 2 != 0 }
  | some (9, _) =>
    let s1 := clearEps s p c.node
    match c.owner with
    | .host _ =>
      let n := s1.node (nodeKey p c.node)
      if n.phase = .absent then s1
      else readEndpoints (s1.setNode (nodeKey p c.node) { n with endpointsAgain := nodeThere s1 p c.node }) p c.node
    | _ => s1
  | _ => s

/-- Bytes moved in the data stage. -/
def Ctl.movedLen (c : Ctl) : Nat := if bitOf (byteAt c.setup 0) 7 then c.moved.length else c.out.length

/-- GET_ENDPOINTS has been read (R138, R139, R146). -/
def endpointsRead (s : State) (p node : Nat) (data : List Byte) : State :=
  let s1 := takeEntries s p node data
  let n := s1.node (nodeKey p node)
  if n.endpointsAgain && n.approve.isEmpty then
    s1.setNode (nodeKey p node) { n with phase := .ready, serveAt := s.fc.frameNo + 1, endpointsAgain := false }
  else afterEndpoints s1 p node

/-- GET_CAPS of a stream node has been read: CAPS, then GET_ENDPOINTS (R232). -/
def capsRead (s : State) (p node : Nat) (data : List Byte) : State :=
  let h := readHello data
  readEndpoints (s.modNode (nodeKey p node) fun n => { n with caps := h.caps, epCount := h.epCount }) p node

/-- A stream node without valid GET_CAPS data is refused with cause ROLE (R232). -/
def refuseStream (s : State) (p : Nat) : State :=
  refuseLink (streamClear s p) (p - 48) 7

/-- A control transfer has completed its status stage. -/
def ctlDone (s : State) (p : Nat) (c : Ctl) : State :=
  let s1 := ctlEffect (dropCtl s p c) p c
  match c.owner with
  | .host d =>
    match inFlight s1 d with
    | some x => complete (if bitOf (byteAt c.setup 0) 7 then hostWrite s1 x c.moved else s1) x Status.done c.movedLen
    | none => s1
  | .hubEndpoints => endpointsRead s1 p c.node c.moved
  | .hubCaps => if c.moved.length < 16 then refuseStream s1 p else capsRead s1 p c.node c.moved
  | .hubChallenge => hubCtl s1 p c.node .hubResponse (setupBytes 0x80 0x21 0 0 128) [] 128
  | .hubResponse =>
    let v := byteAt c.moved 0
    let key := beAt (c.moved.drop 1) 0 64
    let fits := match catOn s1 p (s1.node (nodeKey p c.node)).identity with
      | some e => e.keyFp.all fun f => f == (Config.keyFp key).toNat
      | none => true
    let s2 := if c.moved.length < 129 then s1 else s1.bump (Reg.SEC_CNT 1) 1
    if v == 0 && fits then authPassed (s2.bump (Reg.SEC_CNT 3) 1) p c.node key
    else
      let s3 := if v = 1 ∧ 129 ≤ c.moved.length then cryptoFailed s2
        else if v = 3 then s2.bump (Reg.SEC_CNT 5) 1 else s2
      authFailed s3 p c.node (if v = 0 then Stranger.keyMismatch else Stranger.authFail) (v == 3)
  | .hubResetEp e => clearEp s1 p c.node e

/-- A control transfer ended without success: the host's completes with a status; a step of an attach has failed
(DESIGN CHOICE, log entry 27). -/
def ctlFailed (s : State) (p : Nat) (c : Ctl) (st : Status) : State :=
  let s1 := dropCtl s p c
  let s2 := s1.modSeg p fun x => { x with
    work := x.work.filter fun w => !(w.node == c.node && ctlKind w), cur := x.cur.filter fun w => !(w.node == c.node && ctlKind w),
    voided := x.voided || x.cur.any fun w => w.node == c.node && ctlKind w }
  match c.owner with
  | .host d => completeId s2 d st
  | .hubEndpoints => if (s2.node (nodeKey p c.node)).endpointsAgain then readEndpoints s2 p c.node
      else attachFailed s2 p c.node
  | .hubCaps => refuseStream s2 p
  | .hubChallenge => authFailed s2 p c.node Stranger.authFail false
  | .hubResponse => authFailed s2 p c.node Stranger.authFail false
  | .hubResetEp e => if nodeThere s2 p c.node then resetEp s2 p c.node e else s2
where
  /-- Is a transaction one of a control transfer. -/
  ctlKind (w : Txn) : Bool := match w.kind with
    | .setup | .ctlOut | .ctlIn | .statusIn | .statusOut => true
    | _ => false

/-- A stage of the control transfer of a node was answered: the next stage, or the end (R128). -/
def ctlNext (s : State) (p : Nat) (c : Ctl) : State :=
  let inward := bitOf (byteAt c.setup 0) 7
  let hasData := if inward then c.askLen != 0 else !c.out.isEmpty
  if c.stage = 0 then modCtl s p c { c with stage := if hasData then 1 else 2, started := some (c.started.getD s.fc.now) }
  else if c.stage = 1 then modCtl s p c { c with stage := 2 }
  else ctlDone s p c

/-- The bulk transfer a transaction moves. -/
def bulkOf (s : State) (p desc : Nat) : Option Bulk := (s.seg p).bulks.find? fun b => b.desc == desc

/-- Take a bulk transfer off its port. -/
def dropBulk (s : State) (p desc : Nat) : State :=
  s.modSeg p fun x => { x with bulks := x.bulks.filter fun b => b.desc != desc }

/-- A bulk transfer was answered NAK: its 5 s count from its first attempt (R131). -/
def bulkNaked (s : State) (p desc : Nat) : State :=
  s.modSeg p fun x => { x with bulks := x.bulks.map fun b =>
    if b.desc == desc then { b with first := some (b.first.getD s.fc.now), naked := true } else b }

/-! ## Handshakes -/

/-- Data of an OUT was accepted: the toggle turns, the write ends, NYET asks for a PROBE before the next OUT (R124,
R125). -/
def outAccepted (s : State) (p : Nat) (x : Txn) (e : Nat) (rule nyet : Bool) : State :=
  let k := epKey p x.node e
  let c := s.ep k
  let s1 := s.setEp k { c with
    togOut := !c.togOut, probeFirst := nyet, writeFails := 0,
    sending := if rule then c.sending else none, ruleSending := if rule then none else c.ruleSending }
  if rule then match c.ruleSending with
    | some w => ruleOutcome s1 (epTea s p x.node e) w 0
    | none => s1
  else match c.sending with
    | some w => hostOutcome s1 w none
    | none => s1

/-- ACK or NYET, by what was asked (DEDUCED, log entry 26). NYET to an OUT of endpoint 0 asks for a PROBE before the next OUT
to it, as on any endpoint (R125); NYET to the status OUT, which the stage table does not name, ends the transfer as ACK
does (DEDUCED, log entry 88). -/
def takeHandshake (s : State) (p : Nat) (x : Txn) (v : Vfp) (nyet : Bool) : State :=
  match x.kind with
  | .outEp e _ rule => outAccepted (answered s p x 0) p x e rule nyet
  | .bulkOut e d =>
    let s1 := (answered s p x 0).modEp (epKey p x.node e) fun c => { c with togOut := !c.togOut, probeFirst := nyet }
    match bulkOf s1 p d with
    | some b => completeId (dropBulk s1 p d) d Status.done b.data.length
    | none => s1
  | .setup =>
    if nyet then failAttempt s p x
    else match runningCtl s p x.node with
      | some c => ctlNext (answered s p x 0) p c
      | none => answered s p x 0
  | .ctlOut | .statusOut =>
    let s1 := (answered s p x 0).modEp (epKey p x.node 0) fun c => { c with probeFirst := nyet }
    match runningCtl s p x.node with
    | some c => ctlNext s1 p c
    | none => s1
  | .probe e =>
    let s1 := answered s p x 0
    if e = 0 then
      let s2 := s1.modEp (epKey p x.node 0) fun c => { c with probeFirst := c.probeFirst && nyet }
      if (s2.ep (epKey p x.node 0)).probeFirst then holdKey s2 p (jobKey p x.node 0) else s2
    else
      let s2 := s1.modEp (epKey p x.node e) fun c => { c with
        togOut := if c.askToggle then v.toggle else c.togOut, askToggle := false, probeFirst := nyet }
      if nyet then holdKey s2 p (jobKey p x.node e) else s2
  | .duplicate a =>
    match probedHello s p a with
    | some h => duplicateAnswer (answered s p x 0) p h true
    | none => answered s p x 0
  | .assign a =>
    if nyet then failAttempt s p x
    else match (s.seg p).hellos with
      | h :: _ => if h.addr = a then assigned (answered s p x 0) p h else answered s p x 0
      | [] => answered s p x 0
  | _ => failAttempt s p x

/-- NAK: not a failed attempt; the transaction comes again at its next opportunity (R120, R124, R128). A frame in which a
write was answered NAK is no failed frame of it (R134). -/
def takeNak (s : State) (p : Nat) (x : Txn) : State :=
  match x.kind with
  | .poll due .. => forEach (bitList 32 due) (answered s p x 0) fun s e => goodEp s p x.node e
  | .outEp e g _ =>
    let s1 := (answered s p x 0).modEp (epKey p x.node e) fun c => { c with writeFails := 0 }
    if g then s1 else holdKey s1 p (epKey p x.node e)
  | .bulkOut e d => holdKey (bulkNaked (answered s p x 0) p d) p (jobKey p x.node e)
  | .bulkIn e d => holdKey (bulkNaked (goodEp (answered s p x 0) p x.node e) p d) p (jobKey p x.node e)
  | .setup =>
    let s1 := answered s p x 0
    match runningCtl s1 p x.node with
    | some c => modCtl s1 p c { c with started := some (c.started.getD s.fc.now) }
    | none => s1
  | .ctlOut | .ctlIn | .statusIn | .statusOut => answered s p x 0
  | .probe _ | .duplicate _ | .assign _ => failAttempt s p x

/-- STALL: the endpoint is halted, or the control transfer ends (R129, R135). -/
def takeStall (s : State) (p : Nat) (x : Txn) : State :=
  match x.kind with
  | .outEp e .. => haltEps (answered s p x 0) p x.node 0x11 [e]
  | .bulkOut e _ => haltEps (answered s p x 0) p x.node 0x11 [e]
  | .bulkIn e _ => haltEps (answered s p x 0) p x.node 0x11 [e]
  | .probe e => if e = 0 then failAttempt s p x
    else haltEps (answered s p x 0) p x.node 0x11 [e]
  | .ctlOut | .ctlIn | .statusIn | .statusOut =>
    match runningCtl s p x.node with
    | some c => ctlFailed (answered s p x 0) p c Status.stalled
    | none => answered s p x 0
  | _ => failAttempt s p x

/-- DATA answers an IN (R128, R130). DATA with the other toggle than the expected one counts as a duplicate, as a COV entry
does, and the attempt has failed (DEDUCED, log entry 88). The verdict on an AUTH_RESPONSE stands in its place of the data:
0 passed, 1 failed, 3 an input was rejected (R151). -/
def takeData (s : State) (p : Nat) (x : Txn) (v : Vfp) (verdict : Nat) : State :=
  let n := v.payload.length
  match x.kind with
  | .bulkIn e d =>
    let c := s.ep (epKey p x.node e)
    if v.toggle != c.togIn then failAttempt (s.glb 12 1) p x
    else
      let s1 := goodEp ((answered s p x n).setEp (epKey p x.node e) { c with togIn := !c.togIn }) p x.node e
      match bulkOf s1 p d, inFlight s1 d with
      | some b, some y =>
        let got := v.payload.take b.len
        complete (hostWrite (dropBulk s1 p d) y got) y Status.done got.length
      | _, _ => dropBulk s1 p d
  | .ctlIn =>
    if v.toggle != true then failAttempt (s.glb 12 1) p x
    else match runningCtl s p x.node with
      | some c =>
        let got := v.payload.take c.askLen
        let kept := match c.owner with
          | .hubResponse => BitVec.ofNat 8 (if got.length < 128 then 1 else verdict) :: got
          | _ => got
        let s1 := answered s p x n
        modCtl s1 p c { c with stage := 2, moved := kept }
      | none => answered s p x n
  | .statusIn =>
    if v.toggle != true then failAttempt (s.glb 12 1) p x
    else match runningCtl s p x.node with
      | some c => if n = 0 then ctlNext (answered s p x n) p c else ctlFailed (answered s p x n) p c Status.stalled
      | none => answered s p x n
  | _ => failAttempt s p x

/-! ## Receiving a reply (R112, R113, R133, R153, R154) -/

/-- A frame outside every reply window: counted and dropped; at most one STRANGER a second for a port (R154). -/
def foreignFrame (s : State) (p : Nat) : State :=
  let s1 := s.glb 13 1
  let x := s1.seg p
  let due := match x.foreignAt with
    | some t => decide (t + 1000000000 ≤ s.fc.now)
    | none => true
  if due then
    sysEvent (s1.setSeg p { x with foreign := 0, foreignAt := some s.fc.now }) 4 (portTea s p)
      (leBytes 1 Stranger.foreign ++ leBytes 3 0 ++ leBytes 4 (x.foreign + 1) ++ leBytes 8 0)
  else s1.setSeg p { x with foreign := x.foreign + 1 }

/-- A malformed reply fails the attempt it answers (R113, R133). -/
def malformed (s : State) (p : Nat) (x : Txn) : State := failAttempt (segCnt s p 2 1) p x

/-- How far the line pads frames: a VFP-2 body to the Ethernet minimum or beyond, a VFP-3 body to a whole number of 3-byte
groups (R173, R176). -/
def padding (s : State) (p : Nat) : Padding := match segGen s p with
  | 2 => .any
  | 3 => .groups
  | _ => .none

/-- What the security trailer of a reply calls for: none fine, or malformed, or stale (R152, R153). -/
inductive Trailer where
  | fine | bad | stale
  deriving DecidableEq, Repr

/-- Check the trailer of a reply of a node. -/
def trailerOf (n : Node) (v : Vfp) (tagOk : Bool) : Trailer :=
  if !n.authed || v.payload.isEmpty then .fine
  else if !v.secure || !tagOk then .bad
  else if beAt v.trailer 0 4 ≤ n.rxCtr then .stale else .fine

/-- A reply is received: of a transaction that the hub has given up inside its window, lost in a line fault (R178),
malformed, from another node, stale, or the answer of a transaction, which an action judges (DEDUCED, log entry 28). On
VFP-2 a payload whose first header fails its HCRC holds no frame and is not malformed: the opportunity passes without the
reply (R173, R174). -/
def reply (s : State) (p : Nat) (f : RxFrame) (act : State → Txn → Vfp → State) : State :=
  match (s.seg p).cur with
  | [] => if (s.seg p).voided then s.modSeg p fun g => { g with voided := false } else foreignFrame s p
  | x0 :: _ =>
    if (s.seg p).lost then s else
    if (s.seg p).faulted then failAttempt s p x0 else
    match readReply (padding s p) f.bytes with
    | .badHcrc => if segGen s p = 2 ∧ 5 ≤ f.bytes.length then s else malformed s p x0
    | .malformed node =>
      malformed s p (((s.seg p).cur.find? fun x => x.node == node).getD x0)
    | .ok v =>
      match (s.seg p).cur.find? fun x => x.node == v.node with
      | none => failAttempt s p x0
      | some x =>
        let n := s.node (nodeKey p x.node)
        match trailerOf n v f.tagOk with
        | .bad => malformed (if v.secure then s.bump (Reg.SEC_CNT 6) 1 else s) p x
        | .stale => s.glb 13 1 |>.modSeg p fun g => { g with foreign := g.foreign + 1 }
        | .fine =>
          let s1 := if n.authed && !v.payload.isEmpty then
              s.setNode (nodeKey p x.node) { n with rxCtr := beAt v.trailer 0 4 } else s
          act s1 x v

/-- A COV is received; one whose entries do not fill its payload exactly, or that carries an entry longer than 64 bytes, is
malformed (DEDUCED, log entry 88). -/
def takeCovFrame (s : State) (p : Nat) (x : Txn) (v : Vfp) (since : Nat) : State :=
  match x.kind with
  | .poll due .. => match covEntries v.payload.length v.payload with
    | none => malformed s p x
    | some es => takeCov (answered s p x v.payload.length) p x due since es
  | _ => failAttempt s p x

/-- A reply is judged by its type, whichever row brings it (R113, R115, R133) (DEDUCED, log entry 28). A well-formed reply
of a type its token does not allow, a HELLO among them, is a failed attempt. -/
def anyReply (s : State) (p : Nat) (f : RxFrame) (verdict : Nat) : State :=
  reply s p f fun s x v =>
    match v.ftype with
    | 0 => takeData s p x v verdict
    | 1 => takeHandshake s p x v false
    | 2 => takeNak s p x
    | 3 => takeHandshake s p x v true
    | 4 => takeStall s p x
    | 5 => takeCovFrame s p x v f.since
    | _ => failAttempt s p x

/-- A frame received on a segment: in a response slot of a sweep while no transaction waits for its answer, else the
answer of a transaction or a frame outside every window (R113, R142, R154) (DEDUCED, log entry 28). While the segment is
DISABLED its inputs are ignored (R167). -/
def frameIn (s : State) (p : Nat) (f : RxFrame) (verdict : Nat) : State :=
  if (s.seg p).st = 0 then s
  else if (s.seg p).cur.isEmpty && (s.seg p).sweeping.isSome then
    takeHello s p (slotOf s p f.since) (readReply (padding s p) f.bytes)
  else anyReply s p f verdict

/-- A frame received in a response slot: on VFP-2 the slot is a transmit opportunity beside the replies of the batch
(R186). During a RESUME it is held for the burst that follows (R159). Outside a sweep it is a reply like any other. -/
def helloIn (s : State) (p slot : Nat) (f : RxFrame) : State :=
  if (s.seg p).st = 0 then s
  else if (s.seg p).st = 2 then s.modSeg p fun x => { x with stepHeld := true }
  else if (s.seg p).sweeping.isSome && ((s.seg p).cur.isEmpty || segGen s p == 2) then
    sweepLonger (takeHello s p slot (readReply (padding s p) f.bytes)) p 672
  else anyReply s p f 1

/-- A reply window ends without an answer (R133). A token for a stream node that still waits for credit has no window yet
(R223, R231). -/
def windowExpired (s : State) (p : Nat) : State :=
  if 48 ≤ p ∧ ((s.link (p - 48)).held.any fun h => h.msg.mtype == 0x20) then s
  else match (s.seg p).cur with
  | x :: _ => failAttempt s p x
  | [] => s

end Sys2Proof.Machine
end

