-- ==== Sys2Proof/Machine/Window.lean ====
section
/-! DEFINITION. Frames and gust slots of a segment (R175, R181, R184): the polls of a window, SOF, the Breeze round, and
the samples of the hub's own endpoints (R166, R234, R323). -/
namespace Sys2Proof.Machine

/-! ## Polls -/

/-- A POLL of a node (R117). -/
def mkPoll (s : State) (p node : Nat) (due force : List Nat) (budget : Nat) (gale : Bool) : Txn :=
  mkTxn (.poll (bitmapOf due) (bitmapOf force) budget gale) node
    (beBytes 4 (bitmapOf due) ++ beBytes 4 (bitmapOf force) ++ beBytes 4 (toggleBits s p node) ++ beBytes 1 budget)

/-- Is an endpoint served by polls now (DEDUCED, log entry 21). -/
def pollable (s : State) (p node e : Nat) : Bool :=
  let c := s.ep (epKey p node e)
  c.enabled && !c.stopped && !c.resetEpFirst && c.inbound && c.info.isSome && !memNat (s.seg p).held (epKey p node e)

/-- The length of a Gale window in ns: a gust slot on VFP-3, a frame on the others (R27). -/
def windowNs (s : State) (p : Nat) : Nat := if segGen s p = 3 then 125000 else 1000000

/-- Must a Gale endpoint report unchanged: a sample of the next window could come later than its interval after the last
one, or it was reset (R27) (DEDUCED, log entry 21). -/
def mustReport (s : State) (p node e : Nat) : Bool :=
  let c := s.ep (epKey p node e)
  c.force || decide (c.lastSample + c.intervalUs * 1000 < s.fc.now + 2 * windowNs s p)

/-- The Gale POLL of a node, unless a retry of it still waits. -/
def galePoll (s : State) (p node : Nat) : Option Txn :=
  let due := (galeIn s p node).filter fun e => pollable s p node e
  let waits := (s.seg p).work.any fun w => w.node == node && w.isGale && (match w.kind with
    | .poll .. => true
    | _ => false)
  if due.isEmpty || waits || nodeWaits s p node then none
  else
    let bytes := due.foldl (fun a e => a + 4 + (s.ep (epKey p node e)).maxLen) 0
    some (mkPoll s p node due (due.filter fun e => mustReport s p node e) (Nat.min 128 (ceilDiv bytes 8)) true)

/-- The number of the present gust slot, counted from frame 0. -/
def slotNo (s : State) : Nat := s.fc.frameNo * 8 + s.fc.slot

/-- Has a slot number come, over the wrap of the frame number. -/
def slotCome (s : State) (n : Nat) : Bool := decide ((slotNo s + 2 ^ 35 - n % 2 ^ 35) % 2 ^ 35 < 2 ^ 34)

/-- Breeze endpoints of a node that fall due in a round: those whose interval, counted from their first poll, has begun
again (R28). -/
def dueNow (s : State) (p node : Nat) : List Nat :=
  (breezeIn s p node).filter fun e => pollable s p node e && slotCome s (s.ep (epKey p node e)).dueAt

/-- The next slot, in steps of an interval from a due slot on, that lies ahead. -/
def nextDue (s : State) (dueAt us : Nat) : Nat :=
  let step := Nat.max 1 (us / 125)
  if dueAt = 0 then slotNo s + step else dueAt + ((slotNo s + 2 ^ 35 - dueAt % 2 ^ 35) % 2 ^ 35 / step + 1) * step

/-- A due endpoint is next due when its next interval begins, counted from its first poll (R28). -/
def markDue (s : State) (p node : Nat) (due : List Nat) : State :=
  forEach due s fun s e => s.modEp (epKey p node e) fun c => { c with dueAt := nextDue s c.dueAt c.intervalUs }

/-- The round POLL of a node: its due endpoints and, while blocks are held, the firmware endpoint (R184, R192). A Gale
node without a due endpoint gets none (DEDUCED, log entry 21). -/
def roundPoll (s : State) (p node : Nat) : State :=
  if nodeWaits s p node then s
  else
    let due := dueNow s p node
    let fw := (distEp s p node).toList
    if due.isEmpty && fw.isEmpty && memNat (galeNodes s p) node then s
    else
      let budget := pollBudget s p node due
      let force := (due.filter fun e => (s.ep (epKey p node e)).force) ++ fw
      let x := mkPoll s p node (due ++ fw) force budget false
      (markDue s p node due).modSeg p fun g => { g with work := g.work ++ [x] }

/-- A POLL or PROBE that only asks whether a node answers (R136) (DEDUCED, log entry 25). -/
def keepalive (s : State) (p node : Nat) : State :=
  let waits := ((s.seg p).cur ++ (s.seg p).work).any fun w => w.node == node
  if waits || nodeWaits s p node then s
  else
    let periodic := !(s.node (nodeKey p node)).quarantined &&
      (List.range 32).any fun e => (s.ep (epKey p node e)).info.any fun i => i.kind == 1
    let x := if periodic then mkPoll s p node [] [] 1 false else mkTxn (.probe 0) node []
    s.modSeg p fun g => { g with work := g.work ++ [x] }

/-- Address every attached node of a port. -/
def askAll (s : State) (p : Nat) : State := forEach (attachedOf s p) s fun s n => keepalive s p n

/-! ## Windows -/

/-- At the end of a window nothing stays on the wire: what had no answer has failed (R133, R182). -/
def endWindow (s : State) (p : Nat) : State :=
  forEach (s.seg p).cur (s.modSeg p fun g => { g with voided := false }) fun s x => failAttempt s p x

/-- At the end of a frame retries that found no room fail with their frame; Gale polls not sent are dropped; nodes and
endpoints are judged (R133, R136). -/
def endFrame (s : State) (p : Nat) : State :=
  let s1 := endWindow s p
  let stale := fun (x : Txn) => match x.kind with
    | .assign _ | .duplicate _ => false
    | .poll _ _ _ g => g || decide (0 < x.tries)
    | _ => decide (0 < x.tries)
  let s2 := forEach ((s1.seg p).work.filter stale) s1 fun s x =>
    if x.tries = 0 then s.modSeg p fun g => { g with work := dropFirst (fun y => y == x) g.work } else cutShort s p x
  judgeFrame s2 p

/-- The Gale polls of a window in ascending node address (R181). -/
def galeWindow (s : State) (p : Nat) : State :=
  (s.modSeg p fun g => { g with galeUsed := 0 }).modSeg p fun g =>
    { g with work := (sortBy (fun a b => decide (a < b)) (servedOf s p)).filterMap (galePoll s p) ++ g.work }

/-- On VFP-1 and VFP-2 the Gale OUTs go with the frame's Gale traffic, ahead of its polls (R268). -/
def galeOuts : Nat → State → Nat → State
  | 0, s, _ => s
  | n + 1, s, p =>
    match takeOut s p true with
    | some (s1, x) => (galeOuts n s1 p).modSeg p fun g => { g with work := x :: g.work }
    | none => s

/-- Start a Breeze round when the last one's period is over (R184) (DEDUCED, log entry 21). -/
def roundWindow (s : State) (p : Nat) : State :=
  if !slotCome s (s.seg p).roundAt then s
  else
    let s1 := s.modSeg p fun g => { g with roundAt := slotNo s + roundUs s p / 125, breezeUsed := 0 }
    forEach (sortBy (fun a b => decide (a < b)) (roundNodes s1 p)) s1 fun s n =>
      if (s.seg p).work.any fun w => w.node == n && !w.isGale && (match w.kind with
        | .poll .. => true
        | _ => false) then s else roundPoll s p n

/-- The SOF token (R22, R114). -/
def sofFrame (s : State) : List Byte := vfpEncode ⟨Tok.sof, false, false, false, 255, 0, beBytes 2 (s.fc.frameNo % 65536), []⟩

/-- A gust slot of VFP-3 begins (R20, R27, R181). -/
def slotWindow (s : State) (p : Nat) : State :=
  let s1 := galeWindow (endWindow s p) p
  segKick (sweepCheck (roundWindow s1 p) p) p

/-- Is a transaction a Gale OUT. -/
def isGaleOut (x : Txn) : Bool := match x.kind with
  | .outEp _ g _ => g
  | _ => false

/-- A frame begins on a running port: SOF, the Gale traffic, the Breeze round, and what is next (R175, R181). Stream
nodes get no SOF (R231). -/
def frameWindow (s : State) (p : Nat) : State :=
  let s0 := s.modSeg p fun g => { g with held := [] }
  let s1 := if segGen s p = 3 then s0 else galeOuts 64 s0 p
  let s2 := sweepCheck (roundWindow (galeWindow s1 p) p) p
  let s3 := if segGen s p = 3 then s2
    else s2.modSeg p fun g => { g with work := g.work.filter isGaleOut ++ g.work.filter fun w => !isGaleOut w }
  if 48 ≤ p then segKick s3 p
  else if segGen s p = 2 then segFill 512 (s3.modSeg p fun g => { g with batch := 11 }) p [sofFrame s] true
  else segKick (putFrames s3 p [sofFrame s]) p

/-! ## The hub's own endpoints (R166, R234, R323) -/

/-- The segment status sample (R166). -/
def statusSample (s : State) (p : Nat) : List Byte :=
  let x := s.seg p
  let ns := attachedOf s p
  leBytes 1 x.st ++ leBytes 1 (segGen s p) ++ leBytes 1 ns.length ++
    leBytes 1 (ns.filter fun n => (s.node (nodeKey p n)).quarantined).length ++
    leBytes 1 (x.shares.filter fun q => decide (q.1 < 256)).length ++
    leBytes 1 ((nodesOf s p).filter fun n => (s.node (nodeKey p n)).failing).length ++ leBytes 2 0 ++
    leBytes 4 (bqCount x) ++ leBytes 4 x.stateFrame

/-- The segment power state (R293). -/
def powerSt (s : State) (p : Nat) : Nat := s.fld (Reg.SPW_STATUS p) Fld.SPW_STATUS_STATE

/-- The segment power sample (R323). -/
def powerSample (s : State) (p : Nat) : List Byte :=
  let w := s.spw p
  leBytes 1 (powerSt s p) ++
    leBytes 1 (s.fld (Reg.SPW_STATUS p) Fld.SPW_STATUS_SUSPECT + 2 * b2n (squallOn s)) ++
    leBytes 1 (s.fld (Reg.SPW_STATUS p) Fld.SPW_STATUS_RETRIES) ++ leBytes 1 0 ++
    leBytes 2 (s.fld (Reg.SPW_STATUS p) Fld.SPW_STATUS_I_NOW) ++ leBytes 2 w.pkSince ++
    leBytes 2 (w.sumSince / Nat.max 1 w.cntSince) ++ leBytes 2 w.trips ++ leBytes 4 w.stateFrame

/-- The link samples (R234). -/
def linkSample (s : State) (l e : Nat) : List Byte :=
  let k := s.link l
  if e = 1 then
    leBytes 1 k.st ++ leBytes 1 k.active ++ leBytes 1 k.rate ++ leBytes 1 k.cls ++ leBytes 1 k.phub ++ leBytes 3 0 ++
      leBytes 4 (s.rd (Reg.LNK_CNT l 3)).toNat ++ leBytes 4 k.stateFrame
  else
    leBytes 4 (s.rd (Reg.LNK_DELAY l)).toNat ++ leBytes 4 (s.rd (Reg.LNK_TS_ASYM l)).toNat ++
      leBytes 4 (s.rd (Reg.LNK_TS l 6)).toNat ++ leBytes 4 (s.rd (Reg.LNK_TS l 7)).toNat

/-- The present value of endpoint 1 or 2 of node 0 of a port. -/
def hubSample (s : State) (p e : Nat) : List Byte :=
  if 48 ≤ p then linkSample s (p - 48) e else if e = 1 then statusSample s p else powerSample s p

/-- The value last written for such an endpoint. -/
def lastHubSample (s : State) (p e : Nat) : List Byte :=
  if 48 ≤ p then (if e = 1 then (s.link (p - 48)).lastS1 else (s.link (p - 48)).lastS2)
  else if e = 1 then (s.seg p).lastStatus else (s.seg p).lastPower

/-- Note the value written. A power sample starts its peak and mean afresh (R323). -/
def noteHubSample (s : State) (p e : Nat) (v : List Byte) : State :=
  if 48 ≤ p then s.modLink (p - 48) fun k => if e = 1 then { k with lastS1 := v } else { k with lastS2 := v }
  else if e = 1 then s.modSeg p fun x => { x with lastStatus := v }
  else (s.modSeg p fun x => { x with lastPower := v }).modSpw p fun w => { w with pkSince := 0, sumSince := 0, cntSince := 0 }

/-- Evaluate endpoint 1 or 2 of node 0 once per interval: a SAMPLE when a field has changed (R166, R234). -/
def evalHubEp (s : State) (p e : Nat) : State :=
  let k := epKey p 0 e
  let c := s.ep k
  if !c.enabled || !c.periodic || !slotCome s c.dueAt then s
  else
    let s1 := s.setEp k { c with dueAt := nextDue s c.dueAt c.intervalUs }
    let v := hubSample s p e
    if v == lastHubSample s p e then s1
    else
      let s2 := (noteHubSample s1 p e v).modEp k fun c => { c with
        sample := some v, sampleCap := treeNs s, sampleTq := tqNow s false, lastSample := s.fc.now }
      sampleEvent (reserveSample s2 k v) (epTea s p 0 e) (treeNs s) s.fc.now (tqNow s false) v

/-- Evaluate every such endpoint that is due. -/
def evalHubEps (s : State) : State :=
  forEach (s.eps.filter fun kv => decide (kv.1 < 2 ^ 19) && kv.1 / 32 % 256 == 0 && (kv.1 % 32 == 1 || kv.1 % 32 == 2)) s fun s kv =>
    evalHubEp s (kv.1 / 8192) (kv.1 % 32)

end Sys2Proof.Machine
end

