-- ==== Sys2Proof/Machine/SegState.lean ====
section
/-! DEFINITION. Segment states (R161 to R165, R294, R304), the hold of the SEG block (R163), generation changes (R161),
Gale shares (R31) and the re-homing of segments (R257, R258). -/
namespace Sys2Proof.Machine

/-! ## Pins (R167) -/

/-- The outputs among SEGn_IO of a generation with their idle levels; TERM_EN follows SEG_V1_CFG.TERM (R167). -/
def idleLevels (gen : Nat) : List (Nat × Bool) := match gen with
  | 1 => [(0, true), (2, false), (3, true)]
  | 2 => [(0, false), (1, false), (2, false)]
  | 3 => [(0, false), (1, false), (2, false), (5, false)]
  | _ => []

/-- The outputs of a DISABLED segment drive their idle levels (R167). -/
def idlePins (s : State) (p : Nat) : State :=
  forEach (idleLevels (segGen s p)) s fun s q => drive s (.segIo p q.1) q.2

/-- SYMCLK of a VFP-3 segment runs or stands idle (R167). -/
def symclk (s : State) (p : Nat) (on : Bool) : State := if segGen s p = 3 then drive s (.segIo p 5) on else s

/-! ## Entering states -/

/-- A segment enters a state; its pins idle while it is DISABLED, and SYMCLK runs otherwise (R162, R167). -/
def segTo (s : State) (p st : Nat) : State :=
  if (s.seg p).st = st then s
  else
    let s1 := segInt (s.modSeg p fun x => { x with st := st, stateFrame := s.fc.frameNo }) p 1
    if st = 0 then idlePins s1 p else if (s.seg p).st = 0 then symclk s1 p true else s1

/-- Everything queued for the line of a segment but host descriptors and writes is dropped. -/
def clearLine (s : State) (p : Nat) : State :=
  s.modSeg p fun x => { x with
    work := [], cur := [], hellos := [], tokens := [], sweepDue := false, sweeping := none, repeatAt := none, burst := 0,
    timeDue := false, resumeBegun := none, resumeOver := false, waitResume := false,
    suspendNext := false, stepHeld := false }

/-- End every descriptor and write queued for a port with a status (R164 steps 2 to 4). -/
def endPort (s : State) (p : Nat) (st : Status) (outcome : Nat) : State :=
  let x := s.seg p
  let s1 := s.setSeg p { x with ctls := [], bulks := [], bcast := [] }
  let s2 := x.ctls.foldl (fun s c => match c.owner with
    | .host d => completeId s d st
    | _ => s) s1
  let s3 := x.bulks.foldl (fun s b => completeId s b.desc st) s2
  let s4 := x.bcast.foldl (fun s b => hostOutcome s b.2 (some st)) s3
  let s5 := forEach ((s.eps.filter fun kv => kv.1 / 8192 == p).map (·.1)) s4 fun s k =>
    endWrites s p (k / 32 % 256) (k % 32) st outcome
  distClose s5 p

/-- Detach every node of a port; a node that is still attaching is forgotten. -/
def detachAll (s : State) (p cause : Nat) : State := forEach (nodesOf s p) s fun s n => detachNode s p n cause

/-- A segment disable at a frame boundary (R164). -/
def disableSeg (s : State) (p : Nat) : State :=
  if (s.seg p).st = 0 then s
  else
    let s1 := endPort (clearLine s p) p Status.withdrawn 4
    refreshRules (segTo (detachAll s1 p 4) p 0) false

/-- A segment loses its power: every node is detached with cause POWER (R294). -/
def unpowerSeg (s : State) (p : Nat) : State :=
  if (s.seg p).st = 0 || (s.seg p).st = 1 then s
  else refreshRules (segTo (detachAll (clearLine s p) p 2) p 1) false

/-- A segment waits for its resume group (R162, R304). -/
def resumeSeg (s : State) (p : Nat) : State :=
  let s1 := segTo s p 2
  s1.modSeg p fun x => { x with waitResume := true, resumeBegun := none, resumeOver := false }

/-- A node is reset by a RESET with MODE 0: toggles and halts clear, and remote wake is disabled (R132, R160). -/
def resetMode0 (s : State) (p node : Nat) : State :=
  (clearEps s p node).modNode (nodeKey p node) fun n => if n.phase = .absent then n else { n with wakeEn := false }

/-- A segment is suspended (R165). -/
def suspendSeg (s : State) (p : Nat) : State :=
  let s1 := sendToken (s.modSeg p fun x => { x with work := [], cur := [], sweeping := none, suspendNext := false }) p
    Tok.suspend 255 []
  segTo s1 p 4

/-- The resume has ended: SOF and service from this boundary, RESET and REANNOUNCE after a hub start, every attached node
addressed within 8 frames, the sweeps at 100 ms (R140, R147, R157). -/
def activateSeg (s : State) (p : Nat) : State :=
  let x := s.seg p
  let s1 := segTo s p (if isHeld s 13 then 5 else 3)
  let s2 := setInterval s1 p 100
  let s3 := s2.modSeg p fun g => { g with
    resumeBegun := none, resumeOver := false, waitResume := false, empty := 0, roundAt := 0,
    burst := if x.stepHeld then 10 else g.burst, sweepNext := s.fc.frameNo, stepHeld := false,
    sweepDue := g.sweepDue || x.reannounce,
    tokens := if x.reannounce then g.tokens ++ [⟨Tok.reset, 255, [0], none⟩] else g.tokens }
  let s4 := if x.reannounce then forEach (nodesOf s3 p) s3 fun s n => resetMode0 s p n else s3
  askAll s4 p

/-! ## The rules of a boundary -/

/-- Is a segment asked to carry traffic: ENABLE with a generation, and its engine and bank work (R162, R258, R314). -/
def segWanted (s : State) (p : Nat) : Bool :=
  s.flag (Reg.SEG_CTRL p) Fld.SEG_CTRL_ENABLE && segGen s p != 0 && !(s.seg p).lost &&
    !s.flag (Reg.PWR_DOM (8 + p / 8)) Fld.PWR_DOM_FAULT

/-- Is a segment asked to be suspended: by SEG_CTRL, or by Lull (R165, R316). A remote wake spends the request that stands
in SEG_CTRL: the segment stays resumed until SUSPEND is written again (R158, R159) (DEDUCED, log entry 88). -/
def suspendWanted (s : State) (p : Nat) : Bool :=
  (s.flag (Reg.SEG_CTRL p) Fld.SEG_CTRL_SUSPEND && !(s.seg p).woken) || s.pw.going == some 2 || chipState s == 2

/-- The transition of a segment at a frame boundary (R162, R164, R165). -/
def segStep (s : State) (p : Nat) : State :=
  let x := s.seg p
  if !segWanted s p then disableSeg s p
  else match x.st with
    | 0 => if powerSt s p = 3 then resumeSeg s p else segTo s p 1
    | 1 => if powerSt s p = 3 then resumeSeg s p else s
    | 2 => if x.resumeOver then activateSeg s p else s
    | 4 => if suspendWanted s p then s else resumeSeg s p
    | _ => if suspendWanted s p || x.suspendNext then suspendSeg s p else s

/-- Segments in the middle of a RESUME (DEDUCED, log entry 23). -/
def resuming (s : State) : List Nat :=
  (s.segs.filter fun kv => kv.2.st == 2 && kv.2.resumeBegun.isSome && !kv.2.resumeOver).map (·.1)

/-- Is a segment Gale-bearing (R303). -/
def galeBearing (s : State) (p : Nat) : Bool :=
  match s.pw.galeSnap with
  | some m => bitOf m p
  | none => !(s.seg p).shares.isEmpty

/-- How many RESUME tokens back to back fill 2 ms (R157, R170, R174, R176) (DEDUCED, log entry 23). -/
def resumeCount (s : State) (p : Nat) : Nat :=
  let bits := match segGen s p with
    | 3 => 24 * 2 + 54 + 60
    | 2 => 20 + 8 * (38 + 46) + 32 * (plcaCount s p - 1)
    | _ => 11 * 5 + 22
  2000000 / Nat.max 1 (bitsNs s p bits)

/-- Begin the RESUME of the next group once the last one has ended: Gale-bearing segments first (R157, R304). -/
def resumeGroup (s : State) : State :=
  if !(resuming s).isEmpty then s
  else
    let wait := (s.segs.filter fun kv => kv.2.st == 2 && kv.2.waitResume).map (·.1)
    let order := (wait.filter fun p => galeBearing s p) ++ wait.filter fun p => !galeBearing s p
    forEach (order.take (s.fld Reg.SPW_BUDGET Fld.SPW_BUDGET_RESUME_GROUP)) s fun s p =>
      let s1 := s.modSeg p fun x => { x with waitResume := false, resumeBegun := some s.fc.now }
      let z := buildFrame s1 p 255 Tok.resume 0 false []
      segCnt (z.1.emit (.repeated p (resumeCount s p) z.2)) p 0 (resumeCount s p)

/-! ## Remote wake (R158, R159) -/

/-- The nodes of a port that may have signalled: the line signal names none, so every attached one on which
SET_REMOTE_WAKE has enabled remote wake counts as the waking node (R156, R158) (DEDUCED, log entry 88). -/
def wakers (s : State) (p : Nat) : List Nat := (attachedOf s p).filter fun n => (s.node (nodeKey p n)).wakeEn

/-- A remote-wake signal (R158, R159, R319). -/
def wakeSignal (s : State) (p : Nat) : State :=
  let x := s.seg p
  let now := x.tokens.filter fun k => k.tok == Tok.reset && (k.node == 255 || memNat (wakers s p) k.node)
  if x.st ≠ 4 then s
  else if now.isEmpty then
    let s1 := forEach (wakers s p) s fun s n => s.modNode (nodeKey p n) fun m => { m with wakeFirst := true }
    lullWake ((s1.modSeg p fun g => { g with woken := true }).atFrame (.wakeSeg p)) 4
  else
    let s1 := s.modSeg p fun g => { g with
      tokens := g.tokens.filter fun k => !(k.tok == Tok.reset && (k.node == 255 || memNat (wakers s p) k.node)) }
    forEach now s1 fun s k =>
      let s2 := sendWaitingToken s p k
      if k.node = 255 then forEach (nodesOf s2 p) s2 fun s n => resetMode0 s p n else resetMode0 s2 p k.node

/-! ## Current steps and drops (R136, R140, R159, R302) -/

/-- A rise of the current: an early burst, after a RESUME in progress; none is seen while the segment is suspect. -/
def stepSeen (s : State) (p : Nat) : State :=
  if s.flag (Reg.SPW_STATUS p) Fld.SPW_STATUS_SUSPECT then s
  else if (s.seg p).st = 2 then s.modSeg p fun x => { x with stepHeld := true }
  else if segRuns s p then s.modSeg p fun x => { x with burst := 10, sweepNext := s.fc.frameNo + 1 }
  else s

/-- A fall of the current: every attached node is addressed; the step detection of a suspect segment is suspended (R136,
R302). -/
def dropSeen (s : State) (p : Nat) : State :=
  if segRuns s p && !s.flag (Reg.SPW_STATUS p) Fld.SPW_STATUS_SUSPECT then askAll s p else s

/-- The SEG block is held: what is fetched from now on waits, and active segments are HELD (R59, R163). -/
def holdSegs (s : State) : State :=
  forEach (List.range 48) s fun s p =>
    let s1 := s.modSeg p fun x => { x with holdFrom := s.nextId }
    if (s1.seg p).st = 3 then segTo s1 p 5 else s1

/-- The SEG block is released (R59, R162). -/
def freeSegs (s : State) : State :=
  forEach s.segs s fun s kv => if kv.2.st = 5 then segTo s kv.1 3 else s

/-! ## Gale shares (R31, R180) -/

/-- What a port's share list shows: one charge for each Gale node, and the overhead of its frame under key 256. -/
def sharesOf (s : State) (p : Nat) : List (Nat × Nat) :=
  let ns := sortBy (fun a b => decide (a < b)) (galeNodes s p)
  if ns.isEmpty then []
  else
    let l := ns.map fun n => (n, nodeCharge s p n)
    let sum := l.foldl (fun a x => a + x.2) 0
    l ++ [(256, galeCharge s p ns - sum)]

/-- Shares follow configuration from the boundary on; a hub that admits its first share leaves the stored snapshot
(R31, R303). -/
def reshare (s : State) : State :=
  let s1 := forEach s.segs s fun s kv => if kv.1 < 48 then s.modSeg kv.1 fun x => { x with shares := sharesOf s kv.1 } else s
  if s1.segs.any fun kv => !kv.2.shares.isEmpty then s1.modPw fun w => { w with galeSnap := none } else s1

/-! ## Generation changes (R161) -/

/-- Steps 2 and 3 of R26 for one effective interval. -/
def raiseInterval (s : State) (p : Nat) (cls : Cls) (us : Nat) : Nat :=
  let gen := if 48 ≤ p then 0 else segGen s p
  let a := Nat.max us (if gen = 3 then 125 else 1000)
  if decide (cls = .breeze) && gen != 0 then gridUp (Nat.max a (roundUs s p)) else a

/-- A new generation is in effect: Gale becomes Breeze, intervals are raised, and one clamp is counted (R161). The segment
is DISABLED, and its outputs take the idle levels of the generation (R167). -/
def genChanged (s : State) (p : Nat) : State :=
  let ks := (s.eps.filter fun kv => kv.1 / 8192 == p && kv.2.periodic).map (·.1)
  let kept := (s.eps.filter fun kv => kv.1 / 8192 == p && kv.2.galeKept).map (·.1)
  let s0 := forEach kept s fun s k => s.modEp k fun c => { c with galeKept := false }
  let s1 := forEach ks s0 fun s k => s.modEp k fun c => { c with cls := .breeze }
  let s2 := idlePins (forEach ks s1 fun s k => s.modEp k fun c => { c with
    intervalUs := raiseInterval s1 p c.cls c.intervalUs }) p
  s2.clampIf (ks.any fun k => s.ep k != s2.ep k)

/-- Does a bank clock its VFP-2 PHYs (R168). -/
def bankClock (s : State) (b : Nat) : Bool := (List.range 8).any fun i => segGen s (8 * b + i) == 2

/-- The level of TERM_EN of a port, an output of VFP-1 alone (R167, SEG_V1_CFG.TERM). -/
def termEn (s : State) (p : Nat) : Bool := segGen s p == 1 && s.flag (Reg.SEG_V1_CFG p) Fld.SEG_V1_CFG_TERM

/-- RMII_REFCLK and TERM_EN take new levels; b is the state before the change (R168). -/
def linePins (s b : State) : State :=
  let s1 := forEach ((List.range 6).filter fun k => bankClock s k != bankClock b k) s fun s k =>
    drive s (.rmiiClk k) (bankClock s k)
  forEach ((List.range 48).filter fun p => termEn s p != termEn b p) s1 fun s p => drive s (.segTerm p) (termEn s p)

/-! ## Re-homing (R257, R258) -/

/-- Healthy engines that serve no port, rising. -/
def spareEngines (s : State) : List Nat :=
  (List.range 52).filter fun e => !s.flag (Reg.LIB_ENGINE e) Fld.LIB_ENGINE_SERVING &&
    !s.flag (Reg.LIB_ENGINE e) Fld.LIB_ENGINE_FAILED && !s.flag (Reg.LIB_ENGINE e) Fld.LIB_ENGINE_RETIRED

/-- Show the spare engines left. -/
def sparesShow (s : State) : State := s.setFld Reg.LIB_STATUS Fld.LIB_STATUS_SPARES (Nat.min 4 (spareEngines s).length)

/-- The engine that serves a port. -/
def engineOf (s : State) (p : Nat) : Nat := s.fld (Reg.SEG_ENGINE p) Fld.SEG_ENGINE_ENGINE

/-- Give a port to an engine. -/
def giveEngine (s : State) (p e : Nat) : State :=
  let s1 := (s.setFld (Reg.SEG_ENGINE p) Fld.SEG_ENGINE_ENGINE e).setFlag (Reg.SEG_ENGINE p) Fld.SEG_ENGINE_SPARE (48 ≤ e)
  (s1.setFlag (Reg.LIB_ENGINE e) Fld.LIB_ENGINE_SERVING true).setFld (Reg.LIB_ENGINE e) Fld.LIB_ENGINE_PORT p

/-- Take an engine off its port; a failed one does not come back. -/
def freeEngine (s : State) (e : Nat) (failed : Bool) : State :=
  let s1 := (s.setFlag (Reg.LIB_ENGINE e) Fld.LIB_ENGINE_SERVING false).setFld (Reg.LIB_ENGINE e) Fld.LIB_ENGINE_PORT 0
  if failed then s1.setFlag (Reg.LIB_ENGINE e) Fld.LIB_ENGINE_FAILED true else s1

/-- REHOMED data (R258). -/
def rehomedData (scope cause old new frame lost retried services spares : Nat) : List Byte :=
  leBytes 1 scope ++ leBytes 1 cause ++ leBytes 1 old ++ leBytes 1 new ++ leBytes 4 frame ++ leBytes 4 lost ++
    leBytes 2 retried ++ leBytes 1 services ++ leBytes 1 spares ++ leBytes 8 0

/-- Confirmed writes whose OUT was on the wire (R257). -/
def onWire (s : State) (p : Nat) : List Nat :=
  ((s.seg p).cur ++ (s.seg p).work.filter fun x => decide (0 < x.tries)).filterMap fun x =>
    match x.kind with
    | .outEp e _ false => match (s.ep (epKey p x.node e)).sending with
      | some w => if w.posted then none else some w.desc
      | none => none
    | _ => none

/-- What becomes of the work of the frame on a re-homed segment (R257): attempts start afresh, OUTs on the wire complete
RETRIED, control transfers end, queued frames rewind, a sweep is repeated. -/
def rehomeWork (s : State) (p : Nat) : State :=
  let x := s.seg p
  let again := x.cur.map fun w => { w with tries := 0 }
  let rewinds := (x.cur.filter Txn.queuedFrame).length
  let s1 := forEach (onWire s p) s fun s d => modDesc s d fun y => { y with retried := true }
  let s2 := forEach x.ctls s1 fun s c => ctlFailed s p c Status.noResponse
  let isCtl := fun (w : Txn) => match w.kind with
    | .setup | .ctlOut | .ctlIn | .statusIn | .statusOut => true
    | .poll _ _ _ g => g
    | _ => false
  segCnt (s2.modSeg p fun g => { g with
    cur := [], work := (again.filter fun w => !isCtl w) ++ g.work.map fun w => { w with tries := 0 },
    sweeping := none, sweepDue := g.sweepDue || x.sweeping.isSome, lost := false }) p 5 rewinds

/-- A spare engine takes over a port at a frame boundary, or the port is stopped (R257, R258). -/
def rehome (s : State) (p cause frame : Nat) : State :=
  let old := engineOf s p
  let spares := spareEngines s
  let lost := (s.seg p).cur.length + (s.seg p).ctls.length
  let retried := (onWire s p).length
  let new := spares.head?
  let s1 := rehomeWork s p
  let s2 := freeEngine s1 old (cause != 4)
  let s3 := match new with
    | some e => giveEngine s2 p e
    | none =>
      let a := (s2.setFlag (Reg.SEG_CTRL p) Fld.SEG_CTRL_ENABLE false).setFlag Reg.LIB_STATUS Fld.LIB_STATUS_SEG_LOST true
      (disableSeg a p).modSeg p fun x => { x with lost := true }
  let s4 := sparesShow s3
  let data := rehomedData 0 cause old (new.getD 0xFF) frame lost retried 0 (spareEngines s4).length
  libInt (sysEvent (folPost (s4.glb 8 1) 0x22 13 1 (data.take 16)) 0x09 (portTea s p) data) 2

end Sys2Proof.Machine
end

