-- ==== Sys2Proof/Machine/Librarian.lean ====
section
/-! DEFINITION. The Librarian: buffers in Stacks and reserve stacks (R244 to R251), the ring of an endpoint (R241 to
R243), hints (R252) and the epoch boundary (R238). -/
namespace Sys2Proof.Machine

/-! ## The buffer pool and the regions -/

/-- The TEA of a context. -/
def keyTea (s : State) (k : Nat) : Nat := if k < 2 ^ 19 then hubOf s * 2 ^ 19 + k else k - 2 ^ 24

/-- Set the free granules. -/
def setPool (s : State) (n : Nat) : State := s.setFld Reg.LIB_POOL Fld.LIB_POOL_FREE (n + writeGranules s)

/-- The register of the granules a function's region holds. -/
def rsvUsed (f : Fn) : Nat := match f with
  | .pf0 => Reg.LIB_RSV0_USED
  | .pf1 => Reg.LIB_RSV1_USED

/-- The size of a function's region in MiB. -/
def rsvMib (s : State) (f : Fn) : Nat := match f with
  | .pf0 => s.fld Reg.LIB_RSV0_SIZE Fld.LIB_RSV0_SIZE_MIB
  | .pf1 => s.fld Reg.LIB_RSV1_SIZE Fld.LIB_RSV1_SIZE_MIB

/-- Is a region out of use by a fault (R250). -/
def rsvFault (s : State) (f : Fn) : Bool := match f with
  | .pf0 => s.flag Reg.LIB_STATUS Fld.LIB_STATUS_RSV_FAULT0
  | .pf1 => s.flag Reg.LIB_STATUS Fld.LIB_STATUS_RSV_FAULT1

/-- Granules in use in a region. -/
def usedIn (s : State) (f : Fn) : Nat := s.fld (rsvUsed f) Fld.LIB_RSV0_USED_GRANULES

/-- Change the granules in use in a region. -/
def setUsed (s : State) (f : Fn) (n : Nat) : State := s.setFld (rsvUsed f) Fld.LIB_RSV0_USED_GRANULES n

/-- The function whose region and rings the Librarian places into: the active one, or the one that was active last. -/
def placeFn (s : State) : Fn := match activeFn s with
  | some f => f
  | none => s.lease.holder.getD .pf0

/-- Free granules of the active function's region; none without a region (R246). -/
def regionFree (s : State) : Nat :=
  let f := placeFn s
  if isBranch s || rsvFault s f then 0 else rsvMib s f * 16384 - usedIn s f

/-- May a buffer be in the reserve tier: no enabled rule names it, of this hub or, as the root knows them, of a branch (R244)
(DEDUCED, log entry 55). -/
def eligible (s : State) (k : Nat) : Bool :=
  let c := s.ep k
  let t := keyTea s k
  (decide (100000 ≤ c.intervalUs) || decide (4 ≤ c.granules)) && decide (c.cls ≠ .gale) &&
    !(s.rules.any fun kv => kv.2.enabled && memNat kv.2.teas t) &&
    !(s.branchRules.any fun kv => kv.2.enabled && memNat kv.2.teas t) && teaNode t != 0 && !decide (c.hint = .pinStacks)

/-- Is a context one of this hub's own endpoints: its Stacks buffer is in this hub's pool. -/
def ownKey (k : Nat) : Bool := decide (k < 2 ^ 19)

/-- Give back the buffer an endpoint holds, in either tier. -/
def releaseBuf (s : State) (k : Nat) : State :=
  let c := s.ep k
  let s1 := if c.reserve then setUsed s (placeFn s) (usedIn s (placeFn s) - c.held)
    else if ownKey k then setPool s (poolFree s + c.held) else s
  s1.setEp k { c with held := 0, reserve := false }

/-- Take the endpoint's granules from Stacks. -/
def takeStacks (s : State) (k : Nat) : State :=
  let n := (s.ep k).granules
  (setPool s (poolFree s - n)).modEp k fun c => { c with held := n, reserve := false }

/-- Take the endpoint's granules from the region. -/
def takeReserve (s : State) (k : Nat) : State :=
  let n := (s.ep k).granules
  (setUsed s (placeFn s) (usedIn s (placeFn s) + n)).modEp k fun c => { c with held := n, reserve := true }

/-- Give an enabled endpoint its buffer: Stacks, else the reserve tier, else fewer granules, else it is not enabled
(R251). Answers whether it was clamped. -/
def giveBuf (s : State) (k : Nat) (wasReserve : Bool) : State × Bool :=
  let c := s.ep k
  if !c.enabled then (s, false)
  else if wasReserve && eligible s k && decide (c.granules ≤ regionFree s) then (takeReserve s k, false)
  else if !ownKey k then (s, false)
  else if c.granules ≤ poolFree s then (takeStacks s k, false)
  else if eligible s k && decide (c.granules ≤ regionFree s) then (takeReserve s k, false)
  else if 0 < poolFree s then (takeStacks (s.setEp k { c with granules := poolFree s }) k, true)
  else (s.setEp k { c with enabled := false }, true)

/-- A reserve buffer returns to Stacks; without room the endpoint keeps no buffer for now (R244, R250). -/
def backToStacks (s : State) (k : Nat) : State :=
  let s1 := releaseBuf s k
  if ownKey k && decide ((s1.ep k).granules ≤ poolFree s1) then libStat (takeStacks s1 k) 2 else s1

/-- Endpoints in the reserve tier. -/
def reserveKeys (s : State) : List Nat := (s.eps.filter fun kv => kv.2.reserve).map (·.1)

/-- Buffers that are no longer eligible return to Stacks (R244). -/
def dropIneligible (s : State) : State :=
  forEach (reserveKeys s) s fun s k => if eligible s k then s else backToStacks s k

/-- Every buffer of a region returns to Stacks (R250). -/
def emptyRegion (s : State) : State := forEach (reserveKeys s) s backToStacks

/-! ## Rings -/

/-- The rate the Librarian expects of an endpoint: one record an interval, 8,000 a second for Gale on VFP-3, in
records in 10^12 s (R241). -/
def expectedRate (s : State) (k : Nat) : Nat :=
  let c := s.ep k
  if !c.enabled || !c.periodic then 0
  else if decide (c.cls = .gale) && (!ownKey k || segGen s (k / 8192) == 3) then 8000 * 10 ^ 12
  else 10 ^ 18 / Nat.max 1 c.intervalUs

/-- The load of a ring: the expected rates of its endpoints other than one. -/
def ringLoad (s : State) (i k : Nat) : Nat :=
  s.eps.foldl (fun a kv => if kv.2.ring = i ∧ kv.1 ≠ k then a + expectedRate s kv.1 else a) 0

/-- The ring of least load of a list; ties go to the lowest index. -/
def lightest (s : State) (k : Nat) (rings : List Nat) : Nat :=
  (sortBy (fun a b => let x := ringLoad s a k; let y := ringLoad s b k; decide (x < y) || (x == y && decide (a < b))) rings).headD 0

/-- Choose a ring for an endpoint: by its TEA in a BY_TEA shelf, else the least loaded; among those that run when any does
(R100, R241) (DEDUCED, log entry 72). -/
def chooseRing (s : State) (k : Nat) : Option Nat :=
  let f := placeFn s
  match shelfOf s f k with
  | none => none
  | some sh =>
    let run := sh.rings.filter fun i => (s.ring f i).st == .running
    let home := teaRing sh (keyTea s k)
    if sh.byTea && (run.isEmpty || memNat run home) then some home
    else some (lightest s k (if run.isEmpty then sh.rings else run))

/-- Does an endpoint stand on a ring where the Librarian leaves it: in its shelf, running when any ring of the shelf runs,
and by its TEA in a BY_TEA shelf (R100, R241, R243). -/
def wellPlaced (s : State) (k : Nat) : Bool :=
  let f := placeFn s
  match shelfOf s f k with
  | none => true
  | some sh =>
    let i := (s.ep k).ring
    if sh.byTea then chooseRing s k == some i
    else memNat sh.rings i && ((s.ring f i).st == .running || !(sh.rings.any fun j => (s.ring f j).st == .running))

/-- An endpoint moves to another ring (R243). -/
def moveRing (s : State) (k i : Nat) : State :=
  if (s.ep k).ring = i then s else libStat ((s.modEp k fun c => { c with ring := i }).glb 10 1) 0

/-- Place an endpoint when its configuration takes effect (R241). -/
def placeEp (s : State) (k : Nat) : State :=
  match chooseRing s k with
  | some i => s.modEp k fun c => { c with ring := i }
  | none => s.modEp k fun c => { c with ring := 0 }

/-- The endpoints of a shelf that is undefined from now on have no ring (R239, R240). -/
def unshelve (s : State) (f : Fn) (n : Nat) : State :=
  if decide (placeFn s = f) then
    { s with eps := s.eps.mapVals fun _ c => if c.shelf == n then { c with ring := 0 } else c }
  else s

/-- Endpoints that do not stand where they should move at once, each move counted; one that had no ring takes one (R100,
R106, R243). -/
def replaceEps (s : State) (f : Fn) : State :=
  if decide (placeFn s = f) then
    forEach ((s.eps.filter fun kv => kv.2.periodic && !wellPlaced s kv.1).map (·.1)) s fun s k =>
      match chooseRing s k with
      | some i => if (s.ep k).ring = 0 then s.modEp k fun c => { c with ring := i } else moveRing s k i
      | none => s
  else s

/-! ## The epoch boundary (R238) -/

/-- Moves left in a run of moves. -/
def maxMoves (s : State) : Nat := s.fld Reg.LIB_BALANCE Fld.LIB_BALANCE_MAX_MOVES

/-- Order of moves down: longest interval, largest buffer, TEA. -/
def downOrder (s : State) (a b : Nat) : Bool :=
  let x := s.ep a
  let y := s.ep b
  decide (y.intervalUs < x.intervalUs) || (x.intervalUs == y.intervalUs &&
    (decide (y.held < x.held) || (x.held == y.held && decide (a < b))))

/-- Order of moves up: shortest interval, TEA. -/
def upOrder (s : State) (a b : Nat) : Bool :=
  let x := s.ep a
  let y := s.ep b
  decide (x.intervalUs < y.intervalUs) || (x.intervalUs == y.intervalUs && decide (a < b))

/-- A buffer moves to the reserve tier. -/
def moveDown (s : State) (k : Nat) : State := libStat ((takeReserve (releaseBuf s k) k).glb 10 1) 1

/-- A buffer moves to Stacks. -/
def moveUp (s : State) (k : Nat) : State := libStat ((takeStacks (releaseBuf s k) k).glb 10 1) 2

/-- Tier moves by the water marks (R246). -/
def tierMoves (s : State) : State :=
  let low := s.fld Reg.LIB_TIER Fld.LIB_TIER_LOW_WATER * 1024
  let high := s.fld Reg.LIB_TIER Fld.LIB_TIER_HIGH_WATER * 1024
  if !s.flag Reg.LIB_CTRL Fld.LIB_CTRL_TIER || isBranch s || rsvMib s (placeFn s) = 0 || rsvFault s (placeFn s) || (activeFn s).isNone then s
  else if poolFree s < low then
    let ks := (s.eps.filter fun kv => ownKey kv.1 && kv.2.enabled && !kv.2.reserve && kv.2.held != 0 && eligible s kv.1).map (·.1)
    ((sortBy (downOrder s) ks).foldl (fun (acc : State × Nat) k =>
      if acc.2 = 0 ∨ (low + high) / 2 ≤ poolFree acc.1 ∨ regionFree acc.1 < (acc.1.ep k).granules then acc
      else (moveDown acc.1 k, acc.2 - 1)) (s, maxMoves s)).1
  else if high < poolFree s then
    let ks := (reserveKeys s).filter ownKey
    ((sortBy (upOrder s) ks).foldl (fun (acc : State × Nat) k =>
      if acc.2 = 0 ∨ poolFree acc.1 < high + (acc.1.ep k).granules then acc
      else (moveUp acc.1 k, acc.2 - 1)) (s, maxMoves s)).1
  else s

/-- Endpoints without a buffer take one when Stacks has room again (R244). -/
def refill (s : State) : State :=
  forEach ((s.eps.filter fun kv => ownKey kv.1 && kv.2.enabled && kv.2.held == 0).map (·.1)) s fun s k =>
    if (s.ep k).granules ≤ poolFree s then takeStacks s k else s

/-- Apply the hint of an endpoint (R252). -/
def applyHint (s : State) (k : Nat) : State :=
  let c := s.ep k
  let f := placeFn s
  match c.hint with
  | .none => s
  | .pinRing i =>
    match shelfOf s f k with
    | some sh => if memNat sh.rings i && (s.ring f i).st == .running then libStat (moveRing s k i) 7 else libStat s 3
    | none => libStat s 3
  | .pinStacks =>
    if c.reserve then (if ownKey k && decide (c.granules ≤ poolFree s) then libStat (moveUp s k) 7 else libStat s 3)
    else libStat s 7
  | .affinity t =>
    let q := s.ep (ctxKey s t)
    match shelfOf s f k with
    | some sh => if !sh.byTea && q.shelf == c.shelf && memNat sh.rings q.ring && decide (c.cls ≠ .gale) then moveRing s k q.ring
        else libStat s 3
    | none => libStat s 3
  | .preferReserve =>
    if !eligible s k then libStat s 3
    else if c.reserve || !c.enabled then s
    else if c.granules ≤ regionFree s then moveDown s k else libStat s 3

/-- Apply every hint. -/
def applyHints (s : State) : State :=
  forEach ((s.eps.filter fun kv => decide (kv.2.hint ≠ .none)).map (·.1)) s applyHint

/-- Does a PIN_RING hint hold an endpoint where it is. -/
def pinned (c : EpCtx) : Bool := match c.hint with
  | .pinRing i => c.ring == i
  | _ => false

/-- The measured load of a ring over the epoch. -/
def measured (s : State) (n i : Nat) : Nat :=
  s.eps.foldl (fun a kv => if kv.2.shelf = n ∧ kv.2.ring = i then a + kv.2.epochRecs else a) 0

/-- Move endpoints of a shelf from its heaviest ring to its lightest, at most a number of times (R242). -/
def balanceShelf : Nat → State → Nat → List Nat → State
  | 0, s, _, _ => s
  | fuel + 1, s, n, rings =>
    let loads := rings.map fun i => (measured s n i, i)
    let total := loads.foldl (fun a x => a + x.1) 0
    let hi := loads.foldl (fun a x => if a.1 < x.1 then x else a) (0, rings.headD 0)
    let lo := loads.foldl (fun a x => if x.1 < a.1 then x else a) hi
    if hi.1 * 100 * rings.length ≤ total * s.fld Reg.LIB_BALANCE Fld.LIB_BALANCE_THRESHOLD_PCT || lo.2 == hi.2 then s
    else
      let movable := (s.eps.filter fun kv => kv.2.shelf == n && kv.2.ring == hi.2 && decide (kv.2.cls ≠ .gale) && !pinned kv.2)
      match (sortBy (fun a b => decide (a.2.epochRecs < b.2.epochRecs) ||
          (a.2.epochRecs == b.2.epochRecs && decide (a.1 < b.1))) movable).head? with
      | none => s
      | some kv =>
        if total < (lo.1 + kv.2.epochRecs) * rings.length then s
        else balanceShelf fuel (moveRing s kv.1 lo.2) n rings

/-- Re-balance every BY_RATE shelf of the active function (R242). -/
def rebalance (s : State) : State :=
  if !s.flag Reg.LIB_CTRL Fld.LIB_CTRL_REBALANCE || (activeFn s).isNone || isBranch s then s
  else forEach (s.shelvesOf (placeFn s)) s fun s kv =>
    if kv.2.byTea then s else balanceShelf (Nat.min (maxMoves s) s.eps.length) s kv.1 kv.2.rings

/-- The epoch's rates: LIB_HOT shows the 24 most loaded EQ rings, heaviest first. -/
def hotRings (s : State) : State :=
  let f := placeFn s
  let ms := Nat.max 1 (s.fld Reg.LIB_EPOCH Fld.LIB_EPOCH_MS)
  let rings := s.eps.foldl (fun a kv => if kv.2.epochRecs = 0 ∨ kv.2.ring = 0 then a else addNat a kv.2.ring) []
  let loads := rings.map fun i =>
    (s.eps.foldl (fun a kv => if kv.2.ring = i then a + kv.2.epochRecs else a) 0 * 1000 / ms, i)
  let top := (sortBy (fun a b => decide (b.1 < a.1) || (a.1 == b.1 && decide (a.2 < b.2))) loads).take 24
  forEach (List.range 24) s fun s j => match top[j]? with
    | some x => s.wr (Reg.LIB_HOT j) (BitVec.ofNat 32 (Nat.min (x.1 / 64) (2 ^ 20 - 1) * 4096 + fnIx f * 2048 + x.2))
    | none => s.wr (Reg.LIB_HOT j) 0

/-- Forwarding windows that end at this epoch (R254). -/
def endWindows (s : State) : State :=
  let e := (s.rd Reg.LIB_EPOCH_NUM).toNat
  { s with vacated := s.vacated.map fun v => if v.window && e == v.endEpoch then { v with window := false } else v }

/-- LIB_FWD_STATUS, LIB_FWD_WINDOW and LIB_VACATED show the vacated hub numbers. -/
def vacatedShow (s : State) : State :=
  let s1 := s.wr Reg.LIB_FWD_STATUS (BitVec.ofNat 32 (bitmapOf (s.vacated.map fun v => v.hub)))
  let s2 := s1.wr Reg.LIB_FWD_WINDOW (BitVec.ofNat 32 (bitmapOf ((s.vacated.filter fun v => v.window).map fun v => v.hub)))
  forEach (List.range 16) s2 fun s j =>
    s.wr (Reg.LIB_VACATED j) (match s.vacated.find? fun v => v.hub == j + 1 with
      | some v => BitVec.ofNat 32 (2 ^ 31 + v.endEpoch % 65536 * 256 + v.successor)
      | none => 0)

/-- The shares of the service cores over the epoch, free values of at most 100 (LIB_CORE.LOAD_PCT). -/
def coreLoads (s : State) : State :=
  forEach (List.range 8) s fun s j =>
    let z := s.fresh
    z.2.setFld (Reg.LIB_CORE j) Fld.LIB_CORE_LOAD_PCT
      (if z.2.flag (Reg.LIB_CORE j) Fld.LIB_CORE_FAILED then 0 else Nat.min 100 (Config.loadPct z.1).toNat)

/-- LIB_STAT reports the completed epoch; its counts start afresh. -/
def epochStats (s : State) : State :=
  let l := s.movesThisEpoch
  let vals := [l.getD 0 0, l.getD 1 0, l.getD 2 0, l.getD 3 0, l.getD 4 0, s.shelves0.length + s.shelves1.length,
    (reserveKeys s).length, l.getD 7 0]
  let s1 := forEach (List.range 8) s fun s j => s.wr (Reg.LIB_STAT j) (BitVec.ofNat 32 (vals.getD j 0))
  { s1 with movesThisEpoch := [], eps := s1.eps.mapVals fun _ c => { c with epochRecs := 0 } }

/-- The Librarian's work at an epoch boundary, after the shadows (R238). -/
def epochWork (s : State) : State :=
  let s1 := s.bump Reg.LIB_EPOCH_NUM 1
  let s2 := vacatedShow (endWindows s1)
  let s3 := refill (tierMoves s2)
  let s4 := rebalance (applyHints s3)
  libInt (epochStats (coreLoads (hotRings s4))) 0

end Sys2Proof.Machine
end

