-- ==== Sys2Proof/Machine/EpConfig.lean ====
section
/-! DEFINITION. CONFIG_EP at its frame boundary (R25, R26, R29, R30, R88, R139, R166, R241, R251) and its read-back. -/
namespace Sys2Proof.Machine

/-- The keys of the endpoints a CONFIG_EP names on this hub. -/
def configKeys (d : Desc) : List Nat := (maskTeas d.tea 10 d.args).map teaKey

/-- May an endpoint be configured at all: node 0 has only endpoints 1 and 2 (R166, R234). -/
def configurable (t : Nat) : Bool := teaNode t != 0 || teaEp t == 1 || teaEp t == 2

/-- The values a CONFIG_EP asks of the endpoint with a key, and whether a clamp of the endpoint alone changed them: class
against interval, the grid's ends, granules, shelf, the endpoint's kind and Gale capability; endpoint 0 carries control
transfers only (R17, R25, R26, R139). -/
def askedCtx (k : Nat) (c : EpCtx) (args : List Byte) : EpCtx × Bool :=
  let us := leAt args 0 4
  let code := byteAt args 4
  let cls := askedCls c.cls args
  let notPeriodic := match c.info with
    | some i => i.kind != 1
    | none => k % 32 == 0
  let noGale := match c.info with
    | some i => !i.galeCapable
    | none => false
  let cls1 := if notPeriodic then Cls.draught else if noGale && decide (cls = .gale) then .breeze else cls
  let us1 := if decide (cls1 = .draught) then 0 else askedUs us
  let g := clampNat 1 16 (byteAt args 5)
  let clamp := decide (2 < code) || (us == 0 && (code == 1 || code == 2)) || (us != 0 && code == 0) ||
    (us != 0 && decide (us < 125)) || decide (65535000 < us) || decide (cls1 ≠ cls) || g != byteAt args 5 ||
    decide (4095 < leAt args 6 2)
  ({ c with cls := cls1, intervalUs := us1, granules := g, shelf := Nat.min 4095 (leAt args 6 2),
            enabled := bitOf (byteAt args 8) 0, galeKept := false, force := c.force || (bitOf (byteAt args 8) 0 && !c.enabled), dueAt := 0 }, clamp)

/-- May the Gale requests of a CONFIG_EP stand: on a segment with a generation, not of the hub's own endpoints, within the
limits of R29. -/
def galeMayStand (s : State) (p node : Nat) : Bool :=
  decide (p < 48) && node != 0 && galeFits s p (galeNodes s p)

/-- Gale requests that may not stand become Breeze, with every endpoint the descriptor names (R30). -/
def admitGale (s : State) (p node : Nat) (ks : List Nat) : State × Bool :=
  if !(ks.any fun k => decide ((s.ep k).cls = .gale)) then (s, false)
  else if galeMayStand s p node then (s, false)
  else (forEach ks s fun s k => s.modEp k fun c =>
    if decide (c.cls = .draught) then c else { c with cls := .breeze }, true)

/-- RESET_EP goes to every endpoint named whose context was rebuilt, before its first transaction (R397). -/
def resetRebuilt (s : State) (p node : Nat) (ks : List Nat) : State :=
  forEach (ks.filter fun k => (s.ep k).resetEpFirst && nodeThere s p node &&
    !((s.seg p).ctls.any fun c => decide (c.owner = .hubResetEp (k % 32)) && c.node == node)) s fun s k => resetEp s p node (k % 32)

/-- Apply a CONFIG_EP at its boundary (R88): its clamps count once (DEDUCED, log entry 37). -/
def applyConfig (s : State) (d : Desc) : State :=
  let ks := configKeys d
  let p := teaPort d.tea
  let node := teaNode d.tea
  let was := ks.map fun k => (k, (s.ep k).reserve)
  let s0 := forEach ks s releaseBuf
  let a := ks.foldl (fun (acc : State × Bool) k =>
    let z := askedCtx k (acc.1.ep k) d.args
    (acc.1.setEp k z.1, acc.2 || z.2)) (s0, false)
  let b := admitGale a.1 p node ks
  let c := forEach ks b.1 fun s k => s.modEp k fun c =>
    if c.periodic then { c with intervalUs := raiseInterval b.1 p c.cls c.intervalUs } else c
  let raised := ks.any fun k => (c.ep k).intervalUs != (b.1.ep k).intervalUs
  let e := was.foldl (fun (acc : State × Bool) x =>
    let z := giveBuf acc.1 x.1 x.2
    (placeEp z.1 x.1, acc.2 || z.2)) (c, false)
  complete (resetRebuilt (e.1.clampIf (a.2 || b.2 || raised || e.2)) p node ks) d Status.done 0

/-- The bytes CONFIG_EP QUERY returns: ARGS with the effective values of one endpoint (R88) (DEDUCED, log entry 37).
-/
def queryBytes (c : EpCtx) : List Byte :=
  leBytes 4 c.intervalUs ++ leBytes 1 (match c.cls with
    | .draught => 0
    | .breeze => 1
    | .gale => 2) ++ leBytes 1 c.granules ++ leBytes 2 c.shelf ++ leBytes 1 (b2n c.enabled) ++ leBytes 31 0

/-- A descriptor of the list due at a boundary. -/
def applyConfigId (s : State) (id : Nat) : State :=
  match inFlight s id with
  | some d => applyConfig s d
  | none => s

end Sys2Proof.Machine
end

