-- ==== Sys2Proof/WellFormed.lean ====
section
/-! DEFINITION. WellFormed: which terms name something the hub has. A term that does not (a port above 47, a ring above
1,536) moves the clock and changes nothing. A descriptor runs by its bytes, whichever of its opcode's rows carries it,
and a frame is judged by its bytes (DESIGN CHOICE, log entry 87). -/
namespace Sys2Proof.WellFormed

/-- A segment port (spec/05). -/
def segPort (p : Nat) : Bool := decide (p < 48)

/-- A port that carries VFP: a segment port or a link port (R16). -/
def vfpPort (p : Nat) : Bool := decide (p < 64)

/-- A link: 0 to 15 downstream, 16 the upstream link of a branch (R195). -/
def linkNo (l : BitVec 5) : Bool := decide (l.toNat ≤ 16)

/-- Does a term name what the hub has. -/
def wf : Instr → Bool
  | .nop _ _ | .writeEp _ _ | .writeEpConfirmed _ _ | .readEp _ _ | .configEp _ _ | .configEpQuery _ _
  | .controlXfer _ _ | .regAccessRead _ _ | .regAccessWrite _ _ | .bulkXferOut _ _ | .bulkXferIn _ _ | .streamXferIn _ _
  | .streamXferOut _ _ | .shelfDefine _ _ | .shelfDelete _ _ | .shelfQuery _ _ | .placeHintClear _ _ | .pinRing _ _
  | .pinStacks _ _ | .affinity _ _ | .preferReserve _ _ | .gustLoad _ _ | .gustEnable _ _ | .gustDisable _ _
  | .segPowerOff _ _ | .segPowerOn _ _ | .segPowerQuery _ _ | .segStateDisable _ _ | .segStateEnable _ _
  | .segStateSuspend _ _ | .segStateResume _ _ | .segStateSetGen _ _ | .approve _ _ | .deny _ _ | .forget _ _
  | .nodePolicy _ _ | .pinKey _ _ | .nodeFwDistribute _ _ | .distAbort _ _ | .distQuery _ _ | .timeSet _ _ | .timeAdj _ _
  | .imageManifest _ _ _ _ | .imagePiece _ _ _ | .imageAbandon _ _ | .imageScheduleArm _ _ _ | .imageScheduleCancel _ _
  | .imageStatus _ _ | .folioRead _ _ | .censusTake _ _ | .pdMsgSend _ _ | .leaseRenew _ _ | .roleTake _ _ _ => true
  | .unknownOpcode _ _ op => !([0, 1, 2, 3, 4, 5, 6, 7, 0x10, 0x11, 0x12, 0x13, 0x18, 0x19, 0x1A, 0x1B, 0x20, 0x21, 0x28,
      0x29, 0x2A, 0x30, 0x31, 0x38, 0x40, 0x41].contains op.toNat)
  | .registerWrite _ a | .lowerWordRead _ a | .rcFieldRead _ a | .glbFrameRead _ a | .cenWindowRead _ a => decide (1 ≤ a.size)
  | .glbCensusTake _ _ | .warmReset _ _ _ _ | .protHoldRelease _ _ _ => true
  | .ringEnable _ _ ring _ => decide (ring.toNat ≤ 1536)
  | .ringDisable _ _ ring => decide (ring.toNat ≤ 1536)
  | .kick _ _ slots => slots.all fun x => decide (x.ring.toNat ≤ 1536)
  | .bar4Access _ _ _ _ | .secLock _ _ | .hostApprove _ _ | .healthConfirm _ _ | .nvmCmdErase _ _ _
  | .nvmCmdBlankCheck _ _ _ _ | .nvmCmdVerify _ _ _ _ | .nvmScan _ _ | .spwStore _ _ => true
  | .spwCtrlOnWrite _ _ port _ => segPort port
  | .lnkEnable _ _ _ | .lnkDisable _ _ _ | .rateUp _ _ _ | .rateDown _ _ _ | .retrain _ _ _ | .lnkPolicyApprove _ _ _
  | .lnkPolicyDeny _ _ _ | .libEngineMove _ _ _ | .vacatedClear _ _ _ | .rsvFaultClear _ _ _ | .pwrTargetA0 _ _ _
  | .pwrTargetA1 _ _ _ | .pwrTargetLull _ _ _ | .pwrTargetVault _ _ _ | .watchStore _ _ _ | .watchLoad _ _ _
  | .sealTest _ _ | .flush _ _ | .folioErase _ _ _ | .disconnect _ _ | .pdPolicyWrite _ _ _ => true
  | .identify _ _ | .regRead _ _ | .regWrite _ _ | .maintFolioRead _ _ | .maintImagePiece _ _ _ | .maintImageStatus _ _
  | .restart _ _ _ => true
  | .maintUnknownOp _ _ op => !([1, 2, 3, 4, 5, 6, 7].contains op.toNat)
  | .frameBoundary _ | .gustSlotBoundary _ | .epochBoundary _ => true
  | .doorbellSweep _ _ d => d.slots.all fun x => decide (x.ring.toNat ≤ 1536)
  | .voteScrub _ _ | .parityFault _ _ _ | .sramPatrolScrub _ _ | .sramUncorrectable _ _ _ _ _ => true
  | .leaseExpiry _ | .orphanStartTimeout _ => true
  | .interruptModerationTimeout _ _ ring => decide (ring.toNat ≤ 1536)
  | .nodeKeepalive _ port _ => vfpPort port
  | .discoverSweep _ port => segPort port
  | .discoverRepeat _ port => segPort port
  | .replyWindowExpiry _ port => vfpPort port
  | .controlTimeout _ port _ => vfpPort port
  | .bulkNakTimeout _ port => vfpPort port
  | .resumeEnd _ port => segPort port
  | .cov _ port _ | .data _ port _ _ _ _ | .ack _ port _ | .nyet _ port _ | .nak _ port _ | .stall _ port _
  | .hello _ port _ _ => segPort port
  | .foreignFrame _ port => segPort port
  | .currentStep _ port => segPort port
  | .currentDrop _ port => segPort port
  | .remoteWake _ port => segPort port
  | .lineFault _ port => segPort port
  | .linkPresence _ p => linkNo p.link
  | .autonegComplete _ l _ => linkNo l
  | .c2mRateTrialTimeout _ l => linkNo l
  | .trainingComplete _ l _ => linkNo l
  | .trainingTimeout _ l => linkNo l
  | .markerLock _ l _ => linkNo l
  | .noPartnerTimeout _ l => linkNo l
  | .laneFail _ l _ _ => linkNo l
  | .laneRejoinAttempt _ l => linkNo l
  | .replayTimeout _ l => linkNo l
  | .noFlitsTimeout _ l => linkNo l
  | .presenceLost _ l => linkNo l
  | .rateChangeTimeout _ l => linkNo l
  | .linkHoldTimeout _ _ _ _ _ | .cplHoldExpiry _ _ => true
  | .goodbyeDrainEnd _ l => linkNo l
  | .llctlNak _ l _ => linkNo l
  | .creditInit _ l _ _ _ _ => linkNo l
  | .rateStep _ l _ _ => linkNo l
  | .laneDrop _ l _ => linkNo l
  | .laneRejoin _ l _ _ => linkNo l
  | .goodbye _ l _ => linkNo l
  | .desc _ _ _ _ | .cpl _ _ _ _ _ | .record _ _ _ _ | .fault _ _ _ _ => true
  | .gustSense _ _ _ _ _ | .gustAct _ _ _ _ _ _ _ | .gustSubscribe _ _ _ | .gustUnsubscribe _ _ | .gustDeposit _ _ _
  | .gustWithdraw _ _ | .gustResult _ _ _ _ _ _ | .config _ _ | .role _ _ _ _ _
  | .roleAck _ _ _ | .timeSyncSend _ _ | .timeReply _ _ _ | .timeSyncLoss _ | .vfpMessage _ _ _
  | .stream _ _ _ _ _ | .streamAck _ _ _ _ | .grantTimeout _ _ _ | .streamAckTimeout _ _ _ => true
  | .timeSync _ m => decide (m.frame < 2 ^ 32)
  | .lid _ l _ => linkNo l
  | .lauth _ l _ => linkNo l
  | .ptmExchange _ _ _ | .ppsInEdge _ _ | .ppsLoss _ | .zdaSentence _ _ _ _ | .holdoverExpiry _ | .slewComplete _
  | .ppsOutPulse _ | .timeRefLoss _ | .timeRefRestore _ | .refclkSysLoss _ | .refclkSysRestore _ _
  | .confirmWindowExpiry _ _ | .activating _ | .scheduledActivation _ _ => true
  | .backoffExpiry _ port => segPort port
  | .retryCountReset _ port => segPort port
  | .rampComplete _ port => segPort port
  | .breakerTrip _ port _ _ => segPort port
  | .openSenseTest _ bank shifts => decide (bank < 6) && shifts.length == 8
  | .squallLatch _ | .squallShed _ | .sealComplete _ | .squallRecovery _ => true
  | .watchCycle _ bank _ => decide (bank < 6)
  | .thermalReading _ temps => temps.length == 8
  | .thermalAutoRestart _ _ | .vaultTimerExpiry _ _ => true
  | .domainWakeStepTimeout _ dom _ => decide (dom.toNat < 14)
  | .serviceCoreFailure _ _ _ _ => true
  | .engineFailure _ port _ => segPort port
  | .lockstepMismatch _ _ | .watchdogExpiry _ _ | .bootSyncComplete _ | .censusCopyComplete _ | .folioProgram _
  | .folioEraseAheadDone _ | .hostDmaError _ _ _ | .atomicFail _ _ | .busMasterEnable _ _ _ | .powerOnReset _ _
  | .perst _ _ | .singlePerst _ _ | .typecAttach _ _ _ _ _ | .typecDetach _ | .pdMessage _ _ | .hardReset _
  | .senderResponseTimeout _ | .hostResponseTimeout _ | .errorRecoveryEnd _ | .frsVbusCheck _ _ | .vbusRemoved _ _
  | .deadBatteryStart _ => true
  | .flitReceived _ l f => linkNo l && f.bytes.length == 256
  | .flashOperationComplete _ _ | .nvmScrubScan _ | .nvmScanEnd _ _ | .trngHealthFailure _ _ | .trngRecovery _
  | .powerTransitionComplete _ | .pcieLinkUp _ _ _ _ | .perstNRelease _ _ _
  | .busMasterEnableClear _ _ | .atomicopRequesterEnable _ _ _ => true
  | .calibrationComplete _ l => linkNo l
  | .msixUnmask _ _ _ | .hostTlpInLull _ _ | .aoRailChange _ _ => true
  | .senseSample _ port _ => segPort port
  | .softStartEnd _ port => segPort port
  | .ppsOutFall _ => true
  | .lineFaultEnd _ port => segPort port
  | .maintConfigured _ => true

end Sys2Proof.WellFormed
end

