-- ==== Sys2Proof/Machine/EpRows.lean ====
section
/-! DEFINITION. Descriptors to endpoints: NOP, unknown opcodes, WRITE_EP, WRITE_EP_CONFIRMED, READ_EP, CONFIG_EP
(R84 to R88, R126, R139, R149, R166, R234). -/
namespace Sys2Proof.Machine
open Sys2Proof.WellFormed

/-! ## Rules of the opcode table -/

/-- LENGTH is not used: 0 is in use. -/
def LenRule.zero : LenRule := ⟨true, 0, false, false, none⟩
/-- LENGTH is ignored. -/
def LenRule.ignored : LenRule := ⟨false, 0, false, false, none⟩
/-- LENGTH up to a maximum, from or to DATA_ADDR. -/
def LenRule.upTo (n : Nat) : LenRule := ⟨true, n, false, false, none⟩
/-- LENGTH of a transfer with an endpoint: up to a maximum and to the endpoint's buffer. -/
def LenRule.transfer (n : Nat) : LenRule := ⟨true, n, false, true, none⟩

def ruleNop : OpRule := { opcode := 0x00, standby := true, len := .zero, here := true }
def ruleUnknown (op : Nat) : OpRule := { opcode := op, standby := true, len := .ignored, here := true }
def ruleWriteEp : OpRule := { opcode := 0x01, standby := false, len := ⟨true, 64, true, true, none⟩ }
def ruleWriteConfirmed : OpRule := { opcode := 0x02, standby := false, len := ⟨true, 64, true, true, none⟩ }
def ruleReadEp (here : Bool) : OpRule :=
  { opcode := 0x03, standby := true, len := ⟨true, 64, false, true, none⟩, here := here }
def ruleConfigEp : OpRule := { opcode := 0x04, standby := false, len := .ignored }
def ruleConfigQuery : OpRule := { opcode := 0x04, standby := true, len := .upTo 40 }

/-! ## NOP and unknown opcodes -/

/-- NOP: fetched (opcode table). -/
def opNop (x : Desc) (s : State) : State := complete s x Status.done 0

/-- An unknown opcode is INERT (R85). -/
def opUnknown (x : Desc) (s : State) : State := complete s x Status.inert 0

/-! ## Quarantine (R149) -/

/-- Does a TEA name a quarantined node. -/
def quarantinedNode (s : State) (tea : Nat) : Bool :=
  teaNode tea != 0 && (s.node (nodeKey (teaPort tea) (teaNode tea))).quarantined

/-- Does a TEA name an endpoint 1 to 31 of a quarantined node. -/
def quarantinedEp (s : State) (tea : Nat) : Bool := teaEp tea != 0 && quarantinedNode s tea

/-! ## Writes -/

/-- Why a descriptor to an endpoint of this hub cannot be carried: node 0, endpoint 0, quarantine or an endpoint the node
does not have are DENIED, a stopped endpoint STALLED (R135, R149, R166, R183, R234). -/
def epBlock (s : State) (tea : Nat) : Option Status :=
  let p := teaPort tea
  let node := teaNode tea
  let e := teaEp tea
  if node = 0 ∨ e = 0 then some Status.denied
  else if (s.node (nodeKey p node)).quarantined then some Status.denied
  else if (s.ep (teaKey tea)).info.isNone then some Status.denied
  else if (s.ep (teaKey tea)).stopped then some Status.stalled
  else none

/-- Store a host write for its endpoint: it replaces a posted write still buffered (R86). -/
def storeWrite (s : State) (x : Desc) (posted : Bool) (data : List Byte) : State :=
  s.modEp (teaKey x.tea) fun c => { c with
    outVal := data, hostWrites := (c.hostWrites.filter fun w => !w.posted) ++ [⟨x.id, posted, false, x, data⟩] }

/-- A broadcast WRITE_EP waits for its OUT; a newer one to the same endpoint replaces it (R126) (DEDUCED, log entry
36). -/
def storeBroadcast (s : State) (x : Desc) : State :=
  let p := teaPort x.tea
  let e := teaEp x.tea
  if e = 0 then complete s x Status.denied
  else if (s.seg p).st = 0 then complete s x Status.withdrawn
  else
    let old := (s.seg p).bcast.filter fun b => b.1 == e
    let s1 := s.modSeg p fun g => { g with
      bcast := (g.bcast.filter fun b => b.1 != e) ++ [(e, ⟨x.id, false, false, x, x.data⟩)] }
    old.foldl (fun s b => completeId s b.2.desc Status.accepted b.2.data.length) s1

/-- WRITE_EP and WRITE_EP_CONFIRMED (R86, R139): a posted write completes ACCEPTED on storage (DEDUCED, log entry 36).
-/
def opWrite (posted : Bool) (x : Desc) (s : State) : State :=
  if teaNode x.tea = 255 then storeBroadcast s x
  else match epBlock s x.tea with
    | some st => complete s x st
    | none =>
      let c := s.ep (teaKey x.tea)
      if !c.periodic then complete s x Status.denied
      else
        let n := Nat.min x.len c.maxLen
        let y := { x with len := n, data := x.data.take n }.noted (n != x.len)
        let s1 := modDesc (clampDesc s x (n != x.len)) x.id fun _ => y
        let s2 := storeWrite s1 y posted y.data
        if posted then complete s2 y Status.accepted n else s2

def opWriteEp (x : Desc) (s : State) : State := opWrite true x s
def opWriteEpConfirmed (x : Desc) (s : State) : State := opWrite false x s

/-! ## READ_EP -/

/-- The bytes READ_EP writes: a header in the EQ layout and the latest sample up to LENGTH (R87, R251) (DEDUCED, log
entry 36). -/
def readBytes (s : State) (x : Desc) : List Byte :=
  let c := s.ep (ctxKey s x.tea)
  let data := if c.held = 0 then [] else (c.sample.getD []).take x.len
  let seq := (s.seqs.getD x.tea 0 + 65535) % 65536
  eqHeader { tea := x.tea, kind := 1, tq := c.sampleTq, late := false, coalesced := false, seq := seq,
             capture := c.sampleCap, delivery := treeNs s, data := data } false false false ++ data

/-- READ_EP: no transaction on the field (R87); a stopped endpoint answers STALLED (R135), one that is not periodic
DENIED (DEDUCED, log entry 36). -/
def opReadEp (x : Desc) (s : State) : State :=
  let k := ctxKey s x.tea
  let c := s.ep k
  let node := teaNode x.tea
  let block := if node = 0 then (if configurable x.tea then none else some Status.denied)
    else if teaHub x.tea = hubOf s then epBlock s x.tea else none
  match block with
  | some st => complete s x st
  | none =>
    if !c.periodic then complete s x Status.denied
    else
      let bs := readBytes s x
      complete (hostWrite s x bs) x Status.done (bs.length - 24)

/-! ## CONFIG_EP -/

/-- May every endpoint a CONFIG_EP names be configured; a quarantined node's may not (R149, R166, R234). -/
def configDenied (s : State) (x : Desc) : Bool :=
  (maskTeas x.tea 10 x.args).any (fun t => !configurable t) || quarantinedNode s x.tea

/-- CONFIG_EP takes effect at the next frame boundary (R88) (DEDUCED, log entry 37). -/
def opConfigEp (x : Desc) (s : State) : State :=
  if configDenied s x then complete s x Status.denied else s.atFrame (.config x.id)

/-- CONFIG_EP QUERY: the effective values of the lowest named endpoint (R88) (DEDUCED, log entry 37). -/
def opConfigQuery (x : Desc) (s : State) : State :=
  if configDenied s x then complete s x Status.denied
  else
    let t := (maskTeas x.tea 10 x.args).headD x.tea
    let bs := (queryBytes (s.ep (teaKey t))).take x.len
    complete (hostWrite s x bs) x Status.done bs.length

/-- CONFIG_EP by its QUERY flag. -/
def configRule (d : SqEntry) : OpRule := if bitOf (byteAt d.args 8) 1 then ruleConfigQuery else ruleConfigEp
def opConfigAny (x : Desc) (s : State) : State :=
  if bitOf (byteAt x.args 8) 1 then opConfigQuery x s else opConfigEp x s

/-! ## Commands -/

/-- NOP. -/
def execNop (t : Nat) (d : SqEntry) (s : State) : Host.Outcome State Fault Refusal :=
  whenWf (wf (.nop t d)) t s <| effect t s fun s => fetched s d ruleNop opNop

/-- An opcode that is not in the table. -/
def execUnknownOpcode (t : Nat) (d : SqEntry) (opcode : Byte) (s : State) : Host.Outcome State Fault Refusal :=
  whenWf (wf (.unknownOpcode t d opcode)) t s <| effect t s fun s =>
    fetched s d (ruleUnknown opcode.toNat) opUnknown

/-- WRITE_EP. -/
def execWriteEp (t : Nat) (d : SqEntry) (s : State) : Host.Outcome State Fault Refusal :=
  whenWf (wf (.writeEp t d)) t s <| effect t s fun s => settle (fetched s d ruleWriteEp opWriteEp)

/-- WRITE_EP_CONFIRMED. -/
def execWriteEpConfirmed (t : Nat) (d : SqEntry) (s : State) : Host.Outcome State Fault Refusal :=
  whenWf (wf (.writeEpConfirmed t d)) t s <| effect t s fun s =>
    settle (fetched s d ruleWriteConfirmed opWriteEpConfirmed)

/-- Is READ_EP to a TEA answered at the root: its buffer is in the root's region (R248). -/
def readHere (s : State) (d : SqEntry) : Bool := (s.ep (ctxKey s d.tea.toNat)).reserve

/-- READ_EP. -/
def execReadEp (t : Nat) (d : SqEntry) (s : State) : Host.Outcome State Fault Refusal :=
  whenWf (wf (.readEp t d)) t s <| effect t s fun s => fetched s d (ruleReadEp (readHere s d)) opReadEp

/-- CONFIG_EP. -/
def execConfigEp (t : Nat) (d : SqEntry) (s : State) : Host.Outcome State Fault Refusal :=
  whenWf (wf (.configEp t d)) t s <| effect t s fun s => fetched s d (configRule d) opConfigAny

/-- CONFIG_EP with QUERY. -/
def execConfigEpQuery (t : Nat) (d : SqEntry) (s : State) : Host.Outcome State Fault Refusal :=
  whenWf (wf (.configEpQuery t d)) t s <| effect t s fun s => fetched s d (configRule d) opConfigAny

end Sys2Proof.Machine
end

