-- ==== Sys2Proof/Machine/Shadow.lean ====
section
/-! DEFINITION. Buffered writes (R48, R49, R51, R52, R59): the shadow of a register, when it closes, and its boundary. -/
namespace Sys2Proof.Machine

/-- The bits of a register whose fields meet a test. -/
def fieldsMask (a : Nat) (p : FieldDef → Bool) : Nat :=
  match Reg.at a with
  | some (_, r) => (r.fields.filter p).foldl (fun m f => m + (2 ^ f.width - 1) * 2 ^ f.lo) 0
  | none => 0

/-- Is a field written through a shadow (R48). -/
def FieldDef.buffered (f : FieldDef) : Bool := decide (f.ap ≠ .imm) && decide (f.ap ≠ .boot)

/-- The bits of a register that are written through its shadow. -/
def bufMask (a : Nat) : Word := BitVec.ofNat 32 (fieldsMask a FieldDef.buffered)

/-- A word with the bits under a mask taken from another. -/
def mergeWord (old new mask : Word) : Word := (old &&& ~~~mask) ||| (new &&& mask)

/-- The boundary at which the buffered fields of a register apply; none when it has no such field. -/
def regApplies (a : Nat) : Option Applies :=
  match Reg.at a with
  | some (_, r) => (r.fields.find? FieldDef.buffered).map fun f => f.ap
  | none => none

/-- The block bit of a register (R59). -/
def regBlock (a : Nat) : Nat := match Reg.at a with
  | some (b, _) => b
  | none => 0

/-- The next boundary of a kind on the frame clock (R20, R238). -/
def nextBoundary (s : State) : Applies → Nat
  | .slot => if s.fc.slot < 7 then s.fc.frameStart + (s.fc.slot + 1) * 125000 else s.fc.frameStart + 1000000
  | .epoch =>
    let ms := Nat.max 1 (s.fld Reg.LIB_EPOCH Fld.LIB_EPOCH_MS)
    s.fc.frameStart + (ms - s.fc.frameNo % ms) * 1000000
  | _ => s.fc.frameStart + 1000000

/-- Has the shadow of the next boundary closed: its last 1 µs has begun (R48). -/
def closed (s : State) (k : Applies) : Bool := decide (nextBoundary s k ≤ s.fc.now + 1000)

/-- The value of a register with what is pending (R45, R49). -/
def pendingWord (s : State) (a : Nat) : Word :=
  match s.shadows.find a with
  | some x => mergeWord (s.rd a) ((x.late.orElse fun _ => x.value).getD (s.rd a)) (bufMask a)
  | none => s.rd a

/-- The value a register has when a write of now takes effect: the live one, or what the shadow that has closed brings. -/
def beforeWrite (s : State) (a : Nat) : Word :=
  match (s.shadows.find a).bind fun x => x.value with
  | some w => if closed s ((regApplies a).getD .frame) then mergeWord (s.rd a) w (bufMask a) else s.rd a
  | none => s.rd a

/-- Write the shadow of a register: the last write before the close wins, a later one belongs to the boundary after
(R48) (DEDUCED, log entry 18). -/
def shadowPut (s : State) (a : Nat) (w : Word) : State :=
  let k := (regApplies a).getD .frame
  let x := (s.shadows.find a).getD ⟨none, none⟩
  { s with shadows := s.shadows.insert a (if closed s k then { x with late := some w } else ⟨some w, none⟩) }

/-- The registers with a shadow that reaches the live field at a boundary of a kind, those of a held block too (R51)
(DEDUCED, log entry 18). -/
def shadowsDue (s : State) (k : Applies) : List (Nat × Shadow) :=
  s.shadows.filter fun kv => decide (regApplies kv.1 = some k)

/-- Move the buffered fields of one shadow to its live register (DEDUCED, log entry 18). -/
def shadowTake (s : State) (kv : Nat × Shadow) : State :=
  let s1 := match kv.2.value with
    | some w => s.wr kv.1 (mergeWord (s.rd kv.1) w (bufMask kv.1))
    | none => s
  { s1 with shadows := match kv.2.late with
    | some w => s1.shadows.insert kv.1 ⟨some w, none⟩
    | none => s1.shadows.erase kv.1 }

/-- A boundary of a kind: every shadow due reaches its live register (DEDUCED, log entry 18). -/
def applyShadows (s : State) (k : Applies) : State := forEach (shadowsDue s k) s shadowTake

/-- The bits of GLB_APPLY_PENDING.BLOCK (R52). -/
def pendingBlocks (s : State) : Nat := bitmapOf (s.shadows.map fun kv => regBlock kv.1)

end Sys2Proof.Machine
end

