-- ==== Sys2Proof/Machine/Admin.lean ====
section
/-! DEFINITION. Descriptors that administer the hub: shelves (R239), hints (R252), Gust rules (R264, R265), segment states
(R161 to R165), node approval (R148 to R150), the census (R64 to R66, R89). -/
namespace Sys2Proof.Machine

/-! ## Shelves (R239) -/

def ruleShelf : OpRule := { opcode := 0x10, standby := true, len := .ignored, here := true }
def ruleShelfQuery : OpRule := { opcode := 0x10, standby := true, len := .upTo 40, here := true }

/-- SHELF_DEFINE by its ACTION. -/
def shelfRule (d : SqEntry) : OpRule := if byteAt d.args 2 = 2 then ruleShelfQuery else ruleShelf

/-- The shelf number a SHELF_DEFINE names, clamped. -/
def shelfNo (x : Desc) : Nat := Nat.min 4095 (leAt x.args 0 2)

/-- The ring indices it lists. -/
def shelfRings (x : Desc) : List Nat :=
  (List.range (clampNat 1 8 (byteAt x.args 3))).map fun i => leAt x.args (4 + 2 * i) 2

/-- The rings that can stand. -/
def goodRings (x : Desc) : List Nat := (shelfRings x).filter fun i => decide (512 ≤ i) && decide (i ≤ 1535)

/-- DEFINE and DELETE are checked at fetch and take effect at the next frame boundary (DEDUCED, log entry 80). -/
def opShelfSet (del : Bool) (x : Desc) (s : State) : State :=
  let clamp := decide (4095 < leAt x.args 0 2) || (!del && (clampNat 1 8 (byteAt x.args 3) != byteAt x.args 3 ||
    (goodRings x).length != (shelfRings x).length || decide (1 < byteAt x.args 20)))
  let s1 := clampDesc s x clamp
  if !del && (goodRings x).isEmpty then complete s1 x Status.denied else s1.atFrame (.shelf x.id)

/-- Bytes 24 to 63 of a shelf's effective definition. -/
def shelfBytes (n : Nat) (sh : Shelf) : List Byte :=
  leBytes 2 n ++ leBytes 1 0 ++ leBytes 1 sh.rings.length ++
    fitBytes 16 (sh.rings.flatMap fun i => leBytes 2 i) ++ leBytes 1 (b2n sh.byTea) ++ leBytes 19 0

/-- QUERY. -/
def opShelfQuery (x : Desc) (s : State) : State :=
  let s1 := clampDesc s x (decide (4095 < leAt x.args 0 2))
  match (s.shelvesOf x.fn).find (shelfNo x) with
  | some sh =>
    let bs := (shelfBytes (shelfNo x) sh).take x.len
    complete (hostWrite s1 x bs) x Status.done bs.length
  | none => complete s1 x Status.done 0

/-- What a SHELF_DEFINE does, by its ACTION. -/
def opShelf (x : Desc) (s : State) : State :=
  if x.tea ≠ 0 then complete s x Status.denied
  else match byteAt x.args 2 with
    | 0 => opShelfSet false x s
    | 1 => opShelfSet true x s
    | 2 => opShelfQuery x s
    | _ => complete s x Status.denied

/-- A shelf definition takes effect: endpoints of removed rings move, those of a shelf not defined before are placed
(R239, R241, R243). -/
def applyShelf (s : State) (x : Desc) : State :=
  let n := shelfNo x
  let old := (s.shelvesOf x.fn).find n
  if byteAt x.args 2 = 1 then complete (unshelve (s.setShelves x.fn ((s.shelvesOf x.fn).erase n)) x.fn n) x Status.done
  else
    let mode := match byteAt x.args 20 with
      | 0 => false
      | 1 => true
      | _ => (old.map fun h => h.byTea).getD false
    let s1 := s.setShelves x.fn ((s.shelvesOf x.fn).insert n ⟨mode, goodRings x⟩)
    complete (replaceEps s1 x.fn) x Status.done

/-! ## Hints (R252) -/

def ruleHint : OpRule := { opcode := 0x11, standby := false, len := .zero, here := true }

/-- Endpoints a PLACE_HINT names: those of EP_MASK, or its TEA's own. -/
def hintTeas (x : Desc) : List Nat := maskTeas x.tea 8 x.args

/-- May an endpoint carry a hint: endpoint 0 of node 0 and the broadcast address may not (R18, R166). -/
def hintable (t : Nat) : Bool := teaNode t != 255 && configurable t

/-- Store a hint with every named endpoint (DEDUCED, log entry 72). -/
def storeHint (x : Desc) (h : Hint) (s : State) : State :=
  forEach (hintTeas x) s fun s t => s.modEp (ctxKey s t) fun c => { c with hint := h }

/-- PREFER_RESERVE is ignored for an endpoint that is not eligible. -/
def storePrefer (x : Desc) (s : State) : State :=
  let ok := fun t => eligible s (ctxKey s t)
  let s1 := forEach ((hintTeas x).filter ok) s fun s t => s.modEp (ctxKey s t) fun c => { c with hint := .preferReserve }
  clampDesc s1 x ((hintTeas x).any fun t => !ok t)

/-- What a PLACE_HINT does, by its KIND (DEDUCED, log entry 72). -/
def opHint (x : Desc) (s : State) : State :=
  if 5 ≤ byteAt x.args 0 ∨ (hintTeas x).any (fun t => !hintable t || quarantinedEp s t) then complete s x Status.denied
  else
    let ring := leAt x.args 2 2
    let s1 := match byteAt x.args 0 with
      | 0 => storeHint x .none s
      | 1 => clampDesc (storeHint x (.pinRing (clampNat 512 1535 ring)) s) x (clampNat 512 1535 ring != ring)
      | 2 => storeHint x .pinStacks s
      | 3 => storeHint x (.affinity (leAt x.args 4 3)) s
      | _ => storePrefer x s
    complete s1 x Status.done

/-! ## Gust rules (R264, R265) -/

def ruleGustLoad : OpRule := { opcode := 0x12, standby := false, len := .upTo 1024, mgmt := true }
def ruleGustSwitch : OpRule := { opcode := 0x13, standby := false, len := .zero, mgmt := true }

/-- The placement hub of a rule. -/
def placementHub (r : Rule) : Nat :=
  match r.teas with
  | [] => 0
  | t :: rest => if teaHub t != 0 && rest.all fun u => teaHub u == teaHub t then teaHub t else 0

/-- A rule as bytes of a GUST_LOAD give it. -/
def ruleFrom (bs : List Byte) : Rule := { Rule.reset with bytes := storedRule bs }

/-- Does R18 let the hub and the port of a TEA stand. -/
def hubPortThere (s : State) (tea : Nat) : Bool :=
  if 48 ≤ teaPort tea && 2 ≤ teaNode tea then false
  else if teaHub tea = hubOf s then !carriesBranch s (teaPort tea) else branchThere s (teaHub tea)

/-- May a rule be stored at an index of this hub (DEDUCED, log entry 73). -/
def loadable (s : State) (i : Nat) (r : Rule) : Bool :=
  placementHub r == hubOf s && (r.action == 0 || r.action == 3 || r.target / 65536 % 32 == hubOf s) &&
    r.teas.all (fun t => hubPortThere s t) && decide (i < 65536) && !(s.rule i).enabled

/-- GUST_LOAD: all of its rules are stored, disabled, or none (DEDUCED, log entry 73). -/
def opGustLoad (x : Desc) (s : State) : State :=
  let n := x.len / 32
  let first := leAt x.args 0 2
  let raw := (List.range n).map fun k => (x.data.drop (32 * k)).take 32
  let rs := (List.range n).map fun k => (first + k, ruleFrom (raw.getD k []))
  if !(rs.all fun q => loadable s q.1 q.2) then complete s x Status.denied
  else
    let s1 := forEach rs (clampDesc s x (n * 32 != x.len || raw.any fun b => storedRule b != b)) fun s q => s.setRule q.1 q.2
    complete (gustShow s1) x Status.done n

/-- GUST_ENABLE and GUST_DISABLE apply at the next gust slot. -/
def opGustSwitch (x : Desc) (s : State) : State :=
  let first := leAt x.args 0 2
  let asked := leAt x.args 2 2
  let n := Nat.min (Nat.max 1 asked) (65536 - first)
  if 2 ≤ byteAt x.args 4 then complete s x Status.denied
  else
    let s1 := clampDesc s x (n != asked)
    { s1 with ruleReqs := s1.ruleReqs ++ [⟨first, n, byteAt x.args 4 == 1, some x.id, none⟩] }

/-! ## Segment states (R161 to R165) -/

def ruleSegState : OpRule := { opcode := 0x19, standby := false, len := .zero }

/-- Does a TEA name a segment port: h.port.0.0 with port 0 to 47. -/
def portForm (tea : Nat) : Bool := decide (teaPort tea < 48) && teaNode tea == 0 && teaEp tea == 0

/-- A value for SEG_CTRL as it is accepted: a generation other than the live one for a segment that stays enabled keeps the
live one (R161). Answers whether that clamped. -/
def segCtrlWord (s : State) (p : Nat) (w : Word) : Word × Bool :=
  let live := beforeWrite s (Reg.SEG_CTRL p)
  let prev := getField live Fld.SEG_CTRL_GEN
  let on := getField live Fld.SEG_CTRL_ENABLE == 1 && getField w Fld.SEG_CTRL_ENABLE == 1
  if on && getField w Fld.SEG_CTRL_GEN != prev then (putField w Fld.SEG_CTRL_GEN prev, true) else (w, false)

/-- The value of SEG_CTRL that a SEG_STATE asks for, and whether a clamp changed it (R161, R163). -/
def segStateWord (s : State) (p : Nat) (action gen : Nat) : Word × Bool :=
  let w := pendingWord s (Reg.SEG_CTRL p)
  match action with
  | 0 => segCtrlWord s p (putField w Fld.SEG_CTRL_ENABLE 0)
  | 1 => segCtrlWord s p (putField w Fld.SEG_CTRL_ENABLE 1)
  | 2 => (putField w Fld.SEG_CTRL_SUSPEND 1, false)
  | 3 => (putField w Fld.SEG_CTRL_SUSPEND 0, false)
  | _ => if gen = 0 ∨ 3 < gen then (w, true) else segCtrlWord s p (putField w Fld.SEG_CTRL_GEN gen)

/-- The effect of a SEG_STATE: the shadow of SEG_CTRL, and DONE at the next frame boundary. -/
def segStateDo (s : State) (x : Desc) : State :=
  let p := teaPort x.tea
  let z := segStateWord s p (byteAt x.args 0) (byteAt x.args 1)
  (shadowPut (clampDesc s x z.2) (Reg.SEG_CTRL p) z.1).atFrame (.applied x.id)

/-- What a SEG_STATE does, by its ACTION; while the SEG block is held it stays queued (R163). -/
def opSegState (x : Desc) (s : State) : State :=
  if !portForm x.tea ∨ 5 ≤ byteAt x.args 0 then complete s x Status.denied
  else if isHeld s 13 then s.atFrame (.segState x.id)
  else segStateDo s x

/-- The SEG_STATE descriptors that waited for the end of a hold, in the order fetched (R163). -/
def segStatesGo (s : State) : State :=
  let ids := s.later.filterMap fun l => match l with
    | .segState d => some d
    | _ => none
  let s1 := { s with later := s.later.filter fun l => match l with
    | .segState _ => false
    | _ => true }
  forEach ids s1 fun s d => match inFlight s d with
    | some x => segStateDo s x
    | none => s

/-! ## Node approval (R148 to R150) -/

def ruleApprove : OpRule := { opcode := 0x1A, standby := false, len := .zero }

/-- The address of an attached or attaching node of an identity on a port. -/
def nodeOf (s : State) (p identity : Nat) : Option Nat :=
  (nodesOf s p).find? fun n => (s.node (nodeKey p n)).identity == identity

/-- Can a node be authenticated now (R151, R373). -/
def canAuth (s : State) (p node : Nat) : Bool := capSecure (s.node (nodeKey p node)).caps && !s.trngBad

/-- Authenticate a node again; one that cannot be has failed, and one that is being authenticated goes on (R148, R151). -/
def authAgain (s : State) (p node : Nat) : State :=
  let n := s.node (nodeKey p node)
  let s1 := s.modNode (nodeKey p node) fun n => { n with endpointsAgain := nodeThere s p node }
  if n.phase = .auth then s
  else if canAuth s p node then startAuth s1 p node
  else authFailed s1 p node Stranger.authFail (capSecure n.caps)

/-- Approve a quarantined node that is here: authentication on a secure port, then its address, then ATTACH. A node whose
attach still runs is approved when it gets there (R150) (DEDUCED, log entry 29). -/
def approveHere (s : State) (x : Desc) (p node addr : Nat) : State :=
  let k := nodeKey p node
  let n := s.node k
  let s1 := s.modNode k fun n => { n with approve := n.approve ++ [x.id], moveTo := addr, approvedNow := true }
  if !nodeThere s p node then s1
  else if (s.seg p).secure then authAgain s1 p node
  else if n.endpointsAgain then s1
  else approvedHere (s1.modNode k fun n => { n with quarantined := false }) p node

/-- Is an address of a port held by another identity: by its entry, or promised to its node by an approval (R150). -/
def heldByOther (s : State) (p addr id : Nat) : Bool :=
  decide (addr ≠ 0) && ((match catAt s p addr with
    | some y => y.identity != id
    | none => false) ||
    (nodesOf s p).any fun n => (s.node (nodeKey p n)).moveTo == addr && (s.node (nodeKey p n)).identity != id)

/-- APPROVE (DEDUCED, log entry 29). The table has no row for an identity that is denied while its node is still attached
and not quarantined: its entry becomes approved again (DESIGN CHOICE, log entry 88). -/
def opApprove (x : Desc) (s : State) : State :=
  let p := teaPort x.tea
  let addr := byteAt x.args 1
  let id := leAt x.args 2 8
  if addr == 255 || heldByOther s p addr id then complete s x Status.denied
  else match catOn s p id with
    | none =>
      if catFull s then complete s x Status.denied
      else complete (catPut s ⟨id, p, addr, .preApproved, none, 0⟩) x Status.done
    | some e =>
      let want := if addr = 0 then e.addr else addr
      match nodeOf s p id with
      | some node =>
        if (s.node (nodeKey p node)).quarantined then approveHere s x p node want
        else complete (if decide (e.st = .denied) then catPut s { e with st := .approved } else s) x Status.done
      | none =>
        complete (catPut s { e with addr := want, st := if decide (e.st = .approved) then .approved else .preApproved })
          x Status.done

/-- DENY (DEDUCED, log entry 29). -/
def opDeny (x : Desc) (s : State) : State :=
  let p := teaPort x.tea
  let id := leAt x.args 2 8
  let mark := fun (s : State) => strangerEvent s p Stranger.denied 0 0 0 id
  match catOn s p id with
  | some e => complete (mark (catPut s { e with st := .denied })) x Status.done
  | none =>
    if catFull s then complete s x Status.denied
    else complete (mark (catPut s ⟨id, p, 0, .denied, none, Stranger.denied⟩)) x Status.done

/-- The contexts of a forgotten node return to their reset values. -/
def resetContexts (s : State) (p addr : Nat) : State :=
  forEach (List.range 32) s fun s e =>
    let k := epKey p addr e
    (releaseBuf (endWrites s p addr e Status.nodeAbsent 1) k).setEp k EpCtx.reset

/-- FORGET (DEDUCED, log entry 29). -/
def opForget (x : Desc) (s : State) : State :=
  let p := teaPort x.tea
  let id := leAt x.args 2 8
  match catOn s p id with
  | none => complete s x Status.nodeAbsent
  | some e =>
    let s1 := match nodeOf s p id with
      | some node => detachNode (queueReset s p node) p node 5
      | none => s
    let s2 := if e.addr = 0 then s1 else resetContexts s1 p e.addr
    complete (catDrop s2 p id) x Status.done

/-- POLICY takes effect at the next frame boundary (DEDUCED, log entry 29). -/
def opNodePolicy (x : Desc) (s : State) : State :=
  (clampDesc s x (decide (2 < byteAt x.args 10))).atFrame (.policy x.id)

/-- The policy of a port at its frame boundary. -/
def applyPolicy (s : State) (x : Desc) : State :=
  let p := teaPort x.tea
  let pol := byteAt x.args 10
  let was := s.seg p
  let sec := bitOf (byteAt x.args 11) 0
  let new := if 2 < pol then was.policy else pol
  let s1 := s.modSeg p fun g => { g with policy := new, secure := sec, pfx := leAt x.args 12 4 }
  let s2 := if s.nvm.settingsRo then s1
    else s1.modNvm fun n => { n with policies := n.policies.insert p (new, sec, leAt x.args 12 4) }
  let s3 := if sec && !was.secure then
      forEach ((attachedOf s2 p).filter fun n => !(s2.node (nodeKey p n)).quarantined) s2 fun s n => authAgain s p n
    else s2
  complete s3 x Status.done

/-- PIN_KEY (DEDUCED, log entry 29). -/
def opPinKey (x : Desc) (s : State) : State :=
  let p := teaPort x.tea
  let id := leAt x.args 2 8
  let fp := leAt x.args 16 16
  match catOn s p id with
  | none =>
    if catFull s then complete s x Status.denied
    else complete (catPut s ⟨id, p, 0, .preApproved, some fp, 0⟩) x Status.done
  | some e =>
    let s1 := catPut s { e with keyFp := some fp }
    match nodeOf s p id with
    | some node =>
      if nodeThere s p node && !(s.node (nodeKey p node)).quarantined then
        authAgain (s1.modNode (nodeKey p node) fun n => { n with approve := n.approve ++ [x.id] }) p node
      else complete s1 x Status.done
    | none => complete s1 x Status.done

/-- What a NODE_APPROVE does, by its ACTION. -/
def opNodeApprove (x : Desc) (s : State) : State :=
  if !portForm x.tea then complete s x Status.denied
  else match byteAt x.args 0 with
    | 0 => opApprove x s
    | 1 => opDeny x s
    | 2 => opForget x s
    | 3 => opNodePolicy x s
    | 4 => opPinKey x s
    | _ => complete s x Status.denied

/-! ## The census (R64 to R66, R89) -/

def ruleCensus : OpRule := { opcode := 0x31, standby := true, len := .upTo 2416, here := true }

/-- The register that a position of the CEN window copies (CEN window layout). -/
def cenSource (i : Nat) : Nat :=
  if i < 24 then Reg.GLB_CNT i
  else if i < 408 then Reg.SEG_CNT ((i - 24) / 8) ((i - 24) % 8)
  else Reg.LNK_CNT ((i - 408) / 12) ((i - 408) % 12)

/-- Copy every counter into the CEN window, on one edge. -/
def censusEdge (s : State) : State :=
  let t := treeNs s
  let c := (List.range 600).filterMap fun i => let w := s.rd (cenSource i); if w = 0 then none else some (i, w)
  let s1 := ({ s with cen := c }.bump Reg.GLB_CENSUS_SEQ 1).setFlag Reg.GLB_CENSUS Fld.GLB_CENSUS_BUSY true
  (s1.wr Reg.GLB_CENSUS_TIME_LO (BitVec.ofNat 32 t)).wr Reg.GLB_CENSUS_TIME_HI (BitVec.ofNat 32 (t / 2 ^ 32))

/-- Is a copy in progress. -/
def censusBusy (s : State) : Bool := s.flag Reg.GLB_CENSUS Fld.GLB_CENSUS_BUSY

/-- Write of GLB_CENSUS.TAKE (DEDUCED, log entry 80). -/
def censusTake (s : State) : State :=
  if censusBusy s then s.setFlag Reg.GLB_CENSUS Fld.GLB_CENSUS_DROPPED true else censusEdge s

/-- The bytes a CENSUS_TAKE writes. -/
def censusBytes (s : State) : List Byte :=
  leBytes 4 (s.rd Reg.GLB_CENSUS_SEQ).toNat ++ leBytes 4 0 ++ leBytes 4 (s.rd Reg.GLB_CENSUS_TIME_LO).toNat ++
    leBytes 4 (s.rd Reg.GLB_CENSUS_TIME_HI).toNat ++ (List.range 600).flatMap fun i => leBytes 4 (s.cen.getD i 0).toNat

/-- CENSUS_TAKE from a ring (DEDUCED, log entry 80). -/
def opCensus (x : Desc) (s : State) : State :=
  let s1 := if censusBusy s then s else censusEdge s
  complete (hostWrite s1 x ((censusBytes s1).take x.len)) x Status.done (s1.rd Reg.GLB_CENSUS_SEQ).toNat

end Sys2Proof.Machine
end

