-- ==== Sys2Proof/Machine/AdminRows.lean ====
section
/-! DEFINITION. Commands of the descriptors that administer the hub. -/
namespace Sys2Proof.Machine
open Sys2Proof.WellFormed

/-- SHELF_DEFINE (R239). -/
def execShelfDefine (t : Nat) (d : SqEntry) (s : State) : Host.Outcome State Fault Refusal :=
  whenWf (wf (.shelfDefine t d)) t s <| effect t s fun s => fetched s d (shelfRule d) opShelf

/-- SHELF_DEFINE with DELETE (R239). -/
def execShelfDelete (t : Nat) (d : SqEntry) (s : State) : Host.Outcome State Fault Refusal :=
  whenWf (wf (.shelfDelete t d)) t s <| effect t s fun s => fetched s d (shelfRule d) opShelf

/-- SHELF_DEFINE with QUERY (R239). -/
def execShelfQuery (t : Nat) (d : SqEntry) (s : State) : Host.Outcome State Fault Refusal :=
  whenWf (wf (.shelfQuery t d)) t s <| effect t s fun s => fetched s d (shelfRule d) opShelf

/-- PLACE_HINT CLEAR (R252). -/
def execPlaceHintClear (t : Nat) (d : SqEntry) (s : State) : Host.Outcome State Fault Refusal :=
  whenWf (wf (.placeHintClear t d)) t s <| effect t s fun s => fetched s d ruleHint opHint

/-- PLACE_HINT PIN_RING (R252). -/
def execPinRing (t : Nat) (d : SqEntry) (s : State) : Host.Outcome State Fault Refusal :=
  whenWf (wf (.pinRing t d)) t s <| effect t s fun s => fetched s d ruleHint opHint

/-- PLACE_HINT PIN_STACKS (R252). -/
def execPinStacks (t : Nat) (d : SqEntry) (s : State) : Host.Outcome State Fault Refusal :=
  whenWf (wf (.pinStacks t d)) t s <| effect t s fun s => fetched s d ruleHint opHint

/-- PLACE_HINT AFFINITY (R252). -/
def execAffinity (t : Nat) (d : SqEntry) (s : State) : Host.Outcome State Fault Refusal :=
  whenWf (wf (.affinity t d)) t s <| effect t s fun s => fetched s d ruleHint opHint

/-- PLACE_HINT PREFER_RESERVE (R252). -/
def execPreferReserve (t : Nat) (d : SqEntry) (s : State) : Host.Outcome State Fault Refusal :=
  whenWf (wf (.preferReserve t d)) t s <| effect t s fun s => fetched s d ruleHint opHint

/-- GUST_LOAD (R264). -/
def execGustLoad (t : Nat) (d : SqEntry) (s : State) : Host.Outcome State Fault Refusal :=
  whenWf (wf (.gustLoad t d)) t s <| effect t s fun s => fetched s d ruleGustLoad opGustLoad

/-- GUST_ENABLE (R265). -/
def execGustEnable (t : Nat) (d : SqEntry) (s : State) : Host.Outcome State Fault Refusal :=
  whenWf (wf (.gustEnable t d)) t s <| effect t s fun s => fetched s d ruleGustSwitch opGustSwitch

/-- GUST_ENABLE with DISABLE (R265). -/
def execGustDisable (t : Nat) (d : SqEntry) (s : State) : Host.Outcome State Fault Refusal :=
  whenWf (wf (.gustDisable t d)) t s <| effect t s fun s => fetched s d ruleGustSwitch opGustSwitch

/-- SEG_STATE DISABLE (R164). -/
def execSegStateDisable (t : Nat) (d : SqEntry) (s : State) : Host.Outcome State Fault Refusal :=
  whenWf (wf (.segStateDisable t d)) t s <| effect t s fun s => fetched s d ruleSegState opSegState

/-- SEG_STATE ENABLE (R162). -/
def execSegStateEnable (t : Nat) (d : SqEntry) (s : State) : Host.Outcome State Fault Refusal :=
  whenWf (wf (.segStateEnable t d)) t s <| effect t s fun s => fetched s d ruleSegState opSegState

/-- SEG_STATE SUSPEND (R165). -/
def execSegStateSuspend (t : Nat) (d : SqEntry) (s : State) : Host.Outcome State Fault Refusal :=
  whenWf (wf (.segStateSuspend t d)) t s <| effect t s fun s => fetched s d ruleSegState opSegState

/-- SEG_STATE RESUME (R165). -/
def execSegStateResume (t : Nat) (d : SqEntry) (s : State) : Host.Outcome State Fault Refusal :=
  whenWf (wf (.segStateResume t d)) t s <| effect t s fun s => fetched s d ruleSegState opSegState

/-- SEG_STATE SET_GEN (R161). -/
def execSegStateSetGen (t : Nat) (d : SqEntry) (s : State) : Host.Outcome State Fault Refusal :=
  whenWf (wf (.segStateSetGen t d)) t s <| effect t s fun s => fetched s d ruleSegState opSegState

/-- NODE_APPROVE APPROVE (R150). -/
def execApprove (t : Nat) (d : SqEntry) (s : State) : Host.Outcome State Fault Refusal :=
  whenWf (wf (.approve t d)) t s <| effect t s fun s => settle (fetched s d ruleApprove opNodeApprove)

/-- NODE_APPROVE DENY (R150). -/
def execDeny (t : Nat) (d : SqEntry) (s : State) : Host.Outcome State Fault Refusal :=
  whenWf (wf (.deny t d)) t s <| effect t s fun s => settle (fetched s d ruleApprove opNodeApprove)

/-- NODE_APPROVE FORGET (R150). -/
def execForget (t : Nat) (d : SqEntry) (s : State) : Host.Outcome State Fault Refusal :=
  whenWf (wf (.forget t d)) t s <| effect t s fun s => settle (fetched s d ruleApprove opNodeApprove)

/-- NODE_APPROVE POLICY (R148, R150). -/
def execNodePolicy (t : Nat) (d : SqEntry) (s : State) : Host.Outcome State Fault Refusal :=
  whenWf (wf (.nodePolicy t d)) t s <| effect t s fun s => settle (fetched s d ruleApprove opNodeApprove)

/-- NODE_APPROVE PIN_KEY (R150). -/
def execPinKey (t : Nat) (d : SqEntry) (s : State) : Host.Outcome State Fault Refusal :=
  whenWf (wf (.pinKey t d)) t s <| effect t s fun s => settle (fetched s d ruleApprove opNodeApprove)

/-- CENSUS_TAKE (R89). -/
def execCensusTake (t : Nat) (d : SqEntry) (s : State) : Host.Outcome State Fault Refusal :=
  whenWf (wf (.censusTake t d)) t s <| effect t s fun s => fetched s d ruleCensus opCensus

/-- CENSUS_COPY_COMPLETE: BUSY clears (R64). -/
def execCensusCopyComplete (t : Nat) (s : State) : Host.Outcome State Fault Refusal :=
  whenWf (wf (.censusCopyComplete t)) t s <| effect t s fun s =>
    if censusBusy s then glbInt (s.setFlag Reg.GLB_CENSUS Fld.GLB_CENSUS_BUSY false) 2 else s

end Sys2Proof.Machine
end

