-- ==== Sys2Proof/Machine/Hif.lean ====
section
/-! DEFINITION. The host interface: ring enables and disables (R72, R73, R100, R101), doorbells (R75 to R79), Bus Master
Enable and faults of host accesses (R71, R102), interrupt moderation (R99), the lease and failover (R103 to R107). -/
namespace Sys2Proof.Machine

/-- Does a function exist: PF1 in the dual-host role only; a branch has none (spec/03, functions). -/
def hostThere (s : State) (f : Fn) : Bool := !isBranch s && (decide (f = .pf0) || isDual s)

/-- Is a ring enabled: its bit of HIF_RING_ENABLE reads 1 (R100 to R102). -/
def RingSt.enabled : RingSt → Bool
  | .running | .waiting | .fault => true
  | .off | .draining | .stopped => false

/-- Does a ring take part in doorbell reads: it is enabled and not in FAULT (R76, R78, R102). -/
def RingSt.live : RingSt → Bool
  | .running | .waiting => true
  | .off | .draining | .stopped | .fault => false

/-- Does an enable of a ring wait for Bus Master Enable (R71). -/
def enableWaits (s : State) (f : Fn) (i : Nat) : Bool := (s.fnS f).enableDue.any fun x => x.1 == i

/-- The word of HIF_RING_ENABLE register w. -/
def ringEnableWord (s : State) (f : Fn) (w : Nat) : Nat :=
  bitmapOf ((List.range 32).filter fun b => (s.ring f (32 * w + b)).st.enabled || enableWaits s f (32 * w + b))

/-! ## Waiting output goes out -/

/-- What waits for a function's rings is written while they take it: completions, late faults, records (R71, R93, R97). -/
def hostDrain (s : State) (f : Fn) : State := drainPool (fqDrain (cqDrain s f) f)

/-! ## Enable (R72, R73, R100) -/

/-- SIZE rounded down to a power of two and held to 16 to 65,536. -/
def ringSize (n : Nat) : Nat := if n = 0 then 16 else clampNat 16 65536 (2 ^ Nat.log2 n)

/-- The ring that a context starts, and whether a field of it was clamped (R73). -/
def ringFrom (i : Nat) (c : CtxIn) (since : Nat) : Ring × Bool :=
  let size := ringSize c.size.toNat
  let base := c.base.toNat / 64 * 64
  if i < 256 then
    let cq := clampNat 256 511 c.cq.toNat
    let weight := Nat.max 1 c.weight.toNat
    ({ Ring.reset with st := .running, base := base, size := size, cq := cq, weight := weight,
                       gale := bitOf c.flags.toNat 0, since := since },
      size != c.size.toNat || cq != c.cq.toNat || weight != c.weight.toNat)
  else
    let vector := if c.vector.toNat = 0xFFFF then 0xFFFF else Nat.min 2047 c.vector.toNat
    let profile := Nat.min 31 c.profile.toNat
    ({ Ring.reset with st := .running, base := base, size := size, vector := vector, profile := profile, since := since },
      size != c.size.toNat || vector != c.vector.toNat || profile != c.profile.toNat)

/-- Note a ring in HIF_ERR_STATUS. -/
def errRing (s : State) (f : Fn) (i : Nat) : State :=
  s.setFld (Reg.HIF_ERR_STATUS (fnIx f)) Fld.HIF_ERR_STATUS_RING i

/-- A host memory access failed at an address (R102) (DEDUCED, log entry 60). -/
def dmaError (s : State) (f : Fn) (addr : Nat) : State :=
  let i := fnIx f
  hifErr ((s.wr (Reg.HIF_ERR_ADDR_LO i) (BitVec.ofNat 32 addr)).wr (Reg.HIF_ERR_ADDR_HI i)
    (BitVec.ofNat 32 (addr / 2 ^ 32))) f 1

/-- SQs whose CQ left RUNNING wait; those whose CQ runs again run (R80). -/
def sqFollow (s : State) (f : Fn) (cq : Nat) (running : Bool) : State :=
  let st := if running then RingSt.waiting else RingSt.running
  forEach (ringsIn s f 0 256 fun _ r => r.cq == cq && r.st == st) s fun s i =>
    ringTo s f i (if running then .running else .waiting)

/-- A ring enters FAULT with a cause; its index, the address and a Folio entry record it (R102) (DEDUCED, log entry
60). -/
def ringFault (s : State) (f : Fn) (i cause addr : Nat) : State :=
  let s1 := dmaError (errRing s f i) f addr
  let s2 := folPost s1 0x24 (9 + fnIx f) 2 (leBytes 1 (fnIx f) ++ leBytes 2 i ++ leBytes 8 addr)
  let s3 := ringTo (s2.modRing f i fun r => { r with cause := cause }) f i .fault
  let s4 := if decide (256 ≤ i) && decide (i < 512) then sqFollow s3 f i false
    else if decide (512 ≤ i) && decide (i < 1536) then replaceEps s3 f else s3
  hostDrain (settleRings s4 f) f

/-- The address of a ring's context (R72). -/
def ctxAddr (s : State) (f : Fn) (i : Nat) : Nat :=
  (s.rd (Reg.HIF_RCT_BASE_LO (fnIx f))).toNat + (s.rd (Reg.HIF_RCT_BASE_HI (fnIx f))).toNat * 2 ^ 32 + i * 64

/-- Start a ring from its context, which has been read: RUNNING, or WAITING for an SQ whose CQ does not run (R100). A CQ
keeps the slots reserved for descriptors that still run (R80), and an EQ may be the ring that endpoints waited for (R241)
(DEDUCED, log entry 60). -/
def ringStarts (s : State) (f : Fn) (i : Nat) (c : CtxIn) : State :=
  if !c.readOk then ringFault (s.setRing f i { Ring.reset with reserved := (s.ring f i).reserved }) f i 2 (ctxAddr s f i)
  else
    let z := ringFrom i c (treeNs s)
    let st := if decide (i < 256) && !decide ((s.ring f z.1.cq).st = .running) then RingSt.waiting else RingSt.running
    let s1 := s.setRing f i { z.1 with st := st, reserved := (s.ring f i).reserved }
    let s2 := if z.2 then hifErr (errRing s1.clamped f i) f 0 else s1
    let s3 := (ctxWrite s2 f i).modFn f fun x => { x with sweepAt := x.sweepAt.erase i, galeTaken := x.galeTaken.erase i }
    let s4 := if decide (256 ≤ i) && decide (i < 512) then sqFollow s3 f i true else s3
    hostDrain (if decide (512 ≤ i) && decide (i < 1536) then replaceEps s4 f else s4) f

/-- Start a ring: its context is read now, or as soon as Bus Master Enable returns (R71, R72). -/
def startRing (s : State) (f : Fn) (i : Nat) (c : CtxIn) : State :=
  if (s.fnS f).bme then ringStarts s f i c
  else if enableWaits s f i then s
  else s.modFn f fun x => { x with enableDue := x.enableDue ++ [(i, c)] }

/-- HIF_RING_ENABLE bit 0 to 1. A bit that reads 1 stays; a DRAINING ring ignores the write, and it counts (R100, R101). -/
def enableRing (s : State) (f : Fn) (i : Nat) (c : CtxIn) : State :=
  match (s.ring f i).st with
  | .running | .waiting | .fault => s
  | .draining => s.clamped
  | .off | .stopped => startRing s f i c

/-! ## Disable (R100, R102) -/

/-- HIF_RING_ENABLE bit 1 to 0: a ring in FAULT stops at once; an SQ or CQ drains; an EQ or the FQ stops, and the
records of an EQ go to other rings. Entries written keep counting toward their message (R99); an enable that waits is
taken back. -/
def disableRing (s : State) (f : Fn) (i : Nat) : State :=
  match (s.ring f i).st with
  | .off | .stopped | .draining => s.modFn f fun x => { x with enableDue := x.enableDue.filter fun y => y.1 != i }
  | .fault => settleRings (ringTo s f i .stopped) f
  | .running | .waiting =>
    if i < 512 then settleRings (ringTo s f i .draining) f
    else
      let s1 := ringTo s f i .stopped
      if i < 1536 then hostDrain (replaceEps s1 f) f else s1

/-- Is any ring of a function other than OFF, STOPPED or FAULT: the base registers are held (R101). -/
def ringsBusy (s : State) (f : Fn) : Bool :=
  !(ringsIn s f 0 1537 fun _ r => r.st == .running || r.st == .waiting || r.st == .draining).isEmpty

/-! ## Doorbells (R75 to R79) -/

/-- Take the value of one doorbell slot of a live ring: an SQ tail not beyond SIZE, a head neither ahead of the produce
count nor behind the previous head; another value is ignored and counts (R77). -/
def takeSlot (s : State) (f : Fn) (d : Doorbell) : State :=
  let i := d.ring.toNat
  let r := s.ring f i
  let v := d.value.toNat
  if !r.st.live then s
  else if i < 256 then
    if r.size < (v + 2 ^ 32 - r.count) % 2 ^ 32 then s.clamped else s.setRing f i { r with ext := v }
  else if r.used < (v + 2 ^ 32 - r.ext) % 2 ^ 32 then s.clamped
  else s.setRing f i { r with ext := v }

/-- Take slots that were read; what waited for space is written. -/
def takeSlots (s : State) (f : Fn) (slots : List Doorbell) : State := hostDrain (forEach slots s fun s d => takeSlot s f d) f

/-- SQs among slots. -/
def sqsOf (slots : List Doorbell) : List Nat := (slots.map fun d => d.ring.toNat).filter fun i => decide (i < 256)

/-- HIF_DB_BASE of a function. -/
def dbBase (s : State) (f : Fn) : Nat :=
  (s.rd (Reg.HIF_DB_BASE_LO (fnIx f))).toNat + (s.rd (Reg.HIF_DB_BASE_HI (fnIx f))).toNat * 2 ^ 32

/-- The address of the summary word with a number, and of the slot of a ring (R74). -/
def summaryAddr (s : State) (f : Fn) (w : Nat) : Nat := dbBase s f + w * 8
def slotAddr (s : State) (f : Fn) (i : Nat) : Nat := dbBase s f + 0x100 + i * 8

/-- Summary bit n is bit n mod 64 of word n div 64: the rings that returned words name, rising (R74, R76). -/
def summaryRings (words : List SummaryWord) : List Nat :=
  sortBy (fun a b => decide (a < b)) (words.flatMap fun w => if w.read = 0 then [] else
    ((bitList 64 w.swapped.toNat).map fun b => w.word.toNat * 64 + b).filter fun i => decide (i ≤ 1536))

/-- Read the slots of rings, and take the values of those that are live (R76, R77). -/
def readSlots (s : State) (f : Fn) (rings : List Nat) (slots : List Doorbell) : State :=
  let live := rings.filter fun i => (s.ring f i).st.live
  takeSlots (forEach live s fun s i => s.emit (.doorbellRead f (slotAddr s f i) 8)) f
    (slots.filter fun d => memNat live d.ring.toNat)

/-- One doorbell sweep: the summary block is read, a Swap with 0 takes each word that is not 0, and the slots of the bits it
returned are read, with those whose last read failed; the first 64 descriptors of a Gale SQ found by it are measured from
the Swap (R74, R76, R82, R102). -/
def sweep (s : State) (f : Fn) (words : List SummaryWord) (slots : List Doorbell) : State :=
  let again := (s.fnS f).rereads
  let found := summaryRings words
  let sqs := found.filter fun i => decide (i < 256)
  let s1 := s.modFn f fun x => { x with
    sweepAt := sqs.foldl (fun t i => t.insert i s.fc.now) x.sweepAt,
    galeTaken := sqs.foldl (fun t i => t.erase i) x.galeTaken, rereads := [] }
  let s2 := s1.emit (.doorbellRead f (summaryAddr s f 0) 256)
  let s3 := forEach (words.filter fun w => w.read != 0) s2 fun s w => s.emit (.atomicSwap f (summaryAddr s f w.word.toNat))
  readSlots s3 f (again.foldl addNat found) slots

/-- One full doorbell read: every slot of every enabled ring; what it finds is measured from no sweep (R78, R82) (DEDUCED,
log entry 68). -/
def fullRead (s : State) (f : Fn) (slots : List Doorbell) : State :=
  let s1 := s.modFn f fun x => { x with
    sweepAt := (sqsOf slots).foldl (fun t i => t.erase i) x.sweepAt, kickDue := false, rereads := [] }
  readSlots s1 f (ringsIn s1 f 0 1537 fun _ r => r.st.live) slots

/-- May the hub read a function's doorbells now (R59, R71, R316, R415) (DEDUCED, log entry 60). -/
def readsDoorbells (s : State) (f : Fn) : Bool :=
  hostThere s f && isReady s && (s.fnS f).bme && !inLull s && !isHeld s (9 + fnIx f)

/-- Does a function's write reach its ring enables: the function exists, HIF_READY is up, its HIF block is not held (R59,
R368). -/
def hostWrites (s : State) (f : Fn) : Bool := hostThere s f && isReady s && !isHeld s (9 + fnIx f)

/-- A failed AtomicOp Swap: kick mode from now on (R79). -/
def atomicFails (s : State) (f : Fn) : State :=
  (hifErr s f 2).clamped.setFld (Reg.HIF_CTRL (fnIx f)) Fld.HIF_CTRL_DB_MODE 1

/-! ## Bus Master Enable (R71) and host access errors (R102, R250) -/

/-- Ring contexts that waited for Bus Master Enable are written (R71, R72). -/
def ctxDrain (s : State) (f : Fn) : State :=
  let due := (s.fnS f).ctxDue
  (forEach due s fun s kv => s.emit (.ctx f kv.1 kv.2)).modFn f fun x => { x with ctxDue := [] }

/-- Pending messages of unmasked vectors are sent (R99) (DEDUCED, log entry 68). -/
def pbaDrain (s : State) (f : Fn) : State :=
  let x := s.fnS f
  let go := x.pba.filter fun v => memNat x.unmasked v
  if x.bme then
    (forEach go s fun s v => s.emit (.msix f v)).modFn f fun x => { x with pba := x.pba.filter fun v => !memNat x.unmasked v }
  else s

/-- Enables that waited for Bus Master Enable: their contexts are read in order (R71, R72). -/
def enableDrain (s : State) (f : Fn) : State :=
  forEach (s.fnS f).enableDue (s.modFn f fun x => { x with enableDue := [] }) fun s x => ringStarts s f x.1 x.2

/-- Bus Master Enable returns: what waited is written and read, and one full doorbell read resumes the rings; where the hub
may not read now, the read is due (R71) (DEDUCED, log entry 68). -/
def busMasterOn (s : State) (f : Fn) (slots : List Doorbell) : State :=
  let s1 := enableDrain (pbaDrain (ctxDrain (s.modFn f fun x => { x with bme := true }) f) f) f
  if readsDoorbells s1 f then fullRead s1 f slots
  else hostDrain (s1.modFn f fun x => { x with kickDue := true }) f

/-- A write to the kick page: one full doorbell read, at once or, while the hub may not read, as soon as it may (R78, R316)
(DEDUCED, log entry 68). -/
def kick (s : State) (f : Fn) (slots : List Doorbell) : State :=
  if readsDoorbells s f then fullRead s f slots
  else if hostThere s f && isReady s then s.modFn f fun x => { x with kickDue := true } else s

/-- The hub reads a function's doorbells of itself: a full read that is due, and in sweep mode a sweep (R76, R78). -/
def doorbells (s : State) (f : Fn) (words : List SummaryWord) (slots : List Doorbell) : State :=
  let s1 := if kickMode s f then s else sweep s f words slots
  if (s.fnS f).kickDue then fullRead s1 f slots else s1

/-- A region whose access failed is out of use; its buffers return to Stacks (R250). -/
def regionFault (s : State) (f : Fn) : State :=
  if rsvFault s f then s
  else
    let s1 := libInt (s.setFlag Reg.LIB_STATUS (if f = .pf0 then Fld.LIB_STATUS_RSV_FAULT0 else Fld.LIB_STATUS_RSV_FAULT1) true) 1
    if decide (placeFn s1 = f) then emptyRegion s1 else s1

/-- A failing read of the doorbell area: the hub repeats it, the slot at the next sweep, and in kick mode by a full read
(R102) (DEDUCED, log entry 60). -/
def rereadDue (s : State) (f : Fn) (addr : Nat) : State :=
  s.modFn f fun x =>
    let i := (addr - slotAddr s f 0) / 8
    { x with kickDue := x.kickDue || kickMode s f,
             rereads := if slotAddr s f 0 ≤ addr ∧ i ≤ 1536 then addNat x.rereads i else x.rereads }

/-- A host access fails: a ring enters FAULT, doorbell values stay, a region is out of use (log entry 60). -/
def hostAccessFails (s : State) (f : Fn) : DmaWhere → State
  | .ring i addr => if (s.ring f i.toNat).st.live || (s.ring f i.toNat).st == .draining then ringFault s f i.toNat 1 addr.toNat else s
  | .doorbells addr => rereadDue (dmaError s f addr.toNat) f addr.toNat
  | .reserve addr => regionFault (dmaError s f addr.toNat) f

/-! ## Interrupts (R99) -/

/-- TIME_US of the ring's profile has passed since the first counted entry: the message is sent (DESIGN CHOICE, log
entry 83). -/
def moderationDue (s : State) (f : Fn) (i : Nat) : State :=
  let r := s.ring f i
  let us := s.fld (Reg.HIF_MOD_PROFILE (fnIx f) r.profile) Fld.HIF_MOD_PROFILE_TIME_US
  match r.modSince with
  | some t0 => if r.modCount != 0 && decide (t0 + us * 1000 ≤ s.fc.now) then
      sendMsix (s.setRing f i { r with modCount := 0, modSince := none }) f r.vector else s
  | none => s

/-- A vector is unmasked: its pending message is sent (DEDUCED, log entry 68). -/
def unmask (s : State) (f : Fn) (vec : Nat) : State :=
  pbaDrain (s.modFn f fun x => { x with unmasked := addNat x.unmasked vec }) f

/-! ## The lease (R103 to R107) -/

/-- The lease period in force at an acceptance, in ms: PF0's register (R103). -/
def leaseMs (s : State) : Nat := s.fld (Reg.HIF_LEASE_PERIOD 0) Fld.HIF_LEASE_PERIOD_PERIOD_MS

/-- LEASE_STATE data (R107). -/
def leaseData (s : State) (st holder prev cause ms changed flying : Nat) : List Byte :=
  leBytes 1 st ++ leBytes 1 holder ++ leBytes 1 prev ++ leBytes 1 cause ++ leBytes 4 s.fc.frameNo ++ leBytes 2 ms ++
    leBytes 2 0 ++ leBytes 2 (satNat 16 changed) ++ leBytes 2 (satNat 16 flying)

/-- A function holds the lease from now (DEDUCED, log entry 65). -/
def leaseTo (s : State) (f : Fn) : State :=
  { s with lease := ⟨some f, true, false, s.fc.now + leaseMs s * 1000000, none⟩ }

/-- TAKES counts a ROLE_TAKE that succeeded; both instances show it (DEDUCED, log entry 65). -/
def countTake (s : State) : State :=
  (s.bumpFld (Reg.HIF_LEASE_STATUS 0) Fld.HIF_LEASE_STATUS_TAKES).bumpFld (Reg.HIF_LEASE_STATUS 1) Fld.HIF_LEASE_STATUS_TAKES

/-- The expired function takes its lease back (R105, R107). -/
def retake (s : State) (f : Fn) : State :=
  let s1 := leaseTo s f
  hostDrain (leaseEvent s1 (leaseData s1 1 (fnIx f) (fnIx f) 3 (leaseMs s1) 0 0)) f

def ruleLeaseRenew : OpRule := { opcode := 0x40, standby := true, len := .zero, here := true }
def ruleRoleTake : OpRule := { opcode := 0x41, standby := true, len := .zero, here := true }

/-- LEASE_RENEW (R90, R103 to R105): from a function that never held the lease it is DENIED (DEDUCED, log entry 65).
-/
def opLeaseRenew (x : Desc) (s : State) : State :=
  if !isDual s then complete s x Status.done
  else if holdsLease s x.fn then complete (leaseTo s x.fn) x Status.done
  else if s.lease.expired && s.lease.holder == some x.fn then complete (retake s x.fn) x Status.done
  else complete s x Status.denied

/-- One unfetched descriptor of the former active function completes ROLE_CHANGED without effect: in its reserved
slot, or as soon as its CQ has one (R80, R106) (DEDUCED, log entry 65). -/
def roleChanged (s : State) (f : Fn) (sq : Nat) (tag : Nat) (quiet : Bool) : State :=
  let x : Desc := {
    id := s.nextId, fn := f, sq := sq, tag := tag, opcode := 0, tea := 0, len := 0, addr := 0, args := [],
    data := [], fenced := false, quiet := quiet, dirIn := false, fetchTime := treeNs s, fetchAt := s.fc.now, issueAt := none,
    retried := false, late := false, link := none, cq := (s.ring f sq).cq, vc := none, acked := false, handover := false,
    clampDone := false, posted := false, outData := [], noSlot := true, result := none }
  let s1 := s.modRing f sq fun r => { r with count := (r.count + 1) % 2 ^ 32 }
  completeEntry { s1 with flight := s1.flight ++ [x], nextId := s1.nextId + 1 } x
    ⟨tag, Status.roleChanged, false, 0, 0, x.fetchTime, treeNs s⟩

/-- TAG and QUIET of entry k of an SQ as the takeover reads it; a free value where the row does not say them. -/
def entryRead (s : State) (u : Unfetched) (k : Nat) : State × (Word × Bool) :=
  match u.entries[k]? with
  | some e => (s, e)
  | none => let z := s.fresh; (z.2, ((Config.entryFound z.1).extractLsb' 0 32, (Config.entryFound z.1).getLsbD 32))

/-- The unfetched descriptors of one SQ between its fetch count and the tail just read. -/
def changeSq (acc : State × Nat) (f : Fn) (u : Unfetched) : State × Nat :=
  let i := u.sq.toNat
  let s1 := takeSlot acc.1 f ⟨BitVec.ofNat 11 i, u.tail⟩
  let r := s1.ring f i
  let n := Nat.min r.size ((r.ext + 2 ^ 32 - r.count) % 2 ^ 32)
  ((List.range n).foldl (fun s k =>
    let z := entryRead s u k
    roleChanged z.1 f i z.2.1.toNat z.2.2) s1, acc.2 + n)

/-- The full doorbell read of the former active function: heads of its CQs, EQs and FQ, then every live SQ; one that the row
does not list keeps its tail (R106). -/
def changeAll (s : State) (g : Fn) (left : List Unfetched) (heads : List Doorbell) : State × Nat :=
  let s1 := fullRead s g (heads.filter fun d => decide (256 ≤ d.ring.toNat))
  (ringsIn s1 g 0 256 fun _ r => r.st.live).foldl (fun acc i =>
    changeSq acc g ((left.find? fun u => u.sq.toNat == i).getD ⟨BitVec.ofNat 8 i, BitVec.ofNat 32 (acc.1.ring g i).ext, []⟩))
    (s1, 0)

/-- A takeover by the standby function (R106). A function without Bus Master Enable is not read (R71). -/
def takeover (s : State) (f : Fn) (left : List Unfetched) (heads : List Doorbell) : State :=
  let g := otherFn f
  let z := if (s.fnS g).bme then changeAll s g left heads else (s, 0)
  let flying := (z.1.flight.filter fun d => d.fn == g && !d.posted).length
  let s2 := { z.1 with flight := z.1.flight.map fun d => if d.fn == g && !d.posted then { d with handover := true } else d }
  let s3 := leaseTo s2 f
  let s4 := { s3 with lease := { s3.lease with switchAt := some f } }.atFrame (.deliver f)
  leaseEvent s4 (leaseData s4 1 (fnIx f) (fnIx g) 4 (leaseMs s4) z.2 flying)

/-- Is a ROLE_TAKE of PF0 fetched on the same CORE edge as this one of PF1: PF0 wins (R103) (DEDUCED, log entry 65). -/
def pf0Ties (s : State) (f : Fn) : Bool :=
  decide (f = .pf1) && s.pending.any fun c => match c with
    | .roleTake t d _ => decide (t ≤ s.fc.now) && decide (d.fn = .pf0) && canFetch s d
    | _ => false

/-- ROLE_TAKE (R90, R103 to R107): the first take, a take-back, a takeover; from the holder of a valid lease it renews
it, and from the other function it is DENIED (DEDUCED, log entry 65). -/
def opRoleTake (left : List Unfetched) (heads : List Doorbell) (x : Desc) (s : State) : State :=
  if !isDual s then complete s x Status.done
  else if holdsLease s x.fn then complete (countTake (leaseTo s x.fn)) x Status.done
  else if s.lease.valid then complete s x Status.denied
  else match s.lease.holder with
    | none =>
      if pf0Ties s x.fn then complete s x Status.denied
      else
      let s1 := leaseTo s x.fn
      complete (hostDrain (leaseEvent (countTake s1) (leaseData s1 1 (fnIx x.fn) 0xFF 1 (leaseMs s1) 0 0)) x.fn) x Status.done
    | some h =>
      if h = x.fn then complete (countTake (retake s x.fn)) x Status.done
      else complete (countTake (takeover s x.fn left heads)) x Status.done

/-- The lease expires without renewal (R105). -/
def leaseExpires (s : State) : State :=
  if s.lease.valid && decide (s.lease.until_ ≤ s.fc.now) then
    let h := s.lease.holder.getD .pf0
    let s1 := { s with lease := { s.lease with valid := false, expired := true, switchAt := none } }
    leaseEvent s1 (leaseData s1 2 (fnIx h) (fnIx h) 2 0 0 0)
  else s

/-- From the frame boundary after a takeover, records go to the new active function's shelves and buffers to its region
(R106, R249). -/
def deliverTo (s : State) (f : Fn) : State :=
  if s.lease.switchAt = some f then
    let old := setUsed s (otherFn f) 0
    let moving := reserveKeys s
    let s1 := forEach moving { old with lease := { s.lease with switchAt := none } } fun s k =>
      let s1 := s.modEp k fun c => { c with sample := none, held := 0, reserve := false }
      if (s1.ep k).granules ≤ regionFree s1 && eligible s1 k then takeReserve s1 k
      else if ownKey k && decide ((s1.ep k).granules ≤ poolFree s1) then takeStacks s1 k else s1
    let s2 := { s1 with pool := s1.pool.map fun w => if w.fn.isNone then { w with ring := 0 } else w }
    hostDrain (replaceEps s2 f) f
  else s

end Sys2Proof.Machine
end

