-- ==== Sys2Proof/Machine/Folio.lean ====
section
/-! DEFINITION. The Folio on flash (R376 to R388): the ring of sectors, programming, coalesced entries, the governor, the
seal, reading and erasing. -/
namespace Sys2Proof.Machine

/-! ## The ring of sectors (R376) -/

/-- The next sector of the ring: retired ones have left it. -/
def folNext (f : Folio) (k : Nat) : Nat :=
  ((List.range 256).map fun i => (k + 1 + i) % 256).find? (fun j => !memNat f.badSectors j) |>.getD k

/-- Usable sectors. -/
def folUsable (f : Folio) : Nat := 256 - f.badSectors.length

/-- Is a Folio sector erased: nothing stands in it. -/
def folErased (f : Folio) (k : Nat) : Bool := !memNat f.dirty k

/-- Would the next entry enter a sector whose successor is not erased. -/
def folBlocked (f : Folio) : Bool := f.pos % 64 == 0 && !folErased f (folNext f (f.pos / 64))

/-- Valid entries from the oldest to the newest; SEQ 0xFFFF_FFFF makes none (R378). -/
def folOrder (f : Folio) : List FolioEntry :=
  sortBy (fun a b => decide ((a.seq + 2 ^ 32 - f.nextSeq) % 2 ^ 32 < (b.seq + 2 ^ 32 - f.nextSeq) % 2 ^ 32))
    ((f.ring.map (·.2)).filter fun e => e.seq != 0xFFFFFFFF)

/-- Bytes 0 to 59 of an entry (Folio entry table). -/
def folBody (e : FolioEntry) : List Byte :=
  leBytes 4 e.seq ++ leBytes 2 e.code ++ leBytes 1 e.source ++
    leBytes 1 (e.severity % 4 + 4 * (e.tq % 4) + 16 * b2n e.coalesced + 32 * b2n e.sealed) ++ leBytes 8 e.time ++
    leBytes 4 e.frame ++ leBytes 4 e.boot ++ fitBytes 36 e.detail

/-- The 64 bytes of an entry. -/
def folBytes (e : FolioEntry) : List Byte := folBody e ++ leBytes 4 (crc32c (folBody e))

/-- Show the Folio's registers. -/
def folRegs (s : State) : State :=
  let f := s.folio
  let o := folOrder f
  let s1 := folShow s
  let s2 := (s1.setFlag Reg.FOL_STATUS Fld.FOL_STATUS_SEALED (f.closed && f.sealDone)).setFlag Reg.FOL_STATUS
    Fld.FOL_STATUS_ERASING (!f.eraseQueue.isEmpty)
  let s3 := s2.setFlag Reg.FOL_STATUS Fld.FOL_STATUS_WAIT_ERASE (!f.staging.isEmpty && folBlocked f)
  let s4 := (s3.wr Reg.FOL_HEAD_SEQ (BitVec.ofNat 32 ((o.getLast?.map fun e => e.seq).getD 0xFFFFFFFF))).wr Reg.FOL_TAIL_SEQ
    (BitVec.ofNat 32 ((o.head?.map fun e => e.seq).getD 0xFFFFFFFF))
  let s5 := s4.wr Reg.FOL_SEAL_SEQ (BitVec.ofNat 32
    (((o.filter fun e => e.code == 0x10).getLast?.map fun e => e.seq).getD 0xFFFFFFFF))
  (s5.setFld Reg.FOL_SECTORS Fld.FOL_SECTORS_RETIRED f.badSectors.length).setFld Reg.FOL_SECTORS
    Fld.FOL_SECTORS_USABLE (folUsable f)

/-- Start the erase of the sector two ahead when a sector is entered (R376). -/
def eraseAhead (s : State) (k : Nat) : State :=
  let j := folNext s.folio (folNext s.folio k)
  if j == k || folErased s.folio j || s.nvm.jobs.any (fun w => decide (w = .folioAhead j)) then s
  else s.modNvm fun n => { n with jobs := n.jobs ++ [.folioAhead j] }

/-- Write one entry at the write position (R377, R382). -/
def folWrite (s : State) (e : FolioEntry) : State :=
  let f := s.folio
  let k := f.pos / 64
  let e1 := { e with seq := f.nextSeq }
  let s1 := if f.pos % 64 = 0 then eraseAhead s k else s
  let s2 := s1.modFolio fun f => { f with
    ring := f.ring.insert f.pos e1, nextSeq := (f.nextSeq + 1) % 2 ^ 32, dirty := addNat f.dirty k,
    pos := if f.pos % 64 = 63 then folNext f k * 64 else f.pos + 1 }
  let s3 := (s2.glb 20 1).wr Reg.FOL_LAST_CODE (BitVec.ofNat 32 (e.code * 65536 + e.severity * 256 + e.source))
  let s4 := if e.coalesced then s3.bump (Reg.FOL_CNT 2) 1 else s3
  if e.severity = 3 then folInt s4 0 else s4

/-! ## Programs (R380, R382) -/

/-- Is Bank C busy with a program or erase (R348). -/
def bankCBusy (s : State) : Bool := s.nvm.jobs.any fun j => match j with
  | .spwStore .. | .folioAhead _ | .folioErase _ => true
  | .erase k _ => decide (1536 ≤ k)
  | _ => false

/-- May the management core program the Folio now: it runs, no Squall holds flash work, no seal is under way, Bank C is
free, its block is not held (R59, log entry 17), and enough sectors are usable. -/
def folMayWrite (s : State) : Bool :=
  !squallOn s && !isHeld s 3 && s.folio.sealing.isNone && !bankCBusy s && decide (4 ≤ folUsable s.folio) && !s.pw.off &&
    s.pw.recovery == 0 && chipState s != 2

/-- A coalescing slot as one entry (R382). -/
def slotEntry (s : State) (c : CoalSlot) : FolioEntry :=
  { folMake s c.code c.source c.severity (leBytes 4 c.count ++ leBytes 8 c.first ++ leBytes 8 c.last ++ c.detail) with
    time := c.first, coalesced := true }

/-- The slots that hold a count, the overflow slot among them. -/
def slotsHeld (f : Folio) : List CoalSlot := f.slots ++ f.overflow.toList

/-- Free a slot. -/
def freeSlot (s : State) (c : CoalSlot) : State :=
  s.modFolio fun f =>
    if c.code = 0xFF then { f with overflow := none } else { f with slots := f.slots.filter fun d => !(d == c) }

/-- With staging empty and a token, the slot with the oldest first TIME becomes an entry (R382). -/
def slotToEntry (s : State) : State :=
  if s.folio.closed || !s.folio.staging.isEmpty then s
  else match sortBy (fun a b => decide (a.first < b.first)) (slotsHeld s.folio) with
    | [] => s
    | c :: _ => match folToken s c.severity with
      | some s1 => (freeSlot s1 c).modFolio fun f => { f with staging := f.staging ++ [slotEntry s c] }
      | none => s

/-- Write staged entries, at most n, while the ring takes them. -/
def folWriteN : Nat → State → State
  | 0, s => s
  | n + 1, s =>
    match s.folio.staging with
    | [] => s
    | e :: r => if folBlocked s.folio then s
      else folWriteN n (folWrite (s.modFolio fun f => { f with staging := r }) e)

/-- Write all that is staged, as before a planned restart or Vault; with fewer than 4 usable sectors only SEAL entries are
written (R380, R388, R399). -/
def folDrain (s : State) : State :=
  if folUsable s.folio < 4 then s
  else
    let s1 := folWriteN 64 s
    s1.bump (Reg.FOL_CNT 0) (ceilDiv (s.folio.staging.length - s1.folio.staging.length) 4)

/-- One program of up to 4 entry positions (R380). -/
def folProgram (s : State) : State :=
  if folMayWrite s then
    let s1 := slotToEntry s
    if s1.folio.staging.isEmpty || folBlocked s1.folio then folRegs s1
    else folRegs (slotToEntry ((folWriteN 4 s1).bump (Reg.FOL_CNT 0) 1))
  else s

/-- The governor's tokens at a frame boundary (R381). -/
def governorTick (s : State) : State :=
  let n := s.fc.frameNo
  let s1 := if n % 1000 = 0 then s.setFld Reg.FOL_GOV Fld.FOL_GOV_TOKENS
      (Nat.min 4096 (s.fld Reg.FOL_GOV Fld.FOL_GOV_TOKENS + 1)) else s
  let s2 := if n % 3600000 = 0 then s1.setFld Reg.FOL_GOV Fld.FOL_GOV_RESERVE
      (Nat.min 64 (s1.fld Reg.FOL_GOV Fld.FOL_GOV_RESERVE + 1)) else s1
  if n % 1000 = 0 && !(slotsHeld s2.folio).isEmpty then folShow (slotToEntry s2) else s2

/-! ## The seal (R383 to R385) -/

/-- A seal starts: staging closes. One that is under way goes on alone (DEDUCED, log entry 76). -/
def sealStart (s : State) (test : Bool) : State :=
  if s.folio.sealing.isSome then s
  else folRegs (s.modFolio fun f => { f with closed := true, sealing := some test, sealDone := false })

/-- Take a token for a seal entry when one is left. -/
def sealToken (s : State) (sev : Nat) : State := (folToken s sev).getD s

/-- SEQ of the first entry after the previous SEAL. -/
def afterSeal (f : Folio) : Nat :=
  match ((folOrder f).filter fun e => e.code == 0x10).getLast? with
  | some e => (e.seq + 1) % 2 ^ 32
  | none => ((folOrder f).head?.map fun e => e.seq).getD f.nextSeq

/-- SQUALL data. -/
def squallData (s : State) (phase sealUs : Nat) (inLull noSeal : Bool) : List Byte :=
  leBytes 1 phase ++ leBytes 1 (b2n inLull + 2 * s.fld Reg.PWR_SQUALL_STATUS Fld.PWR_SQUALL_STATUS_FLASH_ABORTED + 4 * b2n noSeal) ++
    leBytes 2 sealUs ++ leBytes 4 s.pw.squallFrame ++ leBytes 6 s.pw.squallShed ++ leBytes 2 0 ++ leBytes 8 s.pw.squallTime

/-- The seal's programs are done: the oldest 4 staged entries, then up to 3 slots and the SEAL entry (R383); with fewer than
4 usable sectors only the SEAL entry (R388). Its duration is a free value of at most 2,450 µs. -/
def sealEnd (s : State) (test : Bool) : State :=
  let z := s.fresh
  let us := Nat.min 2450 (Config.sealUs z.1).toNat
  let first := afterSeal s.folio
  let inLull := if test then chipState s == 2 else s.pw.squallLull
  let few := decide (folUsable s.folio < 4)
  let olds := if few then [] else s.folio.staging.take 4
  let s1 := olds.foldl (fun s e => folWrite s { e with sealed := true })
    (z.2.modFolio fun f => { f with staging := f.staging.drop olds.length })
  let top := if few then [] else (sortBy (fun a b => decide (b.count < a.count)) (slotsHeld s1.folio)).take 3
  let s2 := top.foldl (fun s c => folWrite (freeSlot (sealToken s c.severity) c) { slotEntry s c with sealed := true }) s1
  let staged := s2.folio.staging.length
  let slots := (slotsHeld s2.folio).length
  let d := leBytes 4 first ++ leBytes 2 staged ++ leBytes 2 slots ++ leBytes 2 us ++
    leBytes 1 (b2n inLull + 2 * b2n test + 4 * b2n s.port.frsArmed)
  let e := folMake s2 0x10 16 3 d
  let e1 := if test then e else { e with time := s.pw.squallTime, frame := s.pw.squallFrame }
  let s3 := (folWrite (sealToken s2 3) { e1 with sealed := true }).bump (Reg.FOL_CNT 4) 1
  let s4 := s3.bump (Reg.FOL_CNT 0) (1 + b2n (!olds.isEmpty))
  let s5 := s4.modFolio fun f => { f with sealing := none, sealDone := !test, closed := !test }
  let s6 := (s5.setFld Reg.FOL_LOST Fld.FOL_LOST_STAGED staged).setFld Reg.FOL_LOST Fld.FOL_LOST_SLOTS slots
  let s7 := folInt (folRegs (s6.setFld Reg.PWR_SQUALL_STATUS Fld.PWR_SQUALL_STATUS_SEAL_US us)) 2
  if test then s7
  else hubEvent (s7.setFlag Reg.PWR_SQUALL_STATUS Fld.PWR_SQUALL_STATUS_SEALED true) 0x0D (squallData s7 2 us inLull false)

/-- Staging reopens after a Squall (R385). -/
def folReopen (s : State) : State := folRegs (s.modFolio fun f => { f with closed := false, sealDone := false })

/-! ## Reading and erasing (R386, R387) -/

/-- The entries from FIRST on, of at least a severity. -/
def folFrom (f : Folio) (first minSev : Nat) : List FolioEntry :=
  let o := folOrder f
  let l := if first = 0xFFFFFFFF then o else o.dropWhile fun e => decide (2 ^ 31 ≤ (e.seq + 2 ^ 32 - first) % 2 ^ 32)
  l.filter fun e => decide (minSev ≤ e.severity)

/-- Is a flash job no erase-ahead. -/
def notAhead : FlashJob → Bool
  | .folioAhead _ => false
  | _ => true

/-- Start a Folio erase; a refused one counts once (R387). -/
def folErase (s : State) : State :=
  let f := s.folio
  let recent := match f.eraseFrame with
    | some n => decide ((s.fc.frameNo + 2 ^ 32 - n) % 2 ^ 32 < 86400000)
    | none => false
  if squallOn s || recent then s.clamped
  else
    let k := if f.pos % 64 = 0 then f.pos / 64 else folNext f (f.pos / 64)
    let last := ((folOrder f).getLast?.map fun e => e.seq).getD 0xFFFFFFFF
    let s1 := s.modFolio fun f => { f with pos := k * 64, eraseFrame := some s.fc.frameNo }
    let s2 := if folUsable f < 4 then s1
      else (folWrite (sealToken s1 0) (folMake s 0x45 16 0 (leBytes 4 last))).bump (Reg.FOL_CNT 0) 1
    let order := ((List.range 255).map fun i => (k + 1 + i) % 256).filter fun j => memNat s2.folio.dirty j && j != k
    let s3 := s2.modNvm fun n => { n with jobs := n.jobs.filter notAhead ++ order.map fun j => FlashJob.folioErase j }
    let s4 := s3.modFolio fun f => { f with eraseQueue := order }
    folRegs (if order.isEmpty then folInt s4 3 else s4)

/-- A Folio sector has been erased (DEDUCED, log entry 81). -/
def folSectorErased (s : State) (k : Nat) : State :=
  (s.modFolio fun f => { f with dirty := dropNat f.dirty k, ring := f.ring.keep fun i _ => i / 64 != k }).bump (Reg.FOL_CNT 6) 1

/-- A sector of a Folio erase is done; the last one ends the erase. -/
def folErasePart (s : State) (k : Nat) : State :=
  let s1 := (folSectorErased s k).modFolio fun f => { f with eraseQueue := dropNat f.eraseQueue k }
  folRegs (if s1.folio.eraseQueue.isEmpty then folInt s1 3 else s1)

/-! ## The start (R379, R388) -/

/-- The write position after the newest valid entry: the next position of its sector that is not invalid, or the next
sector (DEDUCED, log entry 81). -/
def folAfter (f : Folio) (bad : List Nat) (i : Nat) : Nat :=
  ((List.range (63 - i % 64)).map fun j => i + 1 + j).find? (fun j => !memNat bad j) |>.getD (folNext f (i / 64) * 64)

/-- The sectors that hold an invalid position and no valid entry fail their blank check. -/
def folUnclean (f : Folio) (bad : List Nat) : List Nat :=
  (bad.foldl (fun a i => addNat a (i / 64)) []).filter fun k => !f.ring.any fun kv => kv.1 / 64 == k

/-- The start-up scan: invalid positions count in FOL_CNT5, the newest valid entry fixes the write position and the
next SEQ, and a sector that fails its blank check is erased again before use (R378, R388) (DEDUCED, log entry 81). -/
def folScan (s : State) (found : List Nat) : State :=
  let bad := (found.foldl addNat []).filter fun i => decide (i < 16384)
  if bad.isEmpty then s
  else
    let f := s.folio
    let f1 := { f with ring := f.ring.keep fun i _ => !memNat bad i, dirty := (bad.map fun i => i / 64).foldl addNat f.dirty }
    let f2 := match (folOrder f1).getLast? with
      | none => f1
      | some e =>
        let at_ := ((f1.ring.find? fun kv => kv.2.seq == e.seq).map fun kv => kv.1).getD f1.pos
        { f1 with nextSeq := (e.seq + 1) % 2 ^ 32, pos := folAfter f1 bad at_ }
    let todo := (folUnclean f1 bad).filter fun k =>
      !memNat f1.badSectors k && !s.nvm.jobs.any fun w => decide (w = .folioAhead k ∨ w = .folioErase k)
    ({ s with folio := f2 }.modNvm fun n => { n with jobs := n.jobs ++ todo.map fun k => FlashJob.folioAhead k }).bump
      (Reg.FOL_CNT 5) bad.length

/-- Entries the AO core held are written by the next boot, before the entries of the boot itself (DEDUCED, log entry
81). -/
def folFromAo (s : State) : State :=
  let l := s.folio.aoHeld
  l.foldl folStage (s.modFolio fun f => { f with aoHeld := [] })

end Sys2Proof.Machine
end

