-- ==== Sys2Proof/Machine/Nvm.lean ====
section
/-! DEFINITION. Flash (R346 to R356): sectors and their map, jobs of the banks, the erase journal, wear and retirement,
and the volume and session a job ends in (R362, R363). -/
namespace Sys2Proof.Machine

/-! ## Sectors (R346, R348, R349) -/

/-- Sectors of a volume: logical sectors 0 to 735, then 32 spares. -/
def volSectors : Nat := 768

/-- The bank of a sector: 0 A, 1 B, 2 C. -/
def sectorBank (k : Nat) : Nat := if k < 768 then 0 else if k < 1536 then 1 else 2

/-- Does a sector belong to the Folio. -/
def folSector (k : Nat) : Bool := decide (1536 ≤ k) && decide (k < 1792)

/-- The bank a flash job works on. -/
def jobBank (n : Nvm) : FlashJob → Nat
  | .erase k _ => sectorBank k
  | .piece .. | .manifest .. => n.sessionVol
  | .spwStore .. | .folioAhead _ | .folioErase _ => 2

/-- The job a bank works on. -/
def headJob (n : Nvm) (b : Nat) : Option FlashJob := n.jobs.find? fun j => jobBank n j == b

/-- Is a bank busy with a program or erase (NVM_STATUS.BANK_BUSY). -/
def bankBusy (n : Nvm) (b : Nat) : Bool := n.jobs.any fun j => jobBank n j == b

/-- Take the first of equal jobs out of the list. -/
def dropJob (j : FlashJob) : List FlashJob → List FlashJob
  | [] => []
  | k :: r => if decide (k = j) then r else k :: dropJob j r

/-- The bank that the management core fetches from: 3 in Recovery (R356). -/
def execBank (n : Nvm) : Nat := if n.inRecovery then 3 else n.running

/-- The physical sector of a logical one under a retirement map, newest retirement first: the k-th retirement of a volume
takes spare k, and after the spares the highest logical sector that is left (R349, R353, R354). -/
def mapped (base : Nat) : List Nat → Nat → Nat
  | [], l => base + l
  | r :: older, l =>
    let p := mapped base older l
    if p = r then
      (if older.length < 32 then base + 736 + older.length else mapped base older (735 - (older.length - 32)))
    else p

/-- The physical sector of a logical one of a volume. -/
def physOf (n : Nvm) (vol l : Nat) : Nat :=
  mapped (vol * volSectors) (n.retired.filter fun k => sectorBank k == vol).reverse l

/-- A volume's record. -/
def volOf (n : Nvm) (v : Nat) : Volume := if v = 0 then n.volA else n.volB

/-- Change a volume's record. -/
def modVol (n : Nvm) (v : Nat) (f : Volume → Volume) : Nvm :=
  if v = 0 then { n with volA := f n.volA } else { n with volB := f n.volB }

/-! ## Events -/

/-- IMAGE_EVENT (image event table): of a volume, or of Bank C. -/
def imageEvent (s : State) (kind vol detail : Nat) : State :=
  let v := volOf s.nvm vol
  let svn := if vol = 2 then 0 else v.svn
  let build := if vol = 2 then 0 else v.build
  let bundle := if s.nvm.session ≠ 0 ∧ s.nvm.sessionVol = vol then s.nvm.bundle else 0
  hubEvent s 0x10 (leBytes 1 kind ++ leBytes 1 vol ++ leBytes 2 svn ++ leBytes 4 build ++ leBytes 4 bundle ++
    leBytes 4 s.fc.frameNo ++ leBytes 4 detail ++ leBytes 4 0)

/-- A response of the maintenance function, with its log and counts (R343) (DESIGN CHOICE, log entry 14). -/
def maintReply (s : State) (op status tag : Nat) (data : List Byte) : State :=
  let z := s.fresh
  let s1 := forEach ((List.range 15).map fun k => 15 - k) z.2 fun s k =>
    s.wr (Reg.PDP_MAINT_LOG k) (s.rd (Reg.PDP_MAINT_LOG (k - 1)))
  let s2 := s1.wr (Reg.PDP_MAINT_LOG 0) (BitVec.ofNat 32 (op * 2 ^ 24 + status * 65536 + tag))
  let s3 := (s2.bumpFld Reg.PDP_MAINT Fld.PDP_MAINT_COMMANDS).setFld Reg.PDP_MAINT Fld.PDP_MAINT_LAST_STATUS status
  let s4 := s3.bump (Reg.PDP_CNT 14) 1
  s4.emit (.usb (leBytes 1 op ++ leBytes 1 status ++ leBytes 2 tag ++ leBytes 4 (Config.maintValue z.1).toNat ++
    leBytes 4 0 ++ leBytes 4 data.length ++ data))

/-- A command that the table refuses: DENIED and counted (R343). -/
def maintDenied (s : State) (op tag : Nat) : State := (maintReply s op Status.denied tag []).bump (Reg.PDP_CNT 15) 1

/-- Answer who delivered a piece: its descriptor, or the maintenance command (R343, R363). -/
def pieceEnds (s : State) (desc maint : Option Nat) (st : Status) (effLen : Nat) : State :=
  let s1 := match desc with
    | some id => completeId s id st effLen
    | none => s
  match maint with
  | some tag => maintReply s1 5 st tag []
  | none => s1

/-! ## Wear (R353 to R355) -/

/-- Rated erase cycles of a bank. -/
def ratedErases (b : Nat) : Nat := if b = 2 then 100000 else 10000

/-- The longest erase a sector may take: twice its nominal time, 80 ms before 16 erases have been made. -/
def eraseLimit (n : Nvm) (k : Nat) : Nat :=
  match n.nominal.find k with
  | some (16, sum) => 2 * sum / 16
  | _ => 80000

/-- The highest erase count of a bank's sectors. -/
def maxErases (n : Nvm) (b : Nat) : Nat :=
  n.erases.foldl (fun a kv => if sectorBank kv.1 = b then Nat.max a kv.2 else a) 0

/-- The first erase that takes a sector of a bank past its rating (R355). -/
def pastRated (s : State) (b : Nat) : State :=
  if memNat s.nvm.pastRated b || decide (maxErases s.nvm b ≤ ratedErases b) then s
  else
    let s1 := imageEvent (s.modNvm fun n => { n with pastRated := n.pastRated ++ [b] }) 8 b 0
    nvmInt (folPost s1 0x41 2 1 (leBytes 1 b ++ leBytes 4 (maxErases s.nvm b))) 5

/-- Count one erase of a sector (DESIGN CHOICE, log entry 45). -/
def countErase (s : State) (k : Nat) : State :=
  pastRated ((s.modNvm fun n => { n with erases := n.erases.insert k (n.erases.getD k 0 + 1) }).bump (Reg.NVM_CNT 2) 1)
    (sectorBank k)

/-! ## The erase journal (R350, R351) -/

/-- Append one journal entry. The last two entries of a journal sector are those of the erase of the next one, which
happens with them (log entry 40). -/
def journalAdd (s : State) : State :=
  let q := s.nvm.journalSeq + 1
  if q % 256 = 254 then
    countErase (s.modNvm fun n => { n with journalSeq := q + 2 }) (1968 + (q / 256 + 1) % 16)
  else s.modNvm fun n => { n with journalSeq := q }

/-- Begin the erase at the head of a bank: its BEGIN is appended once (DESIGN CHOICE, log entry 40). -/
def beginErase (s : State) (b : Nat) : State :=
  match headJob s.nvm b with
  | some (.erase k _) =>
    if folSector k || memNat s.nvm.journal k then s
    else journalAdd (s.modNvm fun n => { n with journal := n.journal ++ [k] })
  | _ => s

/-- Every bank goes on with its next job; none while a Squall holds flash work (R307, R348). -/
def flashKick (s : State) : State :=
  if squallOn s || s.pw.off then s else forEach [0, 1, 2] s beginErase

/-- Queue flash jobs. -/
def flashQueue (s : State) (l : List FlashJob) : State := flashKick (s.modNvm fun n => { n with jobs := n.jobs ++ l })

/-! ## Erases and retirements (R353, R354) -/

/-- Show the length of an erase. -/
def showErase (s : State) (us : Nat) : State :=
  let w := Nat.max (s.rd Reg.NVM_WORST_ERASE_US).toNat us
  (s.wr Reg.NVM_LAST_ERASE_US (BitVec.ofNat 32 us)).wr Reg.NVM_WORST_ERASE_US (BitVec.ofNat 32 w)

/-- The nominal time is the mean of the first 16 erases. -/
def noteNominal (s : State) (k us : Nat) : State :=
  s.modNvm fun n =>
    let c := n.nominal.getD k (0, 0)
    if c.1 < 16 then { n with nominal := n.nominal.insert k (c.1 + 1, c.2 + us) } else n

/-- The settings store becomes read-only (R354). -/
def settingsReadOnly (s : State) : State :=
  let s1 := s.clampIf s.nvm.pendingMode.isSome
  let s2 := s1.modNvm fun n => { n with settingsRo := true, pendingMode := none }
  nvmInt (folPost (s2.setFlag Reg.GLB_APPLY_PENDING Fld.GLB_APPLY_PENDING_BOOT false) 0x42 2 2 []) 5

/-- What a retirement takes: a spare of the volume, its highest logical sector after the spares, a Folio sector for good,
or a spare of Bank C (R353, R354, R388). -/
def retireTakes (s : State) (k : Nat) : State :=
  let b := sectorBank k
  if b = 2 then
    if folSector k then
      folRegs (s.modFolio fun f => { f with badSectors := addNat f.badSectors (k - 1536), dirty := dropNat f.dirty (k - 1536) })
    else if 0 < s.nvm.spareC then s.modNvm fun n => { n with spareC := n.spareC - 1 }
    else if s.nvm.settingsRo then s else settingsReadOnly s
  else
    let v := volOf s.nvm b
    if 0 < v.spares then
      s.modNvm fun n => modVol n b fun v => { v with spares := v.spares - 1, retired := v.retired + 1 }
    else
      s.modNvm fun n =>
        let m := modVol n b fun v => { v with capacity := v.capacity - 1, retired := v.retired + 1 }
        if n.session ≠ 0 ∧ n.sessionVol = b then
          { m with piecesHeld := m.piecesHeld.filter fun i => decide (i < v.capacity - 1) } else m

/-- Retire a sector (R353): cause 1 a verify, 2 the erase time. -/
def retire (s : State) (k cause : Nat) : State :=
  if memNat s.nvm.retired k then s
  else
    let s1 := (s.modNvm fun n => { n with retired := n.retired ++ [k] }).bump (Reg.NVM_CNT 3) 1
    let s2 := (s1.setFlag Reg.NVM_LAST_RETIRED Fld.NVM_LAST_RETIRED_VALID true).setFld Reg.NVM_LAST_RETIRED
      Fld.NVM_LAST_RETIRED_OFFSET (k * 4096)
    let s3 := imageEvent s2 7 (sectorBank k) (k * 4096)
    nvmInt (retireTakes (folPost s3 0x40 2 1 (leBytes 4 (k * 4096) ++ leBytes 1 cause)) k) 4

/-! ## The end of an erase -/

/-- A sector that was half-erased has been erased again (R350). -/
def repaired (s : State) (k : Nat) : State :=
  if memNat s.nvm.halfErased k then
    imageEvent ((s.modNvm fun n => { n with halfErased := dropNat n.halfErased k }).bump (Reg.NVM_CNT 4) 1) 10 (sectorBank k) 0
  else s

/-- What an NVM_CMD reports at its end (DEDUCED, log entry 42). -/
def cmdEnds (s : State) (st : Status) (worst : Nat) : State :=
  let w := 2 ^ 31 + st * 256 + worst
  nvmInt (s.wr Reg.NVM_CMD_STATUS (BitVec.ofNat 32 w)) 0

/-- The logical sector a bank's next program goes to, and its place. -/
def programTarget (n : Nvm) (b : Nat) : Option Nat :=
  match headJob n b with
  | some (.piece _ i _) => some (physOf n b (i + 1))
  | some (.manifest ..) => some (physOf n b 0)
  | _ => none

/-- A commanded or prepared erase ended: a sector that did not verify blank is erased again; one that took too long is
retired, and the program that follows goes to a spare, erased first (R350, R353). -/
def eraseEnd (s : State) (k : Nat) (forCmd : Bool) (us : Nat) (blank : Bool) : State :=
  let limit := eraseLimit s.nvm k
  let s1 := showErase (noteNominal (countErase s k) k us) us
  if !blank then s1
  else
    let s2 := s1.modNvm fun n => { n with jobs := dropJob (.erase k forCmd) n.jobs }
    let s3 := if folSector k then folRegs (folSectorErased s2 (k - 1536))
      else journalAdd (s2.modNvm fun n => { n with journal := dropNat n.journal k })
    let s4 := repaired s3 k
    let s5 := if limit < us then retire s4 k 2 else s4
    let s6 := if forCmd then cmdEnds s5 Status.done 0 else s5
    match programTarget s6.nvm (sectorBank k) with
    | some p => if p != k && memNat s6.nvm.retired k then s6.modNvm fun n => { n with jobs := .erase p false :: n.jobs } else s6
    | none => s6

/-! ## The end of a program -/

/-- A verify after a program: 2 corrected bits retire the sector and the data is written again into its spare; a
corrected bit counts in NVM_CNT6 (R353). Answers whether the data stands. -/
def verifyEnd (s : State) (vol logical worst : Nat) : State × Bool :=
  let s1 := if 1 ≤ worst then s.bump (Reg.NVM_CNT 6) 1 else s
  if 2 ≤ worst then
    let s2 := retire s1 (physOf s1.nvm vol logical) 1
    (s2.modNvm fun n => { n with jobs := .erase (physOf n vol logical) false :: n.jobs }, false)
  else (s1, true)

/-- The manifest stands: the session is open and the volume PARTIAL (R362). -/
def manifestStands (s : State) (desc : Option Nat) (m : List Byte) (maint : Option Nat) : State :=
  let s1 := s.modNvm fun n =>
    modVol { n with session := 1, sessionPieces := leAt m 16 2, bundle := leAt m 4 4, sessionManifest := m, piecesHeld := [],
                    jobs := dropJob (.manifest desc m maint) n.jobs }
      n.sessionVol fun v => { v with build := leAt m 8 4, svn := leAt m 12 2, fmt := leAt m 14 2, state := 1 }
  pieceEnds s1 desc maint Status.done 0

/-- A piece stands: its bitmap record is written; the last one completes the session (R352, R363). -/
def pieceStands (s : State) (desc : Option Nat) (i : Nat) (maint : Option Nat) : State :=
  let s1 := (s.modNvm fun n => { n with jobs := dropJob (.piece desc i maint) n.jobs,
                                        piecesHeld := sortBy (fun a b => decide (a < b)) (addNat n.piecesHeld i) }).bump (Reg.NVM_CNT 0) 1
  let s2 := pieceEnds s1 desc maint Status.done 4096
  if s2.nvm.session = 1 ∧ s2.nvm.piecesHeld.length = s2.nvm.sessionPieces then
    let s3 := s2.modNvm fun n => modVol { n with session := 2 } n.sessionVol fun v => { v with state := 2 }
    nvmInt (imageEvent s3 1 s3.nvm.sessionVol 0) 1
  else s2

/-- A copy of the segment power set stands in the store (R305). -/
def storeStands (s : State) (set : Table Word) (gale : Nat) : State :=
  spwInt ((s.modNvm fun n => { n with spwStore := some set, spwGale := gale, jobs := dropJob (.spwStore set gale) n.jobs }).setFlag
    Reg.SPW_STORE Fld.SPW_STORE_BUSY false) 4

/-- The erase of a Folio sector ended (R376, R387). -/
def folioEraseEnd (s : State) (j : FlashJob) (k : Nat) (ahead : Bool) : State :=
  let s1 := countErase (s.modNvm fun n => { n with jobs := dropJob j n.jobs }) (1536 + k)
  if ahead then folRegs (folSectorErased s1 k) else folErasePart s1 k

/-- The flash work at the head of a bank ends. -/
def flashEnd (s : State) (r : FlashResult) : State :=
  if squallOn s || s.pw.off then s
  else flashKick <| match headJob s.nvm r.bank.toNat with
    | none => s
    | some (.erase k c) => eraseEnd s k c r.us r.blank
    | some (.manifest d m t) =>
      let v := verifyEnd s s.nvm.sessionVol 0 r.worst
      if v.2 then manifestStands v.1 d m t else v.1
    | some (.piece d i t) =>
      let v := verifyEnd s s.nvm.sessionVol (i + 1) r.worst
      if v.2 then pieceStands v.1 d i t else v.1
    | some (.spwStore set g) => storeStands s set g
    | some (.folioAhead k) =>
      let s1 := showErase (noteNominal s (1536 + k) r.us) r.us
      if r.blank then
        let s2 := folioEraseEnd s1 (.folioAhead k) k true
        if eraseLimit s.nvm (1536 + k) < r.us then retire s2 (1536 + k) 2 else s2
      else countErase s1 (1536 + k)
    | some (.folioErase k) =>
      let s1 := showErase (noteNominal s (1536 + k) r.us) r.us
      if r.blank then
        let s2 := folioEraseEnd s1 (.folioErase k) k false
        if eraseLimit s.nvm (1536 + k) < r.us then retire s2 (1536 + k) 2 else s2
      else countErase s1 (1536 + k)

/-- Erases in progress are abandoned at a Squall: those of the journal are half-erased, and the work waits (R307, R350). -/
def abortErases (s : State) : State :=
  let running := s.nvm.journal
  let fol := match headJob s.nvm 2 with
    | some (.folioAhead _) | some (.folioErase _) => true
    | some (.erase k _) => folSector k
    | _ => false
  let s1 := s.modNvm fun n => { n with journal := [], halfErased := running.foldl addNat n.halfErased }
  if !running.isEmpty || fol then s1.setFlag Reg.PWR_SQUALL_STATUS Fld.PWR_SQUALL_STATUS_FLASH_ABORTED true else s1

end Sys2Proof.Machine
end

