-- ==== Sys2Proof/Machine/Image.lean ====
section
/-! DEFINITION. Images (R362 to R371): manifests, pieces, schedules, status, confirmation; reading the Folio (R386). -/
namespace Sys2Proof.Machine

def ruleImagePiece : OpRule := { opcode := 0x28, standby := false, len := .upTo 4096, mgmt := true }
def ruleSchedule : OpRule := { opcode := 0x29, standby := false, len := .upTo 1024, here := true }
def ruleImageStatus : OpRule := { opcode := 0x2A, standby := true, len := .upTo 1024, mgmt := true }
def ruleFolioRead : OpRule := { opcode := 0x30, standby := true, len := .upTo 65536, mgmt := true }

/-! ## Manifests and pieces -/

/-- Is a manifest on its way into the flash. -/
def manifestPending (n : Nvm) : Bool := n.jobs.any fun j => match j with
  | .manifest .. => true
  | _ => false

/-- Is a program of one piece queued. -/
def piecePending (n : Nvm) (i : Nat) : Bool := n.jobs.any fun j => match j with
  | .piece _ k _ => k == i
  | _ => false

/-- The target volume a MANIFEST names (IMAGE_PIECE arguments). -/
def manifestTarget (n : Nvm) : Nat → Option Nat
  | 0 => some (if n.inRecovery then 0 else 1 - n.running)
  | 1 => some 0
  | 2 => some 1
  | _ => none

/-- Is a trial running that is not confirmed. -/
def trialRuns (n : Nvm) : Bool := n.trialState == 2

/-- The first failure a manifest meets, in the order of R362; none when it opens a session (DEDUCED, log entry 44). -/
def manifestStatus (s : State) (m : List Byte) (len vol : Nat) (keyOk sigOk : Bool) : Option Status :=
  let n := s.nvm
  if len ≠ 232 then some Status.denied
  else if !keyOk || !sigOk then some Status.cryptoReject
  else match manifestTarget n vol with
    | none => some Status.denied
    | some v =>
      let p := leAt m 16 2
      if leAt m 0 4 ≠ 0x4A564D31 ∨ leAt m 18 2 ≠ 0x5112 ∨ leAt m 12 2 < n.svn ∨ (volOf n v).capacity < p ∨
          n.session ≠ 0 ∨ manifestPending n = true then some Status.denied
      else if execBank n = v then some Status.execConflict
      else if trialRuns n ∧ n.active = v then some Status.denied
      else none

/-- A manifest is delivered, by a descriptor or by the maintenance function (R343, R362) (DESIGN CHOICE, log entry
43). -/
def manifestDelivered (s : State) (args data : List Byte) (len : Nat) (keyOk sigOk : Bool) (desc maint : Option Nat) : State :=
  let s0 := if len = 232 then s.bump (Reg.SEC_CNT 0) 1 else s
  match manifestStatus s0 data len (byteAt args 1) keyOk sigOk with
  | some st =>
    let s1 := if st = Status.cryptoReject then (if desc.isSome then cryptoFailed s0 else (cryptoFailed s0).glb 22 1)
      else if st = Status.execConflict then s0.bump (Reg.NVM_CNT 5) 1 else s0
    pieceEnds s1 desc maint st 0
  | none =>
    let v := (manifestTarget s.nvm (byteAt args 1)).getD 0
    flashQueue (s0.modNvm fun n => { n with sessionVol := v })
      [.erase (physOf s.nvm v 0) false, .manifest desc (fitBytes 232 data) maint]

/-- IMAGE_PIECE MANIFEST (R362). -/
def opManifest (keyOk sigOk : Bool) (x : Desc) (s : State) : State :=
  if 2 < byteAt x.args 0 then complete s x Status.denied
  else manifestDelivered s x.args x.data x.len keyOk sigOk (some x.id) none

/-- What becomes of a delivered piece: a status at once, or flash work (R363) (DEDUCED, log entry 44). -/
def pieceStatus (n : Nvm) (args : List Byte) (tagOk : Bool) : Option Status :=
  let i := leAt args 2 2
  if !tagOk then some Status.cryptoReject
  else if n.session = 0 ∨ leAt args 4 4 ≠ n.bundle ∨ n.sessionPieces ≤ i then some Status.denied
  else if memNat n.piecesHeld i || piecePending n i then some Status.done
  else none

/-- Store one piece, from a descriptor or the port (R343, R363) (DESIGN CHOICE, log entry 43). -/
def pieceDelivered (s : State) (args : List Byte) (tagOk : Bool) (desc maint : Option Nat) : State :=
  match pieceStatus s.nvm args tagOk with
  | some st =>
    let s1 := if st = Status.cryptoReject then
        let s2 := cryptoFailed (s.bump (Reg.NVM_CNT 1) 1)
        if desc.isSome then s2 else s2.glb 22 1
      else s
    pieceEnds s1 desc maint st 0
  | none =>
    let i := leAt args 2 2
    flashQueue s [.erase (physOf s.nvm s.nvm.sessionVol (i + 1)) false, .piece desc i maint]

/-- IMAGE_PIECE PIECE (R363). -/
def opPiece (tagOk : Bool) (x : Desc) (s : State) : State :=
  if 2 < byteAt x.args 0 then complete s x Status.denied
  else pieceDelivered s x.args tagOk (some x.id) none

/-- The pieces still waiting for the flash, and who delivered them. -/
def waitingPieces (n : Nvm) : List (Option Nat × Option Nat) := n.jobs.filterMap fun j => match j with
  | .piece d _ t => some (d, t)
  | _ => none

/-- Is a job no piece. -/
def notPiece : FlashJob → Bool
  | .piece .. => false
  | _ => true

/-- The session is abandoned: it ends, the volume stays PARTIAL; pieces not stored yet find no session (R364). -/
def abandonDelivered (s : State) (args : List Byte) (desc maint : Option Nat) : State :=
  if s.nvm.session = 0 ∨ leAt args 4 4 ≠ s.nvm.bundle then pieceEnds s desc maint Status.denied 0
  else
    let s1 := s.modNvm fun n => modVol { n with session := 0, sessionPieces := 0, bundle := 0, piecesHeld := [], armedT := none,
                                                 jobs := n.jobs.filter notPiece } n.sessionVol fun v => { v with state := 1 }
    let s2 := forEach (waitingPieces s.nvm) s1 fun s w => pieceEnds s w.1 w.2 Status.denied 0
    pieceEnds s2 desc maint Status.done 0

/-- IMAGE_PIECE ABANDON (R364). -/
def opAbandon (x : Desc) (s : State) : State :=
  if 2 < byteAt x.args 0 then complete s x Status.denied
  else abandonDelivered s x.args (some x.id) none

/-- IMAGE_PIECE by its KIND (DEDUCED, log entry 44). -/
def opImagePiece (keyOk sigOk tagOk : Bool) (x : Desc) (s : State) : State :=
  match byteAt x.args 0 with
  | 0 => opManifest keyOk sigOk x s
  | 1 => opPiece tagOk x s
  | _ => opAbandon x s

/-! ## Schedules (R366, R367) -/

/-- Arm this hub for T. -/
def armHub (s : State) (t : Nat) : State :=
  imageEvent (s.modNvm fun n => { n with armedT := some t, session := 3 }) 2 s.nvm.sessionVol 0

/-- Disarm this hub, when it is armed and has not reached T. -/
def disarmHub (s : State) : State :=
  if s.nvm.armedT.isSome then
    imageEvent (s.modNvm fun n => { n with armedT := none, session := 2 }) 9 s.nvm.sessionVol 0
  else s

/-- Does this hub pass the checks of R366. -/
def armable (n : Nvm) (bundle : Nat) : Bool :=
  n.session == 2 && n.bundle == bundle && !trialRuns n && n.armedT.isNone

/-- The hubs a schedule names, and T. -/
def schedHubs (x : Desc) : List Nat := bitList 17 (leAt x.args 4 4)
def schedTime (x : Desc) : Nat := leAt x.args 8 8

/-- Is T between 1 s and 7 days after a tree time. -/
def schedInRange (x : Desc) (now : Nat) : Bool :=
  decide (now + 1000000000 ≤ schedTime x) && decide (schedTime x ≤ now + 604800000000000)

/-- What the root knows of a named branch at its checks. -/
def reportOf (l : List HubReport) (h : Nat) : HubReport :=
  (l.find? fun r => r.hub == h).getD ⟨h, false, false, false, false⟩

/-- Is a named branch absent or orphaned. -/
def hubAbsent (s : State) (l : List HubReport) (h : Nat) : Bool := h != 0 && (!branchThere s h || (reportOf l h).absent)

/-- Does a named hub pass the checks. -/
def hubPasses (s : State) (x : Desc) (l : List HubReport) (h : Nat) : Bool :=
  if h = 0 then armable s.nvm (leAt x.args 0 4) else (reportOf l h).complete && !(reportOf l h).busy

/-- Send a branch its share of a schedule in a DESC message (log entry 41). -/
def schedSend (s : State) (x : Desc) (h action : Nat) : State :=
  sendMsg s (h - 1) 2 ⟨1, x.fn == .pf1, mkTea h 0 0 0, x.sq, x.tag, 0, 0,
    leBytes 1 0x29 ++ leBytes 3 0 ++ leBytes 4 x.tag ++ leBytes 4 (mkTea h 0 0 0) ++ leBytes 12 0 ++
      x.args.take 4 ++ leBytes 4 (2 ^ h) ++ leBytes 8 (schedTime x) ++ leBytes 1 action ++ leBytes 23 0⟩

/-- ARM on the root: the hubs are armed in order; a branch lost on the way cancels those armed before it (R366)
(DESIGN CHOICE, log entry 41). -/
def armAll (s : State) (x : Desc) (l : List HubReport) : List Nat → List Nat → State
  | _, [] => complete s x Status.done
  | done, h :: r =>
    if h ≠ 0 ∧ (reportOf l h).lost then
      complete (forEach done s fun s g => if g = 0 then disarmHub s else schedSend s x g 1) x Status.nodeAbsent
    else if h = 0 then armAll (armHub s (schedTime x)) x l (done ++ [h]) r
    else armAll (schedSend s x h 0) x l (done ++ [h]) r

/-- IMAGE_SCHEDULE ARM (R366) (DESIGN CHOICE, log entry 41). -/
def opArm (l : List HubReport) (x : Desc) (s : State) : State :=
  if isBranch s then
    if armable s.nvm (leAt x.args 0 4) && byteAt x.args 16 == 0 then complete (armHub s (schedTime x)) x Status.done
    else complete s x Status.denied
  else if x.tea ≠ 0 ∨ 2 ≤ byteAt x.args 16 then complete s x Status.denied
  else if (schedHubs x).any fun h => hubAbsent s l h then complete s x Status.nodeAbsent
  else if !(schedInRange x x.fetchTime && (schedHubs x).all fun h => hubPasses s x l h) then complete s x Status.denied
  else armAll s x l [] (schedHubs x)

/-- IMAGE_SCHEDULE CANCEL: the named hubs that have not reached T are disarmed (R366) (DESIGN CHOICE, log entry 41;
DEDUCED, log entry 46). -/
def opCancel (x : Desc) (s : State) : State :=
  if isBranch s then complete (disarmHub s) x Status.done
  else if x.tea ≠ 0 ∨ 2 ≤ byteAt x.args 16 then complete s x Status.denied
  else
    let s1 := forEach (schedHubs x) s fun s h =>
      if h = 0 then disarmHub s else if hubAbsent s [] h then s else schedSend s x h 1
    complete s1 x (if (schedHubs x).any fun h => hubAbsent s [] h then Status.nodeAbsent else Status.done)

/-- IMAGE_SCHEDULE by its ACTION. -/
def opSchedule (l : List HubReport) (x : Desc) (s : State) : State :=
  if byteAt x.args 16 = 1 then opCancel x s else opArm l x s

/-! ## Status -/

/-- Seconds left in the confirm window (NVM_CONFIRM.LEFT_S). -/
def confirmLeft (s : State) : Nat :=
  match s.nvm.windowEnd with
  | some e => ceilDiv (e - s.fc.now) 1000000000
  | none => 0

/-- The 16 bytes of one volume. -/
def volBytes (v : Volume) : List Byte :=
  leBytes 4 v.build ++ leBytes 2 v.svn ++ leBytes 2 v.fmt ++ leBytes 2 v.capacity ++ leBytes 1 v.state ++
    leBytes 1 v.retired ++ leBytes 4 0

/-- The bitmap of the pieces stored, as a number: bit i is piece i. -/
def pieceBitmap (n : Nvm) : Nat := bitmapOf n.piecesHeld

/-- BOOT_STATE: 0 confirmed, 1 trial running, 2 fell back at the last start. -/
def bootState (n : Nvm) : Nat := if trialRuns n then 1 else if n.fellBack ≠ 0 then 2 else 0

/-- IMAGE_STATUS data. -/
def imageStatus (s : State) : List Byte :=
  let n := s.nvm
  leBytes 4 (s.rd Reg.GLB_BUILD).toNat ++ leBytes 1 n.running ++ leBytes 1 (bootState n) ++ leBytes 2 n.svn ++
    volBytes n.volA ++ volBytes n.volB ++ leBytes 4 n.bundle ++ leBytes 2 n.sessionPieces ++
    leBytes 2 n.piecesHeld.length ++ leBytes 1 n.session ++ leBytes 1 n.sessionVol ++ leBytes 2 0 ++
    leBytes 8 (n.armedT.getD 0) ++ leBytes 4 (confirmLeft s) ++ leBytes 92 (pieceBitmap n)

/-- IMAGE_STATUS. -/
def opImageStatus (x : Desc) (s : State) : State :=
  let d := (imageStatus s).take x.len
  complete (hostWrite s x d) x Status.done d.length

/-- FOLIO_READ: LENGTH is rounded down to whole entries (R386). -/
def opFolioRead (x : Desc) (s : State) : State :=
  let n := x.len / 64
  let d := ((folFrom s.folio (leAt x.args 0 4) (bitsOf (byteAt x.args 4) 0 2)).take n).flatMap folBytes
  complete (hostWrite (clampDesc s x (x.len % 64 != 0)) x d) x Status.done d.length

/-! ## Confirmation (R369) -/

/-- A volume whose SEC_VERSION falls below the counter is REVOKED. -/
def revoke (svn : Nat) (v : Volume) : Volume := if v.state ≠ 0 ∧ v.svn < svn then { v with state := 6 } else v

/-- The trial is confirmed: boot record, counter, settings slot, event and entry, in that order. -/
def confirmTrial (s : State) : State :=
  let v := s.nvm.running
  let svn := Nat.max s.nvm.svn (volOf s.nvm v).svn
  let s1 := s.modNvm fun n =>
    let m := modVol { n with active := v, trialState := 0, svn := svn, oldSlot := none, windowEnd := none } v
      fun w => { w with state := 3 }
    { m with volA := revoke svn m.volA, volB := revoke svn m.volB }
  let w := volOf s1.nvm v
  nvmInt (folPost (imageEvent s1 5 v 0) 0x43 16 0 (leBytes 1 v ++ leBytes 4 w.build ++ leBytes 2 w.svn)) 2

/-- Confirm the trial when the image and, with HOST_GATE, the host have both approved (R369). -/
def confirmCheck (s : State) : State :=
  let gate := s.flag Reg.NVM_CONFIRM Fld.NVM_CONFIRM_HOST_GATE
  if trialRuns s.nvm && s.flag Reg.NVM_CONFIRM Fld.NVM_CONFIRM_HEALTH_CONFIRM &&
      (!gate || s.flag Reg.NVM_CONFIRM Fld.NVM_CONFIRM_HOST_APPROVE) then confirmTrial s
  else s

/-! ## Registers that show the flash (NVM and SEC tables) -/

/-- A word of a key that is kept as words. -/
def keyWord (l : List Word) (i : Nat) : Word := l.getD i 0

/-- NVM_STATUS. -/
def nvmStatusWord (s : State) : Nat :=
  let n := s.nvm
  let bb := b2n (bankBusy n 0) + 2 * b2n (bankBusy n 1) + 4 * b2n (bankBusy n 2)
  let busy := !squallOn s && bb != 0
  b2n busy * 2 ^ 31 + (if busy then bb else 0) * 2 ^ 28 + b2n n.settingsRo * 64 + bitmapOf n.pastRated * 8 +
    s.fld Reg.NVM_STATUS Fld.NVM_STATUS_SCANNING * 4 + execBank n

/-- The volume registers at an offset of their group. -/
def volWord (v : Volume) : Nat → Nat
  | 0 => v.build
  | 4 => if v.state = 0 then 0 else v.svn
  | 8 => v.fmt * 65536 + v.state
  | _ => v.spares * 65536 + v.capacity

/-- Retired sectors of a bank. -/
def retiredIn (n : Nvm) (b : Nat) : Nat := (n.retired.filter fun k => sectorBank k == b).length

/-- The word of a register that shows the flash, the ledger or OTP; none for the others. -/
def nvmWord (s : State) (a : Nat) : Option Nat :=
  let n := s.nvm
  if a = Reg.NVM_STATUS then some (nvmStatusWord s)
  else if a = Reg.NVM_BOOT then some (n.lastFallback * 256 + n.trialState * 4 + n.trialVol * 2 + n.active)
  else if a = Reg.NVM_CONFIRM then some (Nat.min 0xFFFF (confirmLeft s) * 65536 + (s.rd a).toNat % 8)
  else if a = Reg.NVM_SCHED_TIME_LO then some ((n.armedT.getD 0) % 2 ^ 32)
  else if a = Reg.NVM_SCHED_TIME_HI then some ((n.armedT.getD 0) / 2 ^ 32 % 2 ^ 32)
  else if a = Reg.NVM_SESSION then some (n.session * 2 ^ 30 + n.sessionVol * 2 ^ 28 + n.piecesHeld.length * 65536 + n.sessionPieces)
  else if a = Reg.NVM_SESSION_BUNDLE then some n.bundle
  else if a = Reg.NVM_JOURNAL then some (n.halfErased.length * 65536 + n.journalSeq % 65536)
  else if a = Reg.NVM_SETTINGS then some (n.settingsFmt * 65536 + b2n n.oldSlot.isSome * 2 + n.settingsSlot)
  else if 0x2040 ≤ a ∧ a < 0x2050 then some (volWord n.volA (a - 0x2040))
  else if 0x2050 ≤ a ∧ a < 0x2060 then some (volWord n.volB (a - 0x2050))
  else if 0x2060 ≤ a ∧ a < 0x206C then some (maxErases n ((a - 0x2060) / 4))
  else if a = Reg.NVM_RETIRED then some (retiredIn n 2 % 256 * 65536 + retiredIn n 1 % 256 * 256 + retiredIn n 0 % 256)
  else if 0x2080 ≤ a ∧ a < 0x20E0 then some (pieceBitmap n / 2 ^ ((a - 0x2080) * 8) % 2 ^ 32)
  else if a = Reg.SEC_LIFECYCLE then some n.lifecycle
  else if a = Reg.SEC_SVN then some ((if n.inRecovery then 0 else (volOf n n.running).svn) * 65536 + n.svn)
  else if a = Reg.SEC_DEV_ID_LO then some (n.identity % 2 ^ 32)
  else if a = Reg.SEC_DEV_ID_HI then some (n.identity / 2 ^ 32 % 2 ^ 32)
  else if a = Reg.SEC_OTP_STATUS then some (s.fld a Fld.SEC_OTP_STATUS_CORRECTED * 65536 + (256 - n.svn))
  else if 0x1040 ≤ a ∧ a < 0x1080 then some (keyWord n.pubKey ((a - 0x1040) / 4)).toNat
  else if 0x1080 ≤ a ∧ a < 0x10B0 then some (keyWord n.keyHash ((a - 0x1080) / 4)).toNat
  else none

end Sys2Proof.Machine
end

