-- ==== Sys2Proof/Machine/ServicePort.lean ====
section
/-! DEFINITION. The Goden service port (R326 to R339, R344): attach, PD messages and their answers, policy, fast role
swap. Message codes and object layouts are those of the USB PD standard that R330 names (log entry 50). A sent message is
taken to have its GoodCRC: the table has no command for one that is missing (log entry 51). -/
namespace Sys2Proof.Machine

/-! ## Objects and messages -/

/-- The code of a PD message: its type, plus 32 with data objects, plus 64 when extended (PRESUMED, log entry 50). -/
def pdCode (header : Nat) : Nat :=
  if bitOf header 15 then 64 + bitsOf header 0 5
  else if bitsOf header 12 3 = 0 then bitsOf header 0 5 else 32 + bitsOf header 0 5

def Pd.accept : Nat := 3
def Pd.reject : Nat := 4
def Pd.psRdy : Nat := 6
def Pd.getSourceCap : Nat := 7
def Pd.getSinkCap : Nat := 8
def Pd.drSwap : Nat := 9
def Pd.prSwap : Nat := 10
def Pd.vconnSwap : Nat := 11
def Pd.wait : Nat := 12
def Pd.softReset : Nat := 13
def Pd.notSupported : Nat := 16
def Pd.frSwap : Nat := 19
def Pd.sourceCap : Nat := 33
def Pd.request : Nat := 34
def Pd.sinkCap : Nat := 36

/-- Does a message call for an answer (PRESUMED, log entry 50). -/
def pdAsks (code : Nat) : Bool :=
  !(code == Pd.accept || code == Pd.reject || code == Pd.psRdy || code == Pd.wait || code == Pd.notSupported ||
    code == Pd.sinkCap || code == 1 || code == 5)

/-- The source PDO: Fixed, 5 V, 3.0 A (R330) (PRESUMED, log entry 50). -/
def srcPdo (s : State) : Nat :=
  2 ^ 29 + s.fld Reg.PDP_TC_CFG Fld.PDP_TC_CFG_UNCONSTRAINED * 2 ^ 27 + 2 ^ 26 + 2 ^ 25 + 100 * 1024 + 300

/-- The sink PDO: Fixed, 5 V, 3.0 A, Fast Role Swap current 1.5 A (R330) (PRESUMED, log entry 50). -/
def snkPdo : Nat := 2 ^ 29 + 2 * 2 ^ 23 + 100 * 1024 + 300

/-- Is a PDO a fixed one of 5 V. -/
def fiveVolt (o : Nat) : Bool := bitsOf o 30 2 == 0 && bitsOf o 10 10 == 100

/-- The sink's request: 5 V at the lower of 3.0 A and the offer; Capability Mismatch without a 5 V PDO (R330)
(PRESUMED, log entry 50). -/
def sinkRequest (pdos : List Nat) : Nat :=
  match ((List.range pdos.length).zip pdos).find? fun x => fiveVolt x.2 with
  | some (i, o) =>
    let a := Nat.min 300 (bitsOf o 0 10)
    (i + 1) * 2 ^ 28 + 2 ^ 25 + a * 1024 + a
  | none => 2 ^ 28 + 2 ^ 26 + 2 ^ 25 + 300 * 1024 + 300

/-- The data objects of a message. -/
def pdObjects (header : Nat) (data : List Byte) : List Nat :=
  (List.range (bitsOf header 12 3)).map fun i => leAt data (4 * i) 4

/-- The 32 bytes of a PD message block. -/
def pdBlock (header kind : Nat) (data : List Byte) : List Byte :=
  leBytes 2 header ++ leBytes 1 0 ++ leBytes 1 kind ++ fitBytes 28 data

/-- PD_MSG_RX (R336). -/
def pdEvent (s : State) (header kind : Nat) (data : List Byte) : State := hubEvent s 0x0E (pdBlock header kind data)

/-- The last message block received or sent. -/
def pdLast (s : State) (reg : Nat → Nat) (block : List Byte) : State :=
  forEach (List.range 8) s fun s i => s.wr (reg i) (BitVec.ofNat 32 (leAt block (4 * i) 4))

/-! ## Pins, USB and policy -/

/-- Does the hub source VBUS (R328). -/
def sourcesVbus (s : State) : Bool :=
  s.port.aoRail && !squallOn s && s.port.st == 1 && !s.pw.off && s.pw.recovery == 0

/-- VBUS_SRC_EN follows its conditions. -/
def srcEnable (s : State) : State :=
  if s.flag Reg.PDP_VBUS Fld.PDP_VBUS_SRC_EN == sourcesVbus s then s
  else drive (s.setFlag Reg.PDP_VBUS Fld.PDP_VBUS_SRC_EN (sourcesVbus s)) .vbusSrcEn (sourcesVbus s)

/-- The maintenance function connects or leaves (R329, R342). -/
def usbConnect (s : State) (on : Bool) : State :=
  if on then s.setFlag Reg.PDP_USB_STATUS Fld.PDP_USB_STATUS_CONNECTED true else s.wr Reg.PDP_USB_STATUS 0

/-- May the host hold the policy now (R333). -/
def hostPolicy (s : State) : Bool :=
  s.flag Reg.PDP_CTRL Fld.PDP_CTRL_POLICY && !inLull s && s.pw.recovery == 0 && !s.pw.off &&
    (if isBranch s then (s.link upLink).st == 8 else isReady s)

/-- The holder of the policy changes when the AMS in progress has ended (R333). -/
def policyCheck (s : State) : State :=
  if s.port.ams || s.flag Reg.PDP_STATUS Fld.PDP_STATUS_POLICY_IN_FORCE == hostPolicy s then s
  else
    pdEvent ((s.setFlag Reg.PDP_STATUS Fld.PDP_STATUS_POLICY_IN_FORCE (hostPolicy s)).modPort fun p => { p with asked := none })
      0 10 (leBytes 1 (b2n (hostPolicy s)))

/-- Does the host hold the policy. -/
def policyHeld (s : State) : Bool := s.flag Reg.PDP_STATUS Fld.PDP_STATUS_POLICY_IN_FORCE

/-- Fast role swap is armed or not (R337). -/
def frsUpdate (s : State) : State :=
  let on := s.port.st == 1 && s.flag Reg.PDP_STATUS Fld.PDP_STATUS_CONTRACT &&
    (s.port.partnerDual || s.flag Reg.PDP_CTRL Fld.PDP_CTRL_FRS_FORCE)
  ((s.setFlag Reg.PDP_STATUS Fld.PDP_STATUS_FRS_ARMED on).setFlag Reg.PDP_FRS Fld.PDP_FRS_ARMED on).modPort
    fun p => { p with frsArmed := on }

/-- The state of the port. -/
def portTo (s : State) (st : Nat) : State :=
  srcEnable ((s.setFld Reg.PDP_STATUS Fld.PDP_STATUS_STATE st).modPort fun p => { p with st := st })

/-- Sends that wait are discarded (R335). -/
def dropWaitSend (s : State) : State :=
  forEach s.port.waitSend (s.modPort fun p => { p with waitSend := [] }) fun s w => completeId s w.1 Status.withdrawn

/-- The Rp that a source presents: SinkTxNG during an AMS of its own, else SinkTxOK (R332) (DEDUCED, log entry 77). -/
def rpShow (s : State) : State :=
  if s.port.st = 1 then s.setFld Reg.PDP_CC_STATUS Fld.PDP_CC_STATUS_RP_OWN (if s.port.ownAms then 2 else 3) else s

/-- The AMS in progress ends. -/
def amsEnd (s : State) : State :=
  policyCheck (rpShow (s.modPort fun p => { p with ams := false, ownAms := false, ownReq := 0, asked := none }))

/-- Do PD messages other than those of the swap wait: a seal runs during a fast role swap (R338). -/
def portWaits (s : State) : Bool := s.port.frsBusy && s.folio.sealing.isSome

/-- The contract ends, and with it an armed fast role swap (R344). -/
def contractLost (s : State) : State :=
  let s1 := (s.setFlag Reg.PDP_STATUS Fld.PDP_STATUS_CONTRACT false).wr Reg.PDP_CONTRACT 0
  frsUpdate (s1.modPort fun p => { p with rdo := 0, partnerDual := false })

/-- The session starts anew after a reset or a detach. -/
def sessionOver (s : State) : State :=
  policyCheck (rpShow <| (contractLost (dropWaitSend s)).modPort fun p => { p with
    ams := false, ownAms := false, msgIdTx := 0, asked := none, autoAnswered := false, ownReq := 0, softReset := false })

/-! ## Sending -/

/-- The header of the next message: MessageID, roles and revision are the chip's (R331) (DEDUCED, log entry 51). -/
def pdHeader (s : State) (code : Nat) (data : List Byte) : Nat :=
  let n := if code < 32 then 0 else data.length / 4
  (if 64 ≤ code then 2 ^ 15 else 0) + n % 8 * 4096 + s.port.msgIdTx * 512 + b2n (s.port.st == 1) * 256 + 128 +
    s.fld Reg.PDP_STATUS Fld.PDP_STATUS_DATA_ROLE * 32 + code % 32

/-- Put one message on the wire (R331). -/
def pdPut (s : State) (code : Nat) (data : List Byte) : State :=
  let h := pdHeader s code data
  let s1 := pdLast (s.bump (Reg.PDP_CNT 0) 1) Reg.PDP_LAST_TX (pdBlock h 0 data)
  (s1.emit (.pd h data)).modPort fun p => { p with msgIdTx := (p.msgIdTx + 1) % 8 }

/-- A contract is made (R336). -/
def contractMade (s : State) : State :=
  let r := s.port.rdo
  let s1 := (s.setFlag Reg.PDP_STATUS Fld.PDP_STATUS_CONTRACT true).wr Reg.PDP_CONTRACT (BitVec.ofNat 32 r)
  let s2 := (s1.setFld Reg.PDP_STATUS Fld.PDP_STATUS_HARD_RESETS 0).modPort fun p => { p with resetOut := false, softReset := false }
  frsUpdate (pdpInt (pdEvent s2 0 3 (leBytes 4 r)) 2)

/-- What sending a message does besides: an AMS of the hub begins, an answer ends one, PS_RDY of a source makes the
contract (DEDUCED, log entry 51). -/
def pdSend (s : State) (code : Nat) (data : List Byte) : State :=
  let s1 := pdPut s code data
  if code = Pd.psRdy then
    if s1.port.st = 1 ∧ s1.port.rdo ≠ 0 then amsEnd (contractMade s1) else amsEnd s1
  else if pdAsks code then
    rpShow (s1.modPort fun p => { p with
      ams := true, ownAms := p.ownAms || !p.ams, ownReq := code, sentAt := s.fc.now, asked := none, autoAnswered := false,
      rdo := if code = Pd.request then leAt data 0 4 else p.rdo })
  else if code = Pd.accept then s1.modPort fun p => { p with asked := none }
  else amsEnd (s1.modPort fun p => { p with rdo := if p.st = 1 then 0 else p.rdo })

/-- The hub as source asks for the partner's source capabilities (R337) (DEDUCED, log entry 77). -/
def askSourceCap (s : State) : State := pdSend s Pd.getSourceCap []

/-- After a contract the source sends DR_Swap while it is DFP, then asks (R329, R337) (DEDUCED, log entry 77). -/
def afterContract (s : State) : State :=
  if s.port.st ≠ 1 then s
  else if s.flag Reg.PDP_STATUS Fld.PDP_STATUS_DATA_ROLE then pdSend s Pd.drSwap [] else askSourceCap s

/-- Soft Reset is sent (R331). -/
def sendSoftReset (s : State) : State :=
  let s1 := pdEvent ((dropWaitSend s).bump (Reg.PDP_CNT 5) 1) 0 4 (leBytes 1 0)
  (pdSend (s1.modPort fun p => { p with msgIdTx := 0 }) Pd.softReset []).modPort fun p => { p with softReset := true }

/-- What a Hard Reset ends on this side. -/
def hardResetEnds (s : State) (received : Bool) : State :=
  let s1 := sessionOver s
  let s2 := pdEvent s1 0 5 (leBytes 1 (b2n received) ++ leBytes 1 (s.fld Reg.PDP_STATUS Fld.PDP_STATUS_HARD_RESETS))
  let s3 := pdpInt s2 3
  let s4 := if s3.port.st = 1 then usbConnect (s3.setFld Reg.PDP_STATUS Fld.PDP_STATUS_DATA_ROLE 1) false else s3
  s4.modPort fun p => { p with sentAt := s.fc.now }

/-- Hard Reset signalling is sent (R331). -/
def sendHardReset (s : State) : State :=
  (hardResetEnds ((s.bump (Reg.PDP_CNT 7) 1).emit .pdHardReset) false).modPort fun p => { p with resetOut := true }

/-- ErrorRecovery for 25 ms (R331); with VBUS as the only supply the port stays attached. -/
def errorRecovery (s : State) : State :=
  if !s.port.aoRail then s
  else
    let s1 := portTo (usbConnect ((sessionOver s).bump (Reg.PDP_CNT 9) 1) false) 3
    let s2 := s1.modPort fun p => { p with recoveryEnd := s.fc.now + 25000000, resetOut := false, frsBusy := false, frsAsk := false, frsAt := none }
    frsUpdate (pdpInt (pdEvent (s2.wr Reg.PDP_CC_STATUS 0) 0 6 []) 4)

/-- A Hard Reset has failed; after 2 the chip enters ErrorRecovery (R331). -/
def hardResetFailed (s : State) : State :=
  let n := Nat.min 2 (s.fld Reg.PDP_STATUS Fld.PDP_STATUS_HARD_RESETS + 1)
  let s1 := s.setFld Reg.PDP_STATUS Fld.PDP_STATUS_HARD_RESETS n
  if n < 2 then sendHardReset s1 else errorRecovery s1

/-- SenderResponseTimer expires (R331). -/
def senderTimeout (s : State) : State :=
  let s1 := s.bump (Reg.PDP_CNT 4) 1
  if s1.port.resetOut then hardResetFailed s1
  else if s1.port.softReset then sendHardReset s1 else sendSoftReset s1

/-! ## Attach and detach -/

/-- A partner attaches: the hub becomes source or sink as the connection gives and MODE allows (R326). -/
def portAttach (s : State) (source orient : Bool) (rp : Nat) : State :=
  let m := s.fld Reg.PDP_TC_CFG Fld.PDP_TC_CFG_MODE
  if s.port.st ≠ 0 ∨ (source = true ∧ (m = 2 ∨ s.port.aoRail = false)) ∨ (source = false ∧ m = 1) then s
  else
    let cc := b2n orient * 32 + (if source then 3 * 8 else rp * 2) + 1
    let s1 := portTo ((s.wr Reg.PDP_CC_STATUS (BitVec.ofNat 32 cc)).setFld Reg.PDP_STATUS Fld.PDP_STATUS_DATA_ROLE (b2n source))
      (if source then 1 else 2)
    let s2 := pdpInt (pdEvent (s1.bump (Reg.PDP_CNT 10) 1) 0 1 (leBytes 1 (if source then 1 else 2) ++ leBytes 1 (b2n orient))) 0
    if source then (if policyHeld s2 then s2 else pdSend s2 Pd.sourceCap (leBytes 4 (srcPdo s2))) else usbConnect s2 true

/-- The port is Unattached. -/
def portDetach (s : State) : State :=
  if s.port.st = 0 then s
  else
    let s1 := portTo (usbConnect ((sessionOver s).wr Reg.PDP_CC_STATUS 0) false) 0
    let s2 := (s1.setFld Reg.PDP_STATUS Fld.PDP_STATUS_HARD_RESETS 0).setFld Reg.PDP_STATUS Fld.PDP_STATUS_DATA_ROLE 0
    let s3 := s2.modPort fun p => { p with resetOut := false, frsBusy := false, frsAsk := false, frsAt := none }
    frsUpdate (pdpInt (pdEvent s3 0 2 []) 1)

/-! ## The AO core's answers (R333) -/

/-- The answer of the AO core to a message that asks for one: its code and data (DEDUCED, log entry 77). -/
def aoAnswer (s : State) (m : PdBlock) : Nat × List Byte :=
  let c := pdCode m.header.toNat
  if c = Pd.sourceCap then (Pd.request, leBytes 4 (sinkRequest (pdObjects m.header.toNat m.data)))
  else if c = Pd.request ∨ c = Pd.softReset then (Pd.accept, [])
  else if c = Pd.getSourceCap then (Pd.sourceCap, leBytes 4 (srcPdo s))
  else if c = Pd.getSinkCap then (Pd.sinkCap, leBytes 4 snkPdo)
  else if c = Pd.drSwap then ((if s.flag Reg.PDP_STATUS Fld.PDP_STATUS_DATA_ROLE then Pd.accept else Pd.reject), [])
  else if c = Pd.prSwap ∨ c = Pd.vconnSwap then (Pd.reject, [])
  else (Pd.notSupported, [])

/-- Send the AO core's answer; an accepted request is followed by PS_RDY, an accepted DR_Swap makes the hub UFP
(DEDUCED, log entry 77). -/
def aoAnswers (s : State) (m : PdBlock) : State :=
  let a := aoAnswer s m
  let c := pdCode m.header.toNat
  let s1 := pdSend s a.1 a.2
  if a.1 ≠ Pd.accept then s1
  else if c = Pd.request ∧ s.port.st = 1 then afterContract (pdSend s1 Pd.psRdy [])
  else if c = Pd.drSwap then amsEnd (usbConnect (s1.setFld Reg.PDP_STATUS Fld.PDP_STATUS_DATA_ROLE 0) true)
  else amsEnd s1

/-- A message asks for an answer: the host is asked while it holds the policy, else the AO core answers, once a seal of a
fast role swap is complete (R333, R334, R338). -/
def pdAsked (s : State) (m : PdBlock) : State :=
  let c := pdCode m.header.toNat
  let s1 := s.modPort fun p => { p with ams := true, rdo := if c = Pd.request then leAt m.data 0 4 else p.rdo }
  if policyHeld s1 || portWaits s1 then s1.modPort fun p => { p with asked := some m, askedAt := s.fc.now, autoAnswered := false }
  else aoAnswers s1 m

/-- The host has not answered in time: the AO core's answer goes out (R334). -/
def autoAnswer (s : State) (m : PdBlock) : State :=
  let a := aoAnswer s m
  let s1 := aoAnswers (s.bump (Reg.PDP_CNT 13) 1) m
  (pdEvent s1 (pdHeader s a.1 a.2) 9 a.2).modPort fun p => { p with asked := none, autoAnswered := true }

/-! ## Fast role swap (R338, R339) -/

/-- A fast role swap failed. -/
def frsFails (s : State) (result : Nat) : State :=
  let s1 := (s.setFld Reg.PDP_FRS Fld.PDP_FRS_RESULT result).bump (Reg.PDP_CNT 12) 1
  let s2 := s1.modPort fun p => { p with frsBusy := false, frsAsk := false, frsAt := none }
  folHold (pdpInt (pdEvent s2 0 8 (leBytes 1 result)) 5) 0x15 25 2 (leBytes 1 result)

/-- The swap is complete: the hub is sink. -/
def frsDone (s : State) : State :=
  let s1 := (s.setFld Reg.PDP_FRS Fld.PDP_FRS_RESULT 1).modPort fun p => { p with frsBusy := false, frsAsk := false, frsAt := none }
  let s2 := amsEnd (contractLost (portTo s1 2))
  pdpInt (pdEvent s2 0 7 (leBytes 8 s.port.frsTime)) 5

/-- A Squall latches: the Fast Role Swap signal on an armed port, and VBUS_SRC_EN falls (R338, R344) (DEDUCED, log
entry 76). -/
def portSquall (s : State) : State :=
  if s.port.st = 1 ∧ s.port.frsArmed = true ∧ s.port.resetOut = false then
    let s1 := ((s.emit .frsSignal).bump (Reg.PDP_CNT 11) 1).wr Reg.PDP_FRS_TIME_LO (BitVec.ofNat 32 (treeNs s))
    let s2 := s1.wr Reg.PDP_FRS_TIME_HI (BitVec.ofNat 32 (treeNs s / 2 ^ 32))
    srcEnable (s2.modPort fun p => { p with frsAt := some s.fc.now, frsBusy := true, frsTime := treeNs s })
  else srcEnable s

/-- The seal is complete: what waited goes on (R338). -/
def portSealed (s : State) : State :=
  let s1 := if s.port.frsAsk then pdSend (s.modPort fun p => { p with frsAsk := false }) Pd.accept [] else s
  match s.port.asked with
  | some m => if policyHeld s1 then s1 else aoAnswers (s1.modPort fun p => { p with asked := none }) m
  | none => s1

/-- FR_Swap of the new source: it is accepted once no seal runs. -/
def frSwapSeen (s : State) : State :=
  if !s.port.frsBusy then pdAsked s ⟨BitVec.ofNat 16 Pd.frSwap, []⟩
  else if s.folio.sealing.isSome then s.modPort fun p => { p with frsAsk := true, ams := true }
  else pdSend (s.modPort fun p => { p with ams := true }) Pd.accept []

/-! ## Receiving -/

/-- The partner's capabilities. -/
def partnerCaps (s : State) (reg : Nat → Nat) (objs : List Nat) : State :=
  forEach (List.range 7) s fun s i => s.wr (reg i) (BitVec.ofNat 32 (objs.getD i 0))

/-- The partner answered the hub's own request. -/
def pdAnswered (s : State) (code : Nat) : State :=
  let own := s.port.ownReq
  let s1 := s.modPort fun p => { p with ownReq := 0 }
  if own = Pd.drSwap then
    let s2 := if code = Pd.accept then usbConnect (s1.setFld Reg.PDP_STATUS Fld.PDP_STATUS_DATA_ROLE 0) true else s1
    askSourceCap (amsEnd s2)
  else if own = Pd.softReset then
    let s2 := amsEnd (s1.modPort fun p => { p with softReset := false })
    if s2.port.st = 1 ∧ policyHeld s2 = false then pdSend s2 Pd.sourceCap (leBytes 4 (srcPdo s2)) else s2
  else if own = Pd.request ∧ code = Pd.accept then s1
  else amsEnd s1

/-- A message is received: reported, kept, and judged (R336, R344). -/
def pdReceived (s : State) (m : PdBlock) : State :=
  let h := m.header.toNat
  let c := pdCode h
  let s1 := pdLast (s.bump (Reg.PDP_CNT 1) 1) Reg.PDP_LAST_RX (pdBlock h 0 m.data)
  let s2 := (pdEvent (dropWaitSend s1) h 0 m.data).modPort fun p => { p with autoAnswered := false }
  let objs := pdObjects h m.data
  if c = Pd.softReset then
    let s3 := pdEvent ((s2.bump (Reg.PDP_CNT 6) 1).modPort fun p => { p with msgIdTx := 0, ownReq := 0, asked := none, softReset := false })
      0 4 (leBytes 1 1)
    amsEnd (pdSend s3 Pd.accept [])
  else if c = Pd.sourceCap then
    let s3 := partnerCaps s2 Reg.PDP_PARTNER_SRC objs
    let dual := bitOf (objs.headD 0) 29 && bitOf (objs.headD 0) 27
    if s3.port.ownReq = Pd.getSourceCap then
      frsUpdate (amsEnd (s3.modPort fun p => { p with partnerDual := dual, ownReq := 0 }))
    else if s3.port.st = 1 then s3 else pdAsked s3 m
  else if c = Pd.sinkCap then pdAnswered (partnerCaps s2 Reg.PDP_PARTNER_SNK objs) c
  else if c = Pd.psRdy then
    if s2.port.frsBusy then frsDone s2
    else if s2.port.st ≠ 1 ∧ s2.port.rdo ≠ 0 then amsEnd (contractMade s2) else amsEnd s2
  else if c = Pd.accept ∨ c = Pd.reject ∨ c = Pd.wait ∨ c = Pd.notSupported then pdAnswered s2 c
  else if c = Pd.frSwap then frSwapSeen s2
  else if pdAsks c then pdAsked (s2.modPort fun p => { p with ownReq := 0 }) m
  else s2

/-! ## PD_MSG_SEND (R335) -/

def rulePdSend : OpRule := { opcode := 0x38, standby := false, len := ⟨true, 32, true, false, none⟩, mgmt := true }

/-- A message that meets no GoodCRC in its 3 transmissions is abandoned; one that is not acknowledged is no message sent
(R331, R335, R345) (DESIGN CHOICE, log entry 51). -/
def pdAbandoned (s : State) (code : Nat) (data : List Byte) : State :=
  let s1 := forEach (List.range 3) s fun s1 _ => s1.emit (.pd (pdHeader s code data) data)
  ((s1.bump (Reg.PDP_CNT 2) 2).bump (Reg.PDP_CNT 3) 1).modPort fun p => { p with msgIdTx := (p.msgIdTx + 1) % 8 }

/-- The transmissions of a message that met no GoodCRC before the one that did. -/
def pdRepeats (s : State) (code : Nat) (data : List Byte) (misses : Nat) : State :=
  forEach (List.range misses) (s.bump (Reg.PDP_CNT 2) misses) fun s1 _ => s1.emit (.pd (pdHeader s code data) data)

/-- Send the host's block of a descriptor: DONE with the MessageID used, NO_RESPONSE without a GoodCRC. -/
def hostSends (s : State) (x : Desc) (misses : Nat) : State :=
  let c := pdCode (leAt x.data 0 2)
  let n := if 64 ≤ c then (x.data.length - 4) / 4 * 4 else 4 * bitsOf (leAt x.data 0 2) 12 3
  let id := s.port.msgIdTx
  let was := s.port.asked
  let body := fitBytes n (x.data.drop 4)
  if 3 ≤ misses then complete (pdAbandoned s c body) x Status.noResponse else
  let s1 := pdSend (pdRepeats s c body misses) c body
  let s2 := complete s1 x Status.done id
  match was with
  | some m =>
    if c = Pd.accept ∧ pdCode m.header.toNat = Pd.drSwap then
      amsEnd (usbConnect (s2.setFld Reg.PDP_STATUS Fld.PDP_STATUS_DATA_ROLE 0) true)
    else s2
  | none => if c = Pd.psRdy ∧ s2.flag Reg.PDP_STATUS Fld.PDP_STATUS_CONTRACT then afterContract s2 else s2

/-- PD_MSG_SEND (DEDUCED, log entry 77). -/
def opPdSend (misses : Nat) (x : Desc) (s : State) : State :=
  let h := leAt x.data 0 2
  let most := 4 + 4 * bitsOf h 12 3
  let x1 := { x with data := fitBytes most x.data }
  let s0 := clampDesc s x (decide (most < x.len))
  if !policyHeld s || !(s.port.st == 1 || s.port.st == 2) then complete s0 x Status.denied
  else if byteAt x.data 2 = 0xFE then complete (sendHardReset s0) x Status.done
  else if byteAt x.data 2 ≠ 0 then complete s0 x Status.denied
  else if s.port.autoAnswered && (!pdAsks (pdCode h) || pdCode h == Pd.request) then complete s0 x Status.withdrawn
  else if s.port.frsBusy then
    modDesc (s0.modPort fun p => { p with waitSend := p.waitSend ++ [(x.id, misses)] }) x.id fun d => { d with data := x1.data }
  else hostSends s0 x1 misses

/-- The sends that waited for the seal go out (R338). -/
def sendWaiting (s : State) : State :=
  forEach s.port.waitSend (s.modPort fun p => { p with waitSend := [] }) fun s w =>
    match inFlight s w.1 with
    | some x => hostSends s x w.2
    | none => s

end Sys2Proof.Machine
end

