-- ==== Sys2Proof/Machine/TimeOps.lean ====
section
/-! DEFINITION. Tree time: states (R278 to R282), measurements, slews and steps (R280 to R286), the frame boundary's part.
The mapping of the frame clock to outside time (its frequency, R284) is no part of the model: the instants of commands are
read on the frame clock itself. -/
namespace Sys2Proof.Machine

/-- The source in use at the root: 0 PPS_TOD, 1 PTM, 2 HOST, 3 FREE. -/
def timeSource (s : State) : Nat := s.fld Reg.TIM_SRC Fld.TIM_SRC_SOURCE

/-- Is tree time absolute (R276); a branch learns it from its parent (R290). -/
def absOf (s : State) : Bool :=
  if isBranch s then s.tt.absolute
  else match timeSource s with
    | 0 => true
    | 1 => s.flag Reg.TIM_SRC Fld.TIM_SRC_ABSOLUTE
    | 2 => s.tt.hostAbsolute
    | _ => false

/-- The effective state (R278). -/
def effOf (s : State) : TimeSt := if isBranch s && decide (s.tt.own = .locked) then s.tt.parent else s.tt.own

/-- The level of TIME_OK (time states table). -/
def TreeTime.ok (tt : TreeTime) : Bool := decide (tt.eff = .locked) && tt.absolute

/-- Seconds in the current holdover; 0 outside it. -/
def holdSeconds (s : State) : Nat := match s.tt.holdSince with
  | some t => (s.fc.now - t) / 1000000000
  | none => 0

/-- An offset in ns, saturating at 32 bits. -/
def offsetNs (o : Int) : Int := satSigned 32 (o / 65536)

/-- TIME_STATE (R279). -/
def timeStateEvent (s : State) (prev : TimeSt) : State :=
  let inherited := isBranch s && decide (s.tt.own = .locked)
  timInt (hubEvent s 0x07 (leBytes 1 s.tt.eff.code ++ leBytes 1 prev.code ++ leBytes 1 (timeSource s) ++
    leBytes 1 (b2n s.tt.absolute + 2 * b2n inherited) ++ leBytes 4 s.fc.frameNo ++
    leBytes 4 (ofSigned 32 (offsetNs s.tt.offset)) ++ leBytes 4 (holdSeconds s))) 0

/-- The effective state and TIME_OK follow the own state, the parent's and the source (R278, R279, R291). -/
def refreshTime (s : State) : State :=
  let s1 := s.modTt fun x => { x with eff := effOf s, absolute := absOf s }
  let s2 := if decide (s1.tt.eff = s.tt.eff) then s1
    else timeStateEvent (s1.modTt fun x => { x with tokenDue := true }) s.tt.eff
  if s2.tt.ok == s.tt.ok then s2 else drive s2 .timeOk s2.tt.ok

/-- The hub's own state becomes another. -/
def setOwn (s : State) (st : TimeSt) : State :=
  let hold := decide (st = .holdover) || decide (st = .expired)
  refreshTime (s.modTt fun x => { x with
    own := st, good := if decide (st = x.own) then x.good else 0,
    holdSince := if hold then some (x.holdSince.getD s.fc.now) else none })

/-- The source or the parent is lost: HOLDOVER (R281, R282); the count of seconds is taken anew. -/
def toHoldover (s : State) : State :=
  setOwn (s.modTt fun x => { x with
    second := none, lastPulse := none, zdaAgree := 0, zdaSecond := none, ptmFails := 0, good := 0, holdSince := none }) .holdover

/-- TIM_STEP_LIMIT in units of 2^-16 ns. -/
def stepLimit (s : State) : Nat := s.fld Reg.TIM_STEP_LIMIT Fld.TIM_STEP_LIMIT_US * 1000 * 65536

/-- The steps that still wait when a correction arrives: a measurement replaces the one that a measurement before it asked
for, as its own offset holds that step too; those of the host stay (R283, R285) (DEDUCED, log entry 6). -/
def stepsKept (steps : List (Int × Nat × Option Nat)) (desc : Option Nat) : List (Int × Nat × Option Nat) :=
  if desc.isNone then steps.filter fun x => x.2.2.isSome else steps

/-- A correction of tree time: a slew from now on, or a step at the next frame boundary; it replaces the slew that was
pending (R285, R286) (DEDUCED, log entry 6). -/
def correct (s : State) (delta : Int) (cause : Nat) (desc : Option Nat) : State :=
  if delta.natAbs ≤ stepLimit s then
    let s1 := s.modTt fun x => { x with slewLeft := delta, slewing := x.slewing || delta != 0, steps := stepsKept x.steps desc }
    match desc with
    | some d => completeId s1 d Status.done
    | none => s1
  else s.modTt fun x => { x with slewLeft := 0, slewing := false, steps := stepsKept x.steps desc ++ [(delta, cause, desc)] }

/-- Steps that wait for the boundary. -/
def stepsWaiting (s : State) : Int := s.tt.steps.foldl (fun a x => a + x.1) 0

/-- Put an offset into TIM_OFFSET and at the head of its history. -/
def offsetHist (s : State) (o : Int) : State :=
  let s1 := forEach (List.range 63) s fun s i => s.wr (Reg.TIM_OFFSET_HIST (63 - i)) (s.rd (Reg.TIM_OFFSET_HIST (62 - i)))
  s1.wr (Reg.TIM_OFFSET_HIST 0) (BitVec.ofInt 32 (offsetNs o))

/-- Show the last measured offset. -/
def offsetShow (s : State) (o : Int) : State :=
  (s.wr Reg.TIM_OFFSET (BitVec.ofInt 32 (offsetNs o))).modTt fun x => { x with offset := o }

/-- The judgement of one offset: ACQUIRING at the first, LOCKED after enough good ones in a row (R280). -/
def judgeOffset (s : State) (o : Int) (need : Nat) (phaseOk : Bool) : State :=
  let within := decide (o.natAbs ≤ s.fld Reg.TIM_LIMITS Fld.TIM_LIMITS_LOCK_NS * 65536) && s.tt.slewLeft == 0 && s.tt.steps.isEmpty
  let s1 := if decide (s.tt.own = .acquiring) || decide (s.tt.own = .locked) then s
    else setOwn (s.modTt fun x => { x with good := 0 }) .acquiring
  let s2 := s1.modTt fun x => { x with good := if within then x.good + 1 else 0, everMeasured := true }
  if decide (s2.tt.own = .acquiring) && decide (need ≤ s2.tt.good) && phaseOk && !underBefore s2 then setOwn s2 .locked else s2

/-- A measurement of the root's source: offset in 2^-16 ns (R280, R284, R285) (DEDUCED, log entry 6). -/
def measure (s : State) (o : Int) : State :=
  let cause := if s.tt.srcChanged then 5 else 1
  let s1 := judgeOffset (offsetHist (offsetShow s o) o) o 4 true
  correct (s1.modTt fun x => { x with srcChanged := false }) o cause none

/-! ## The frame boundary -/

/-- TIME_STEP data (R286). -/
def stepData (before after frame cause : Nat) (delta : Int) : List Byte :=
  leBytes 8 before ++ leBytes 8 after ++ leBytes 4 frame ++ leBytes 1 cause ++ leBytes 3 0 ++ leBytes 8 (ofSigned 64 delta)

/-- Apply one step at its boundary, with what is left of a slew that began after it was asked for (R23, R285, R286, R289). -/
def takeStep (s : State) (x : Int × Nat × Option Nat) : State :=
  let before := treeNs s
  let s1 := s.modTt fun t => { t with
    time := timeMod ((t.time : Int) + x.1 + t.slewLeft), taken := (s.fc.now, x.1 + t.slewLeft) :: t.taken, slewLeft := 0, slewing := false, good := 0, tokenDue := true,
    before := if x.1 + t.slewLeft < 0 then some before else t.before }
  let after := treeNs s1
  let data := stepData before after s.fc.frameNo x.2.1 ((after : Int) - before)
  let s2 := folPost ((s1.glb 17 1).wr Reg.TIM_STEP_FRAME (BitVec.ofNat 32 s.fc.frameNo)) 0x30 5 1 data
  let s3 := setOwn s2 .acquiring
  let s4 := timInt (hubEvent s3 0x08 data) 1
  match x.2.2 with
  | some d => completeId s4 d Status.done
  | none => s4

/-- Every step that waits, in order. -/
def takeSteps (s : State) : State :=
  (s.tt.steps).foldl takeStep (s.modTt fun t => { t with steps := [] })

/-- A host source locks at its TIME_SET, after a step backward once tree time has passed BEFORE (time states table,
R280). -/
def hostLocks (s : State) : State :=
  if timeSource s = 2 && !isBranch s && s.tt.hostLock && !underBefore s then
    setOwn (s.modTt fun t => { t with hostLock := false }) .locked
  else s

/-- The first frame boundary after the start: a root whose source is FREE becomes LOCKED (R277). -/
def firstBoundary (s : State) : State :=
  if s.tt.started then s
  else
    let s1 := s.modTt fun t => { t with started := true }
    if !isBranch s && timeSource s = 3 then setOwn s1 .locked else s1

/-- A change of TIM_SRC that took effect at this boundary (R282). -/
def sourceChanged (s : State) (old : Nat) : State :=
  if isBranch s then s
  else if timeSource s = old then refreshTime s
  else
    let s1 := s.modTt fun t => { t with srcChanged := true, hostAbsolute := false, hostLock := false }
    match timeSource s with
    | 3 => setOwn s1 .locked
    | 2 => refreshTime s1
    | _ => toHoldover s1

/-- Does a segment get TIME tokens: an attached node takes them (R291). -/
def takesTime (s : State) (p : Nat) : Bool :=
  decide (p < 48) && (s.seg p).st == 3 && (attachedOf s p).any fun n => capTime (s.node (nodeKey p n)).caps

/-- TIME tokens fall due: every 1,000 frames, after a step, after a change of the effective state (R291). -/
def timeTokens (s : State) : State :=
  if s.tt.tokenDue || s.fc.frameNo % 1000 == 0 then
    forEach s.segs (s.modTt fun t => { t with tokenDue := false }) fun s kv =>
      if takesTime s kv.1 then s.modSeg kv.1 fun x => { x with timeDue := true } else s
  else s

/-- Tree time at a frame boundary: the source change of TIM_SRC, steps, the first boundary, a host's lock. -/
def timeBoundary (s : State) (oldSource : Nat) : State :=
  let s1 := takeSteps (sourceChanged s oldSource)
  let s2 := hostLocks (firstBoundary s1)
  s2.modTt fun t => { t with before := if underBefore s2 then t.before else none }

end Sys2Proof.Machine
end

