-- ==== Sys2Proof/Machine/Links.lean ====
section
/-! DEFINITION. Craora links: bring-up (R195 to R201), identity and roles (R217 to R219), link down, orphans and rejoin
(R226 to R230, R253), rate changes (R222), lanes (R224, R225). -/
namespace Sys2Proof.Machine

/-! ## Configuration -/

/-- Lanes a link is configured for; the upstream link of a branch has four, of which the root port uses two or four. -/
def laneCount (s : State) (l : Nat) : Nat := if l = upLink || bonds s l then 4 else 2

/-- Is a link enabled: the upstream link of a branch always is. -/
def linkOn (s : State) (l : Nat) : Bool :=
  if l = upLink then isBranch s
  else s.flag (Reg.LNK_CTRL l) Fld.LNK_CTRL_ENABLE && !bondedAway s l && !s.flag (Reg.PWR_DOM (4 + l / 4)) Fld.PWR_DOM_FAULT

/-- LNK_CFG.MODE. -/
def linkMode (s : State) (l : Nat) : Nat := getField (linkCfg s l) Fld.LNK_CFG_MODE

/-- Permitted rates, highest first. -/
def permitted (s : State) (l : Nat) : List Nat :=
  [4, 3, 2, 1].filter fun r => bitOf (getField (linkCfg s l) Fld.LNK_CFG_RATES) (r - 1)

/-- The LNK_AN bit of a rate and width. -/
def advBit (rate width : Nat) : Nat := if width = 4 then (if rate = 1 then 7 else rate + 2) else rate - 1

/-- What a link advertises (R198, LNK_AN.ADV). -/
def advBits (s : State) (l : Nat) : Nat :=
  bitmapOf ((permitted s l).flatMap fun r => advBit r 2 :: if laneCount s l = 4 then [advBit r 4] else [])

/-- The highest rate and widest width of both sides (R198). -/
def resolveRate (adv lp : Nat) : Option (Nat × Nat) :=
  ([4, 3, 2, 1].flatMap fun r => [(r, 4), (r, 2)]).find? fun x => bitOf adv (advBit x.1 x.2) && bitOf lp (advBit x.1 x.2)

/-- Lanes 0 to n - 1. -/
def laneMask (n : Nat) : Nat := 2 ^ n - 1

/-- The lane registers follow lock, activity and failures. -/
def laneShow (s : State) (l : Nat) : State :=
  if l = upLink then s
  else forEach (List.range 4) s fun s n =>
    let k := s.link l
    let a := Reg.LNK_LANE_STATUS l n
    s.wr a (BitVec.ofNat 32 (setBits (setBits (setBits (s.rd a).toNat 0 1 (b2n (bitOf k.locked n))) 2 1
      (b2n (bitOf k.active n))) 3 1 (b2n (bitOf k.failed n))))

/-! ## Bring-up (R198 to R204) -/

/-- A link without a partner: no credit, empty buffers, sequences from 0. -/
def freshLink (k : Link) : Link :=
  { k with
    lp := 0, rate := 0, width := 0, resolved := 0, active := 0, locked := 0, failed := 0, trials := [], txSeq := 0, rxSeq := 0,
    acked := 0, nakFor := none, nakCount := 0, replay := [], held := [], credits := [0, 0, 0, 0],
    rxFree := [128, 448, 1024, 64], owed := [0, 0, 0, 0], breezeUnits := 0, draughtUnits := 0, inMsg := [],
    cls := 0, identity := 0, plife := 0, pport := 0, pwidth := 0, phub := 0, certOk := false, keyFp := 0,
    lidSeen := false, quarantined := false, roleDone := false, exchanges := 0, rateNext := none, draining := false, sentParams := none, authDone := false, adv := 0,
    vc3Gap := 15, stepAt := none, rejoinAt := none, lpLocked := 0, rejoin := none }

/-- The lanes a C2M link trains: four on a bonded port, else two; on the upstream link of a branch the WIDTH of the markers
says whether the root port is bonded (R195, R203) (DEDUCED, log entry 52). -/
def c2mWidth (s : State) (l : Nat) : Nat := if bonds s l then 4 else 2

/-- The rates of a C2M trial, highest first: the permitted ones, of which a downstream port tries those its module supports
(R197, R198) (DEDUCED, log entry 52). -/
def trialRates (s : State) (l : Nat) : List Nat :=
  (permitted s l).filter fun r => l == upLink || bitOf (s.link l).modRates (r - 1)

/-- A C2M rate trial (R198) (DEDUCED, log entry 52). -/
def startTrials (s : State) (l : Nat) : State :=
  laneShow (linkTo (s.modLink l fun k => { freshLink k with
    trials := trialRates s l, rate := (trialRates s l).headD 0, width := c2mWidth s l }) l 2) l

/-- The pages of Clause 73 on lane 0: the base page with LNK_AN bits 1, 2, 4 and 5; rates 1 and 4, when advertised, in a
message next page of code 0x4A5 and an unformatted page with LNK_AN bits 0, 3, 6 and 7 (R198) (DEDUCED, log entry 54). -/
def anPages (s : State) (l adv : Nat) : State :=
  let bit := fun n => b2n (bitOf adv n)
  let next := bit 0 + 2 * bit 3 + 4 * bit 6 + 8 * bit 7
  let s1 := s.emit (.anBase l (2 * bit 1 + 4 * bit 2 + 16 * bit 4 + 32 * bit 5))
  if next = 0 then s1 else s1.emit (.anNext l 0x4A5 next)

/-- Bring-up begins: the C2M rate trial, or auto-negotiation (R198). A held LNK block starts none (R59, log entry 17). -/
def toNegotiate (s : State) (l : Nat) : State :=
  if isHeld s 12 then laneShow (linkTo (s.modLink l freshLink) l 1) l
  else if linkMode s l = 2 then startTrials s l
  else anPages (laneShow (linkTo (s.modLink l fun k => { freshLink k with adv := advBits s l }) l 2) l) l (advBits s l)

/-- One CMIS transaction with the module of a port: the channel of its switch is opened, the supported rates are read, the
channel is closed (R197, R403). -/
def readModule (s : State) (p : Nat) : State :=
  ((s.emit (.i2cSwitch (0x70 + p / 8) (2 ^ (p % 8)))).emit (.cmisRead p)).emit (.i2cSwitch (0x70 + p / 8) 0)

/-- A module is present on a downstream port whose mode uses one: the hub reads the rates it supports (R197, R403). -/
def moduleSeen (s : State) (l rates : Nat) : State :=
  if l = upLink ∨ linkMode s l < 2 then s else readModule (s.modLink l fun k => { k with modRates := rates }) l

/-- An enabled link starts: from WAIT_PRESENCE without a partner, else from NEGOTIATE. -/
def startLink (s : State) (l : Nat) : State :=
  if (s.link l).presence then toNegotiate s l else laneShow (linkTo (s.modLink l freshLink) l 1) l

/-- Presence is seen (R198). -/
def presenceSeen (s : State) (l rates : Nat) : State :=
  let s1 := (moduleSeen s l rates).modLink l fun k => { k with presence := true, presentAt := some s.fc.now, downAt := none }
  if (s1.link l).st = 1 then toNegotiate s1 l else s1

/-- Auto-negotiation ends: rate and width are resolved, or it goes on (R198) (DEDUCED, log entry 54). -/
def autonegDone (s : State) (l lp : Nat) : State :=
  let k := s.link l
  if k.st ≠ 2 ∨ !k.trials.isEmpty then s
  else
    let s1 := s.modLink l fun k => { k with lp := lp }
    match resolveRate k.adv lp with
    | some (r, w) => linkTo (s1.modLink l fun k => { k with rate := r, resolved := r, width := w, credits := [0, 0, 0, 0] }) l 3
    | none => s1

/-- A C2M trial of 100 ms ends without lock: the next rate, or the first again; with C2M as the fall-back it begins
(R197, R198) (DEDUCED, log entry 54). -/
def trialOver (s : State) (l : Nat) : State :=
  let k := s.link l
  if k.st ≠ 2 then s
  else match k.trials with
    | [] => if linkMode s l = 3 then startTrials s l else s
    | _ :: r =>
      let rest := if r.isEmpty then trialRates s l else r
      laneShow (s.modLink l fun k => { k with trials := rest, rate := rest.headD 0, locked := 0 }) l

/-- A message body's first two fixed parts of LID: who the local part is (LID body table). -/
def lidBody (s : State) (l : Nat) (n : Nat) : List Byte :=
  let cls := if l = upLink then 2 else if s.role ≤ 1 then 1 else 4
  beBytes 8 s.nvm.identity ++ beBytes 1 cls ++ beBytes 1 (b2n (s.nvm.lifecycle != 1)) ++
    beBytes 1 (if l = upLink then 0 else l) ++ beBytes 1 (laneCount s l) ++ beBytes 16 (Config.nonce n).toNat ++
    beBytes 64 (Config.ephKey n).toNat

/-- Send CREDIT_INIT (R209) (DEDUCED, log entry 54). -/
def putCreditInit (s : State) (l : Nat) (c : List Nat) : State := putLlctl s l 2 (c.flatMap fun n => beBytes 2 n)

/-- Every lane is locked: identity exchange begins with CREDIT_INIT for VC3 and the local LID; without randomness the
partner is refused (R209, R217, R373). -/
def toIdentify (s : State) (l : Nat) : State :=
  let s1 := laneShow (linkTo (s.modLink l fun k => { k with
    active := laneMask k.width, lockAt := s.fc.now, lastFlit := s.fc.now, flitNo := 0, vc3Gap := 15,
    resolved := k.rate, txSeq := 0, rxSeq := 0, acked := 0, replay := [], held := [], nakFor := none, nakCount := 0 }) l 6) l
  let s2 := putCreditInit s1 l [0, 0, 0, 64]
  if s2.trngBad then refuseLink (cryptoResult s2) l 9
  else
    let z := s2.fresh
    sendMsg (z.2.bump (Reg.SEC_CNT 4) 1) l 3 (linkMsg 0x10 0 0 (lidBody s l z.1))

/-! ## Time, hub numbers and parameters -/

/-- The five words of a parameter set as ROLE and CONFIG carry them (R219, R221; their order is log entry 53). -/
def paramBytes (p : UpParams) : List Byte :=
  beBytes 4 p.cfg.toNat ++ beBytes 4 p.vcWeight.toNat ++ beBytes 4 p.hold.toNat ++ beBytes 4 p.orphan.toNat ++ beBytes 4 p.asym.toNat

/-- The upstream parameters that the root's instance of a port gives its branch (R221) (DESIGN CHOICE, log entry 53).
-/
def paramsOf (s : State) (l : Nat) : UpParams :=
  ⟨putField (s.rd (Reg.LNK_CFG l)) Fld.LNK_CFG_BOND 0, s.rd (Reg.LNK_VC_WEIGHT l), s.rd (Reg.LNK_HOLD l),
    s.rd (Reg.LNK_ORPHAN l), s.rd (Reg.LNK_TS_ASYM l)⟩

/-- Send ROLE to an accepted partner (R219). -/
def sendRole (s : State) (l : Nat) : State :=
  let branch := decide ((s.link l).cls = 2)
  let s1 := s.modLink l fun k => { k with
    phub := if branch then l + 1 else 0, sentParams := if branch then some (paramsOf s l) else none }
  sendMsg s1 l 3 (linkMsg 0x12 (if branch then l + 1 else hubOf s) (treeNsAt s s.fc.frameStart)
    (beBytes 4 s.fc.frameNo ++ if branch then paramBytes (paramsOf s l) else []))

/-- CONFIG to a branch whose upstream parameters have changed since they were last sent (R221). -/
def sendConfig (s : State) (l : Nat) : State :=
  let k := s.link l
  if k.st = 8 ∧ k.cls = 2 ∧ k.sentParams ≠ some (paramsOf s l) then
    sendMsg (s.modLink l fun k => { k with sentParams := some (paramsOf s l) }) l 3 (linkMsg 6 0 0 (paramBytes (paramsOf s l)))
  else s

/-- Does a local port accept a partner of a class (R218). -/
def acceptsClass (s : State) (l c : Nat) : Bool :=
  if l = upLink then c == 1 else if s.role ≤ 1 then c == 2 || c == 3 else c == 3

/-- The LAUTH body: the device key, the certificate of a Provisioned part, zeros on an Open one, and a signature (R217,
SEC_DEV_PUBKEY). -/
def lauthBytes (s : State) (n : Nat) : List Byte :=
  (List.range 16).flatMap (fun i => leBytes 4 (s.nvm.pubKey.getD i 0).toNat) ++
    beBytes 96 (if s.nvm.lifecycle = 1 then 0 else Config.cert.toNat) ++ beBytes 64 (Config.lauthSig n).toNat

/-- Send the proof of identity, signed with fresh randomness (R217, R373). -/
def sendLauth (s : State) (l : Nat) : State :=
  if s.trngBad then refuseLink (cryptoResult s) l 9
  else
    let z := s.fresh
    sendMsg (z.2.bump (Reg.SEC_CNT 2) 1) l 3 (linkMsg 0x11 0 0 (lauthBytes s z.1))

/-- The partner's LID (R217, R218). -/
def takeLid (s : State) (l : Nat) (b : LidBody) : State :=
  let k := s.link l
  if k.st ≠ 6 || k.lidSeen then s
  else
    let s1 := s.modLink l fun k => { k with
      identity := b.identity.toNat, cls := b.cls, plife := b.lifecycle, pport := b.port.toNat, pwidth := b.width.toNat, lidSeen := true }
    if acceptsClass s l b.cls then sendLauth s1 l else refuseLink s1 l 7

/-- The partner's LAUTH: accepted, or refused with its cause (R217, R218, R372). -/
def takeLauth (s : State) (l : Nat) (b : LauthBody) : State :=
  let k := s.link l
  if k.st ≠ 6 || !k.lidSeen || k.authDone then s
  else
    let cert := k.cls != 3 && s.nvm.lifecycle != 1
    let s1 := s.bump (Reg.SEC_CNT 1) 1
    let s2 := if cert then s1.bump (Reg.SEC_CNT 0) 1 else s1
    if b.edgeInput then refuseLink (edgeRejected s2) l 9
    else if !b.sigOk then refuseLink (cryptoFailed s2) l 9
    else if cert && (!b.certOk || k.plife == 0) then refuseLink (if b.certOk then s2 else cryptoFailed s2) l 8
    else
      let s3 := s2.modLink l fun k => { k with authDone := true, certOk := cert && b.certOk, keyFp := b.keyFp.toNat }
      if l = upLink then s3 else sendRole s3 l

/-- A TEA of a hub that changes its number. -/
def rehub (old new tea : Nat) : Nat := if teaHub tea = old then teaTo tea new else tea

/-- Put a TEA into three bytes of a rule. -/
def putTea (bs : List Byte) (off tea : Nat) : List Byte := bs.take off ++ leBytes 3 tea ++ bs.drop (off + 3)

/-- A rule with another hub number in every TEA it names (R253). -/
def rehubRule (old new : Nat) (r : Rule) : Rule :=
  if !r.present then r
  else
    let b1 := putTea r.bytes 0 (rehub old new r.sense)
    let b2 := if r.combine = 0 then b1 else putTea b1 4 (rehub old new r.cond2)
    { r with bytes := if r.action = 0 then putTea b2 20 (rehub old new r.target) else b2 }

/-- Rename the keys of a table of TEAs. -/
def rehubKeys {α : Type} (t : Table α) (base old new : Nat) : Table α :=
  t.foldl (fun a kv => a.insert (if base ≤ kv.1 then base + rehub old new (kv.1 - base) else kv.1) kv.2) []

/-- A branch takes another hub number: its rules, deposits, waiting records and messages carry it (R230, R253). -/
def renumber (s : State) (hub : Nat) : State :=
  let old := s.hubNo
  if old = hub then s
  else { s with
    hubNo := hub,
    rules := s.rules.mapVals fun _ r => rehubRule old hub r,
    deposits := s.deposits.mapVals fun _ bs => putTea bs 20 (rehub old hub (leAt bs 20 3)),
    pool := s.pool.map fun w => { w with rec_ := { w.rec_ with tea := rehub old hub w.rec_.tea } },
    seqs := rehubKeys s.seqs 0 old hub,
    subs := rehubKeys s.subs 0 old hub,
    upHeld := s.upHeld.map fun m => { m with tea := rehub old hub m.tea } }

/-- Store the upstream parameter set (R221). -/
def storeParams (s : State) (p : UpParams) : State := s.modNvm fun n => { n with upParams := some p }

/-- Does a branch accept ROLE now (R219) (DEDUCED, log entry 78). -/
def roleTaken (s : State) : Bool := isBranch s && (s.link upLink).st == 6 && (s.link upLink).authDone

/-- The frame clock after ROLE: a branch that has never framed takes FRAME (R15, R219). -/
def roleClock (frame : Nat) (s : State) : FrameClock :=
  if awake s && roleTaken s && s.neverFramed then { s.fc with frameNo := frame } else s.fc

/-- ROLE at a branch: hub number, parameters, and FRAME when it has never framed; ROLE_ACK and credits follow (R209,
R219). The upstream link keeps the number before it, which REJOIN names (DEDUCED, log entry 78). -/
def takeRole (s : State) (hub frame : Nat) (p : UpParams) : State :=
  if !roleTaken s then s
  else
    let s1 := storeParams (renumber s hub) p
    let s2 := { s1 with fc := roleClock frame s }
    let s3 := sendMsg s2 upLink 3 (linkMsg 0x13 1 0 [])
    let s4 := putCreditInit s3 upLink [128, 448, 1024, 64]
    linkTo (s4.modLink upLink fun k => { k with roleDone := true, exchanges := 0, prevHub := s.hubNo }) upLink 7

/-! ## Link down (R226 to R229) -/

/-- Take the copy of a posted write out of flight. -/
def dropPosted (s : State) (id : Nat) : State :=
  { s with flight := s.flight.filter fun x => !(x.id == id && x.posted) }

/-- The actions that a lost branch has not answered end: their outcome stays unknown to the root, which reports NODE ABSENT
(R269, R273) (DEDUCED, log entry 74). -/
def actsLost (s : State) (hub : Nat) : State :=
  let mine := s.gustActs.filter fun a => teaHub a.1 == hub
  forEach mine { s with gustActs := s.gustActs.filter fun a => teaHub a.1 != hub } fun s a => ruleOutcome s a.1 a.2 1

/-- A link carrying a branch is lost at the root (R228). -/
def branchLost (s : State) (l : Nat) : State :=
  let k := s.link l
  let s1 := forEach (s.flight.filter fun d => d.link == some l && d.result.isNone) s fun s d =>
    if d.posted then (if d.acked then dropPosted s d.id else lateFault (dropPosted s d.id) d 0x80)
    else if d.acked then s else complete s d Status.nodeAbsent
  let hold := s.fc.now + s.fld (Reg.LNK_ORPHAN l) Fld.LNK_ORPHAN_CPL_HOLD_S * 1000000000
  let s2 := s1.modLink l fun k => { k with holdUntil := some hold, orphanSince := some s.fc.now }
  orphanActions { actsLost s2 (l + 1) with
    orphans := (s2.orphans.filter fun o => o.1 != k.identity) ++ [(k.identity, l, s.fc.now)] } (l + 1)

/-- A stream node is lost: DETACH, and its transfers end (R228); after a disable what is queued for it has ended WITHDRAWN
before (R227). -/
def streamLost (s : State) (l cause : Nat) : State :=
  let k := s.link l
  let p := 48 + l
  let s1 := streamClear (detachNode s p 1 cause) p
  let s2 := forEach (k.grants.map (fun g => g.2.2) ++ k.grantQueue.map (·.2) ++ k.acksDue.map (·.2)) s1 fun s d =>
    completeId s d Status.nodeAbsent
  s2.modLink l fun k => { k with grants := [], grantQueue := [], acksDue := [] }

/-- A branch is orphaned: holdover, its deposits fire, its port's policy returns (R229, R272, R333). -/
def orphaned (s : State) : State :=
  let s1 := { s with poolMerged := 0 }.modLink upLink fun k => { k with orphanSince := some s.fc.now }
  let s2 := forEach s1.deposits s1 fun s kv =>
    let r : Rule := { Rule.reset with bytes := kv.2, enabled := true }
    let w := { ruleWriteOf s r kv.1 r.sense (treeNs s) s.fc.now with event := false }
    let s' := gstCnt (ruleWriteAt s r.target w r.bytesMask r.data) 11 1
    if r.event then firedEvent s' r.target kv.1 0 5 s.fc.slot s.fc.frameNo r.sense (treeNs s) (treeNs s) false else s'
  let s3 := if s1.deposits.isEmpty then s2 else gstInt (s2.setFlag Reg.GST_ORPHAN Fld.GST_ORPHAN_EXECUTED true) 2
  toHoldover { s3 with deposits := [] }

/-- What the loss of an UP partner does on this side. -/
def partnerLost (s : State) (l : Nat) (detachCause : Nat) : State :=
  let k := s.link l
  if l = upLink then orphaned s
  else if k.cls = 2 then branchLost s l
  else if k.cls = 3 then streamLost s l detachCause else s

/-- The LINK_STATE event of a link that has gone down: no lane carries flits any more (R235). -/
def goneEvent (s : State) (l cause : Nat) : State :=
  linkEvent (s.modLink l fun k => { k with active := 0, rate := 0 }) l cause

/-- A branch keeps the CPL and FAULT messages that its root has not acknowledged for the time after the rejoin (R228, R230)
(DEDUCED, log entry 92). -/
def keepAnswers (s : State) (l : Nat) : State :=
  if l = upLink then { s with upHeld := unsentAnswers (s.link l) ++ s.upHeld } else s

/-- A link goes down and restarts its bring-up: from NEGOTIATE, or from WAIT_PRESENCE without a partner; one that was
UP says so (R226, R228, R229) (DEDUCED, log entry 56). -/
def linkDown (s : State) (l cause : Nat) : State :=
  let k := s.link l
  if k.st = 8 || k.st = 9 then
    let s1 := goneEvent (linkTo (lnkCnt s l 8 1) l (if k.presence then 2 else 1)) l cause
    let s2 := partnerLost (keepAnswers s1 l) l 1
    policyCheck (startLink (s2.modLink l fun k => { k with presentAt := some s.fc.now, downAt := none }) l)
  else if 2 ≤ k.st ∧ k.st ≤ 7 then startLink s l else s

/-- GOODBYE (R208): the table gives its CAUSE byte no code. -/
def sendGoodbye (s : State) (l : Nat) : State :=
  let z := s.fresh
  putLlctl z.2 l 6 (beBytes 1 (Config.goodbyeCause z.1).toNat)

/-- What is queued for a stream node ends WITHDRAWN: grants and messages that wait, and the node's queues (R227). -/
def withdrawStream (s : State) (l : Nat) : State :=
  let k := s.link l
  let due := k.grantQueue.map (·.2) ++ (k.grants.map (fun g => g.2.2) ++ k.acksDue.map (·.2)).filter fun d => heldDesc s l d
  let s1 := s.modLink l fun k => { k with
    grantQueue := [], grants := k.grants.filter fun g => !memNat due g.2.2, acksDue := k.acksDue.filter fun a => !memNat due a.2 }
  endPort (forEach due s1 fun s d => completeId s d Status.withdrawn) (48 + l) Status.withdrawn 4

/-- What is queued for a link that is disabled ends: descriptors whose message has not been sent complete WITHDRAWN, posted
writes produce FQ records (R227). What was sent ends with the partner. -/
def withdrawLink (s : State) (l : Nat) : State :=
  let s1 := forEach (s.flight.filter fun d => d.link == some l && d.result.isNone && heldDesc s l d.id) s fun s d =>
    if d.posted then lateFault (dropPosted s d.id) d Status.withdrawn else complete s d Status.withdrawn
  if (s.link l).cls = 3 then withdrawStream s1 l else s1

/-- A disabled link ends in DISABLED, or BONDED (R195, R227). -/
def linkOff (s : State) (l : Nat) : State :=
  laneShow (linkTo (s.modLink l freshLink) l (if bondedAway s l then 11 else 0)) l

/-- The drain after GOODBYE has ended: steps 3 and 4 of R227. -/
def drainOver (s : State) (l : Nat) : State :=
  let k := s.link l
  if !k.draining then s
  else
    let s1 := linkTo (lnkCnt (withdrawLink s l) l 8 1) l 0
    linkOff (partnerLost (goneEvent s1 l 5) l 4) l

/-- A disable takes effect: GOODBYE and a drain of at most 1 ms on an UP link (R227). -/
def linkDisable (s : State) (l : Nat) : State :=
  let k := s.link l
  if k.st = 8 ∨ k.st = 9 then
    let s1 := (sendGoodbye s l).modLink l fun k => { k with draining := true, downAt := some (s.fc.now + 1000000) }
    if k.replay.isEmpty then drainOver s1 l else s1
  else linkOff s l

/-- LNK_CTRL.ENABLE and LNK_CFG.BOND act at a frame boundary. -/
def linkEnables (s : State) : State :=
  forEach (List.range 16) s fun s l =>
    let st := (s.link l).st
    if linkOn s l && (st == 0 || st == 11) then
      startLink (s.modLink l fun k => { k with presentAt := some s.fc.now, downAt := none, noPartner := false }) l
    else if !linkOn s l && st != 0 && st != 11 && !(s.link l).draining then linkDisable s l
    else if linkOn s l && st == 1 && (s.link l).presence && !isHeld s 12 then toNegotiate s l
    else if !linkOn s l && bondedAway s l != (st == 11) && (st == 0 || st == 11) then
      linkTo s l (if bondedAway s l then 11 else 0)
    else s

/-- Presence ends (R198, R226). -/
def presenceGone (s : State) (l : Nat) : State :=
  let s1 := s.modLink l fun k => { k with presence := false, presentAt := none, noPartner := false }
  let st := (s1.link l).st
  if st = 8 ∨ st = 9 then linkDown s1 l 6
  else if st = 0 ∨ st = 11 then s1 else laneShow (linkTo (s1.modLink l freshLink) l 1) l

/-! ## UP and rejoin (R230, R253 to R255) -/

/-- A link enters UP. -/
def enterUp (s : State) (l : Nat) : State :=
  let partial_ := bonds s l && (s.link l).width == 2
  linkEvent (linkTo (s.modLink l fun k => { k with noPartner := false }) l 8) l (if partial_ then 0x0B else 1)

/-- An orphan episode of a branch that is back on a port ends (LNK_ORPHAN_STATUS). -/
def episodeOver (s : State) (l since : Nat) : State :=
  let ms := Nat.min 0xFFFF ((s.fc.now - since) / 1000000)
  (s.bumpFld (Reg.LNK_ORPHAN_STATUS l) Fld.LNK_ORPHAN_STATUS_EPISODES).setFld (Reg.LNK_ORPHAN_STATUS l)
    Fld.LNK_ORPHAN_STATUS_LAST_MS ms

/-- The count of the rules enabled on a branch goes with its number (GST_HUB_RULES, R253). -/
def hubRulesMove (s : State) (old new : Nat) : State :=
  (s.wr (Reg.GST_HUB_RULES new) (s.rd (Reg.GST_HUB_RULES old))).wr (Reg.GST_HUB_RULES old) 0

/-- A branch rejoined on another root port: its old number is vacated and everything the root holds of it moves (R253,
R255) (DEDUCED, log entry 78). -/
def branchMoved (s : State) (q l : Nat) : State :=
  let old := q + 1
  let new := l + 1
  let v : Vacated := ⟨old, new, ((s.rd Reg.LIB_EPOCH_NUM).toNat + 2) % 2 ^ 32, true⟩
  let later := (s.vacated.filter fun x => x.hub != old).map fun x => if x.successor = old then { x with successor := new } else x
  let s1 := { s with
    vacated := later ++ [v],
    rules := s.rules.mapVals fun _ r => rehubRule old new r,
    branchRules := s.branchRules.foldl (fun a kv =>
      a.insert (if kv.1 / 65536 = old then new * 65536 + kv.1 % 65536 else kv.1) (rehubRule old new kv.2)) [],
    deposits := s.deposits.mapVals fun _ bs => putTea bs 20 (rehub old new (leAt bs 20 3)),
    seqs := rehubKeys s.seqs 0 old new,
    seqOwn := rehubKeys s.seqOwn 0 old new,
    eps := rehubKeys s.eps (2 ^ 24) old new,
    subs := rehubKeys s.subs 0 old new,
    mirror := rehubKeys s.mirror 0 old new,
    flight := s.flight.map fun d => if d.link = some q then { d with link := some l, tea := rehub old new d.tea } else d }
  libInt (vacatedShow (orphanEnd (hubRulesMove s1 old new) old)) 4

/-- A branch reaches UP at the root. -/
def branchUp (s : State) (l : Nat) : State :=
  let id := (s.link l).identity
  let s0 := vacatedShow { s with vacated := s.vacated.filter fun v => v.hub != l + 1 }
  match s0.orphans.find? fun o => o.1 == id with
  | none => orphanEnd { s0 with branchRules := s0.branchRules.filter fun kv => kv.1 / 65536 != l + 1 } (l + 1)
  | some (_, q, since) =>
    let s1 := episodeOver { s0 with orphans := s0.orphans.filter fun o => o.1 != id } l since
    let taken := q != l && (s1.link q).cls == 2
    let s2 := if q = l || taken then s1 else branchMoved s1 q l
    let s3 := if taken then s2 else s2.modLink q fun k => { k with holdUntil := none, orphanSince := none }
    orphanEnd s3 (l + 1)

/-- A stream node's link is UP: it is node 1 of its port, and the hub reads its capabilities (R231, R232) (DEDUCED,
log entry 39). -/
def streamUp (s : State) (l : Nat) : State :=
  let p := 48 + l
  let k := s.link l
  let n := { Node.reset with identity := k.identity, phase := .assigned, returned := false }
  let s1 := ((s.setNode (nodeKey p 1) n).setSeg p { Seg.reset with st := 3, stateFrame := s.fc.frameNo })
  hubCtl s1 p 1 .hubCaps (setupBytes 0x80 0x0B 0 0 16) [] 16

/-- After a rejoin: once the waiting records have gone, the held CPL and FAULT messages follow, and LINK_STATE REJOIN with
the counts of records delivered and coalesced (R230, R235). -/
def rejoinEnds (s : State) : State :=
  let k := s.link upLink
  match k.rejoin with
  | none => s
  | some (prev, waiting, merged) =>
    if !s.pool.isEmpty || k.st != 8 then s
    else
      let s1 := forEach s.upHeld { s with upHeld := [] } fun s m =>
        sendMsg s upLink (if m.mtype = 4 then 2 else classVc (epCls s m.tea)) m
      sysEvent (s1.modLink upLink fun k => { k with rejoin := none }) 0x0C (linkTea s1 upLink)
        (linkData k 0x10 prev k.frameDiff waiting merged)

/-- The waiting records of a branch whose link has credit again go, and what a rejoin has left to do (R223, R230). -/
def upDrain (s : State) (l : Nat) : State := if l = upLink && isBranch s then rejoinEnds (drainPool s) else s

/-- The branch is UP again: its waiting records go first, then its held messages, then LINK_STATE REJOIN (R230). -/
def rejoined (s : State) (prev : Nat) : State :=
  let s1 := { s with poolMerged := 0 }.modLink upLink fun k => { k with
    orphanSince := none, rejoin := some (prev, s.pool.length, s.poolMerged) }
  upDrain (s1.setFlag Reg.GST_ORPHAN Fld.GST_ORPHAN_EXECUTED false) upLink

/-- The upstream link of a branch reaches UP. -/
def upstreamUp (s : State) : State :=
  let k := s.link upLink
  let s1 := linkTo (s.modLink upLink fun k => { k with noPartner := false }) upLink 8
  let s2 := if k.orphanSince.isSome then rejoined s1 k.prevHub else drainPool (s1.modLink upLink fun k => { k with frameDiff := 0 })
  policyCheck s2

/-- Eight time exchanges are complete (bring-up table). -/
def linkUp (s : State) (l : Nat) : State :=
  if l = upLink then upstreamUp s
  else branchUp (enterUp s l) l

/-- ROLE_ACK: credits for VC0 to VC2 start; a branch goes on to its time exchanges, a stream node is UP (R209, R219). -/
def takeRoleAck (s : State) (l : Nat) (accepted : Bool) : State :=
  let k := s.link l
  if k.st ≠ 6 || !k.authDone || k.roleDone then s
  else if !accepted then refuseLink s l 7
  else
    let s1 := putCreditInit (s.modLink l fun k => { k with roleDone := true, exchanges := 0, ds := [] }) l
      [128, 448, 1024, 64]
    if k.cls = 2 then linkTo (if l < 16 then s1.wr (Reg.TIM_LINK_JITTER l) 0 else s1) l 7
    else streamUp (enterUp s1 l) l

/-- CREDIT_INIT of the partner: VC3 first, VC0 to VC2 after the role, all of them after a rate change, during which
credits stay 0 (R209, R222). -/
def takeCreditInit (s : State) (l : Nat) (c : List Nat) : State :=
  let k := s.link l
  let now := if k.st = 6 then [0, 0, 0, c.getD 3 0]
    else if k.st = 7 ∨ k.st = 8 then (if k.rateNext.isSome then c else c.take 3 ++ [k.credits.getD 3 0])
    else k.credits
  upDrain (pumpLink (s.modLink l fun k => { k with credits := now, rateNext := if k.st = 8 then none else k.rateNext }) l) l

/-! ## Rate changes (R214, R222) -/

/-- The named marker of a fast rate change is reached: RATE_CHANGE, with all credits at 0 (R222). -/
def stepNow (s : State) (l rate marker : Nat) : State :=
  linkTo (s.modLink l fun k => { k with
    stepAt := none, rejoinAt := none, rateNext := some (rate, marker), credits := [0, 0, 0, 0],
    downAt := some (s.fc.now + 10000000) }) l 9

/-- Striping resumes on the full width: LINK_STATE LANE_RESTORED (R225). -/
def lanesRestored (s : State) (l : Nat) : State :=
  let s1 := s.modLink l fun k => { k with active := laneMask k.width, failed := 0, lpLocked := 0, rejoinAt := none }
  linkEvent (laneShow s1 l) l 0x0D

/-- What a marker of a link brings: a rate change that was agreed, or the full width (R222, R225). The model has no command
at a marker: it acts with the first command of the link after it, or at the next frame boundary; DATA stops at the marker
itself (DESIGN CHOICE, log entry 92). -/
def markersDue (s : State) (l : Nat) : State :=
  let s1 := match (s.link l).stepAt with
    | some (r, m) => if markerPassed (s.link l) s.fc.now m then stepNow s l r m else s
    | none => s
  match (s1.link l).rejoinAt with
  | some m => if markerPassed (s1.link l) s1.fc.now m then lanesRestored s1 l else s1
  | none => s1

/-- A fast rate change is agreed on an UP link: DATA goes on up to the named marker (R222). -/
def rateChange (s : State) (l rate marker : Nat) : State :=
  markersDue ((lnkCnt s l 7 1).modLink l fun k => { k with stepAt := some (rate, marker) }) l

/-- This side starts it with RATE_STEP, unless one is under way. -/
def startRateChange (s : State) (l rate : Nat) : State :=
  if (s.link l).stepAt.isSome then s
  else
    let z := s.fresh
    let m := (Config.stepMarker z.1).toNat
    rateChange (putLlctl z.2 l 3 (beBytes 1 rate ++ beBytes 4 m)) l rate m

/-- The permitted rate one step below or above. -/
def rateBelow (s : State) (l : Nat) : Option Nat := (permitted s l).find? fun r => decide (r < (s.link l).rate)
def rateAbove (s : State) (l : Nat) : Option Nat := (permitted s l).reverse.find? fun r => decide ((s.link l).rate < r)

/-- A retrain: the link passes through link down (R214, R226). -/
def retrain (s : State) (l : Nat) : State := linkDown (lnkCnt s l 7 1) l 4

/-- One SEQ has been NAKed 8 times (R214). -/
def replayExhausted (s : State) (l : Nat) : State :=
  let s1 := lnkIrq s l 4
  match (if getField (linkCfg s l) Fld.LNK_CFG_AUTO_DOWN = 1 then rateBelow s l else none) with
  | some r => startRateChange s1 l r
  | none => retrain s1 l

/-- The lanes have relocked: fresh credits, and the link is UP again (R222). -/
def rateChanged (s : State) (l : Nat) : State :=
  let r := ((s.link l).rateNext.map (·.1)).getD (s.link l).rate
  let s1 := linkTo (s.modLink l fun k => { k with rate := r, downAt := none, lockAt := s.fc.now }) l 8
  let s2 := putCreditInit s1 l [128, 448, 1024, 64]
  linkEvent (lnkIrq s2 l 5) l 0x0E

/-! ## Lanes (R224, R225) -/

/-- Lanes a link goes on with when some have failed: all that remain of two, a whole pair of four, else one. -/
def lanesAfter (width remaining : Nat) : Nat :=
  if width = 4 then
    if bitsOf remaining 0 2 = 3 then 3 else if bitsOf remaining 2 2 = 3 then 12
    else 2 ^ (((List.range 4).find? fun n => bitOf remaining n).getD 0)
  else 2 ^ (((List.range 2).find? fun n => bitOf remaining n).getD 0)

/-- A lane loses its lock, and its signal when `los` says so, in whatever state its link is (R204, R224). -/
def lockLost (s : State) (l n : Nat) (los : Bool) : State :=
  let s1 := laneShow (s.modLink l fun k => { k with locked := setBits k.locked n 1 0, lpLocked := setBits k.lpLocked n 1 0 }) l
  if l = upLink then s1 else s1.setFlag (Reg.LNK_LANE_STATUS l n) Fld.LNK_LANE_STATUS_LOS los

/-- A lane fails: it has no lock any more; a link that is UP goes on with the lanes that remain (R224). In bring-up the
link keeps its state (DEDUCED, log entry 54). -/
def laneFailed (s : State) (l n : Nat) (los : Bool) : State :=
  let k := s.link l
  if k.st < 2 ∨ k.st = 11 then s
  else if !(k.st == 8 || k.st == 9) || !bitOf k.active n then lockLost s l n los
  else
    let s1 := lnkIrq (lnkCnt (s.modLink l fun k => { k with failed := setBits k.failed n 1 1, rejoinAt := none }) l 6 1) l 1
    let s2 := lockLost s1 l n los
    let left := setBits k.active n 1 0
    if left = 0 then linkDown s2 l 2
    else
      let on := lanesAfter k.width left
      let s3 := putLlctl (s2.modLink l fun k => { k with active := on }) l 4 (beBytes 1 on)
      (laneShow s3 l).atFrame (.linkState l 0x0C)

/-- The partner drops lanes: they carry training frames from now on, so this side has no lock on them. The failure is the
partner's: LNK_CNT6 counts those this side sees (R224) (DEDUCED, log entry 54). -/
def lanesDropped (s : State) (l lanes : Nat) : State :=
  let k := s.link l
  let on := (bitList 4 k.active).filter fun n => bitOf lanes n
  if !(k.st == 8 || k.st == 9) || on.isEmpty then s
  else
    let gone := (bitList 4 k.active).filter fun n => !bitOf lanes n
    let s1 := s.modLink l fun k => { k with
      active := bitmapOf on, failed := gone.foldl (fun f n => setBits f n 1 1) k.failed,
      locked := gone.foldl (fun f n => setBits f n 1 0) k.locked, lpLocked := gone.foldl (fun f n => setBits f n 1 0) k.lpLocked,
      rejoinAt := if gone.isEmpty then k.rejoinAt else none }
    let s2 := if gone.isEmpty then s1 else lnkIrq s1 l 1
    if gone.isEmpty then s2 else (laneShow s2 l).atFrame (.linkState l 0x0C)

/-- A marker index 2 periods ahead (R225). -/
def markerAhead (s : State) (l : Nat) : Nat := (markersAt (s.link l) s.fc.now + 2) % 2 ^ 32

/-- LANE_REJOIN has been sent or received: the full width is taken up at its marker (R225). -/
def lanesRejoin (s : State) (l marker : Nat) : State :=
  markersDue (s.modLink l fun k => { k with rejoinAt := some marker }) l

/-- Both sides hold lock on the failed lanes: the side of lower IDENTITY sends LANE_REJOIN, except in A1, which keeps its
links on one lane (R225, R313) (DEDUCED, log entry 54). -/
def lanesBack (s : State) (l : Nat) : State :=
  let k := s.link l
  if k.failed ≠ 0 ∧ k.failed &&& k.locked &&& k.lpLocked = k.failed ∧ k.rejoinAt.isNone ∧ s.nvm.identity < k.identity ∧
      chipState s ≠ 1 then
    lanesRejoin (putLlctl s l 5 (beBytes 1 (laneMask k.width) ++ beBytes 4 (markerAhead s l))) l (markerAhead s l)
  else s

/-- The width of a link whose lane has found its markers: on the upstream link of a branch in C2M mode that of the markers
(R195, R203). -/
def markerWidth (k : Link) (l w : Nat) : Nat :=
  if l = upLink ∧ k.st = 2 ∧ !k.trials.isEmpty ∧ (w = 2 ∨ w = 4) then w else k.width

/-- A lane finds its markers: in bring-up, in a rate change, or a failed lane of an UP link (R203, R204). A lane beyond the
skew of 100 ns is not aligned with the others: it shows its skew and gains no lock (DEDUCED, log entry 54). -/
def laneLocked (s : State) (l : Nat) (m : MarkerIn) : State :=
  let n := m.lane.toNat
  let k := s.link l
  let width := markerWidth k l m.width.toNat
  let s0 := if l = upLink then s
    else
      let s1 := s.wr (Reg.LNK_LANE_STATUS l n) (BitVec.ofNat 32 (m.logical.toNat * 32 + b2n m.polInv * 16))
      (s1.wr (Reg.LNK_LANE_SNR l n) (BitVec.ofNat 32 (m.snr % 65536))).wr (Reg.LNK_LANE_SKEW l n)
        (BitVec.ofNat 32 (satNat 16 m.skewPs))
  let s2 := laneShow (s0.modLink l fun k => { k with
    locked := setBits k.locked n 1 1, width := width, lpLocked := setBits k.lpLocked n 1 (b2n (m.lpLock && bitOf k.failed n)) }) l
  let locked := setBits k.locked n 1 1
  let all := fun mask => decide (locked &&& mask = mask)
  if 100000 < m.skewPs then (if k.st < 2 ∨ k.st = 11 then s else s0)
  else if k.st = 5 ∨ (k.st = 2 ∧ !k.trials.isEmpty) then
    (if all (laneMask width) then toIdentify (s2.modLink l fun k => { k with trials := [] }) l else s2)
  else if k.st = 9 then (if all k.active then rateChanged s2 l else s2)
  else if k.st = 3 ∨ k.st = 4 ∨ k.st = 0 ∨ k.st = 1 ∨ k.st = 2 ∨ k.st = 11 then s
  else if k.st = 8 then lanesBack s2 l
  else s2

/-- The PLL is calibrated (R200, R222). -/
def calibrated (s : State) (l : Nat) : State :=
  let k := s.link l
  if k.st = 3 then linkTo s l 4
  else if k.st = 9 then laneShow (s.modLink l fun k => { k with locked := 0 }) l else s

end Sys2Proof.Machine
end

