-- ==== Sys2Proof/Machine/XferRows.lean ====
section
/-! DEFINITION. Descriptors that move data: control transfers to nodes (R127), BULK_XFER (R130), STREAM_XFER (R233),
NODE_FW_DISTRIBUTE (R190 to R193). -/
namespace Sys2Proof.Machine
open Sys2Proof.WellFormed

def ruleControl : OpRule := { opcode := 0x05, standby := false, len := .transfer 1024 }
def ruleBulk : OpRule := { opcode := 0x06, standby := false, len := .transfer 1024 }
def ruleStream : OpRule := { opcode := 0x07, standby := false, len := .transfer 65536 }
def ruleDist : OpRule := { opcode := 0x1B, standby := false, len := .upTo 1024 }

/-! ## CONTROL_XFER to a node (R127, R149, R183) -/

/-- The SETUP payload, most significant byte first (R127). -/
def setupOf (args : List Byte) (len : Nat) : List Byte :=
  setupBytes (byteAt args 0) (byteAt args 1) (leAt args 2 2) (leAt args 4 2) len

/-- A control transfer waits for its turn at the node (R129); AUTH requests are the hub's own (R138). -/
def opControlNode (x : Desc) (s : State) : State :=
  let p := teaPort x.tea
  let node := teaNode x.tea
  if node = 0 ∨ teaEp x.tea ≠ 0 then complete s x Status.denied
  else if bitsOf (byteAt x.args 0) 5 2 = 3 then complete s x Status.denied
  else if bitsOf (byteAt x.args 0) 5 2 = 0 ∧ (byteAt x.args 1 = 0x20 ∨ byteAt x.args 1 = 0x21) then complete s x Status.denied
  else
    let cap := Nat.min (draughtCap s p) (match (s.ep (epKey p node 0)).info with
      | some i => i.max
      | none => 1024)
    let n := Nat.min x.len cap
    let ask := leAt x.args 6 2
    let len := Nat.min ask n
    let s1 := clampDesc s x (n != x.len || len != ask)
    let inward := bitOf (byteAt x.args 0) 7
    s1.modSeg p fun g => { g with ctls := g.ctls ++
      [⟨.host x.id, node, setupOf x.args len, if inward then [] else x.data.take len, 0, none, [], len⟩] }

/-! ## BULK_XFER (R130) -/

/-- A bulk transfer waits in fetch order; only a bulk endpoint of a segment node carries one (DEDUCED, log entry 36).
-/
def opBulk (x : Desc) (s : State) : State :=
  let p := teaPort x.tea
  let node := teaNode x.tea
  let e := teaEp x.tea
  match epBlock s x.tea with
  | some st => complete s x st
  | none =>
    let c := s.ep (teaKey x.tea)
    if 48 ≤ p ∨ (c.info.map fun i => i.kind) ≠ some 2 then complete s x Status.denied
    else
      let n := Nat.min x.len (Nat.min c.maxLen (draughtCap s p))
      let s1 := clampDesc s x (n != x.len)
      s1.modSeg p fun g => { g with bulks := g.bulks ++ [⟨x.id, node, e, x.dirIn, if x.dirIn then [] else x.data.take n, n, none, false⟩] }

/-! ## STREAM_XFER (R25, R233) -/

/-- Grants of an endpoint that are outstanding. -/
def grantsOf (k : Link) (e : Nat) : Nat := (k.grants.filter fun g => g.2.1 == e).length

/-- Send STREAM_GRANT for a descriptor (DEDUCED, log entry 39). -/
def sendGrant (s : State) (l e : Nat) (x : Desc) : State :=
  let tag := (s.link l).streamTag
  let s1 := s.modLink l fun k => { k with streamTag := (tag + 1) % 65536, grants := k.grants ++ [(tag, e, x.id)] }
  sendMsg s1 l 2 ⟨0x21, false, x.tea, 0, tag, x.len, 0, []⟩ (some x.id)

/-- Grants that waited go out while fewer than 16 are outstanding for their endpoint (R233) (DEDUCED, log entry 39).
-/
def pumpGrants (s : State) (l : Nat) : State :=
  forEach (s.link l).grantQueue s fun s q =>
    if 16 ≤ grantsOf (s.link l) q.1 then s
    else
      let s1 := s.modLink l fun k => { k with grantQueue := k.grantQueue.filter fun y => !(y == q) }
      match inFlight s1 q.2 with
      | some x => sendGrant s1 l q.1 x
      | none => s1

/-- STREAM_XFER: a grant, or the message itself (DEDUCED, log entry 39). -/
def opStream (x : Desc) (s : State) : State :=
  let p := teaPort x.tea
  let e := teaEp x.tea
  if p < 48 ∨ teaNode x.tea = 0 then complete s x Status.denied
  else match epBlock s x.tea with
    | some st => complete s x st
    | none =>
      let c := s.ep (teaKey x.tea)
      if (c.info.map fun i => i.kind) ≠ some 2 then complete s x Status.denied
      else
        let l := p - 48
        if x.dirIn then
          pumpGrants (s.modLink l fun k => { k with grantQueue := k.grantQueue ++ [(e, x.id)] }) l
        else
          let tag := (s.link l).streamTag
          let s1 := s.modLink l fun k => { k with streamTag := (tag + 1) % 65536, acksDue := k.acksDue ++ [(tag, x.id)] }
          sendMsg s1 l 2 ⟨0x22, false, x.tea, 0, tag, 0, 0, x.data⟩ (some x.id)

/-! ## NODE_FW_DISTRIBUTE (R190, R191) -/

/-- The targets a first block names: attached nodes of the port whose bit is set. -/
def distTargets (s : State) (p : Nat) (args : List Byte) : List Nat :=
  (attachedOf s p).filter fun n => decide (1 ≤ n) && decide (n ≤ 254) && bitOf (leAt args 8 32) n

/-- The live target bitmap (QUERY). -/
def distBitmap (x : Seg) : List Byte := leBytes 32 (match x.dist with
  | some d => bitmapOf d.targets
  | none => 0)

/-- Is a descriptor for another session than the open one. -/
def otherSession (x : Seg) (session : Nat) : Bool := match x.dist with
  | some d => d.session != session
  | none => false

/-- NODE_FW_DISTRIBUTE with ABORT: queued blocks complete WITHDRAWN, the descriptor DONE (R191) (DEDUCED, log entry
38). -/
def opDistAbort (x : Desc) (s : State) : State :=
  if teaNode x.tea ≠ 255 then complete s x Status.denied
  else complete (distClose s (teaPort x.tea)) x Status.done 0

/-- NODE_FW_DISTRIBUTE with QUERY (DEDUCED, log entry 38). -/
def opDistQuery (x : Desc) (s : State) : State :=
  let g := s.seg (teaPort x.tea)
  if teaNode x.tea ≠ 255 ∨ otherSession g (leAt x.args 0 2) then complete s x Status.denied
  else
    let bs := (distBitmap g).take x.len
    complete (hostWrite s x bs) x Status.done bs.length

/-- The block of a distribution descriptor, with LENGTH clamped to 1,020 and to DRAUGHT_CAP − 4. -/
def distBlock (x : Desc) (n rounds : Nat) : DistBlock :=
  { desc := x.id, block := leAt x.args 4 4, rounds := 0, limit := rounds, last := bitOf (byteAt x.args 2) 0, sent := false,
    done := false, data := x.data.take n }

/-- NODE_FW_DISTRIBUTE: one block of the session joins its queue; the first one opens it. Endpoint 0 carries control
transfers only (R17, R190) (DEDUCED, log entry 38). -/
def opDist (x : Desc) (s : State) : State :=
  let p := teaPort x.tea
  let g := s.seg p
  let session := leAt x.args 0 2
  let r := byteAt x.args 3
  let rounds := if r = 0 then 4 else Nat.min 15 r
  let n := Nat.min x.len (Nat.min 1020 (draughtCap s p - 4))
  let b := distBlock x n rounds
  if teaNode x.tea ≠ 255 ∨ teaEp x.tea = 0 ∨ session = 0 ∨ otherSession g session then complete s x Status.denied
  else match g.dist with
    | some d =>
      if b.block ≠ d.next then complete s x Status.denied
      else (clampDesc s x (n != x.len || rounds != r)).modSeg p fun y => { y with
        dist := some { d with next := d.next + 1, blocks := d.blocks ++ [b] } }
    | none =>
      let ts := distTargets s p x.args
      if b.block ≠ 0 ∨ ts.isEmpty then complete s x Status.denied
      else (clampDesc s x (n != x.len || rounds != r)).modSeg p fun y => { y with
        dist := some { session := session, ep := teaEp x.tea, targets := ts, next := 1, blocks := [b], status := [],
                       asked := [], dropped := 0 } }

/-- What a NODE_FW_DISTRIBUTE does, by its FLAGS. -/
def opDistAny (x : Desc) (s : State) : State :=
  let f := byteAt x.args 2
  if bitOf f 1 then opDistAbort x s else if bitOf f 2 then opDistQuery x s else opDist x s

/-! ## Commands -/

/-- BULK_XFER hub to node. -/
def execBulkXferOut (t : Nat) (d : SqEntry) (s : State) : Host.Outcome State Fault Refusal :=
  whenWf (wf (.bulkXferOut t d)) t s <| effect t s fun s => settle (fetched s d ruleBulk opBulk)

/-- BULK_XFER node to hub. -/
def execBulkXferIn (t : Nat) (d : SqEntry) (s : State) : Host.Outcome State Fault Refusal :=
  whenWf (wf (.bulkXferIn t d)) t s <| effect t s fun s => settle (fetched s d ruleBulk opBulk)

/-- STREAM_XFER node to hub. -/
def execStreamXferIn (t : Nat) (d : SqEntry) (s : State) : Host.Outcome State Fault Refusal :=
  whenWf (wf (.streamXferIn t d)) t s <| effect t s fun s => fetched s d ruleStream opStream

/-- STREAM_XFER hub to node. -/
def execStreamXferOut (t : Nat) (d : SqEntry) (s : State) : Host.Outcome State Fault Refusal :=
  whenWf (wf (.streamXferOut t d)) t s <| effect t s fun s => fetched s d ruleStream opStream

/-- NODE_FW_DISTRIBUTE. -/
def execNodeFwDistribute (t : Nat) (d : SqEntry) (s : State) : Host.Outcome State Fault Refusal :=
  whenWf (wf (.nodeFwDistribute t d)) t s <| effect t s fun s => settle (fetched s d ruleDist opDistAny)

/-- NODE_FW_DISTRIBUTE with ABORT. -/
def execDistAbort (t : Nat) (d : SqEntry) (s : State) : Host.Outcome State Fault Refusal :=
  whenWf (wf (.distAbort t d)) t s <| effect t s fun s => settle (fetched s d ruleDist opDistAny)

/-- NODE_FW_DISTRIBUTE with QUERY. -/
def execDistQuery (t : Nat) (d : SqEntry) (s : State) : Host.Outcome State Fault Refusal :=
  whenWf (wf (.distQuery t d)) t s <| effect t s fun s => settle (fetched s d ruleDist opDistAny)

end Sys2Proof.Machine
end

