-- ==== Sys2Proof/Machine/LinkMsg.lean ====
section
/-! DEFINITION. What arrives on a Craora link: flits and their acknowledgement (R205 to R212), time exchanges (R220, R221,
R284, R290), stream data (R233), messages between root and branch (R216, R228, R248, R269). -/
namespace Sys2Proof.Machine

/-! ## Flits -/

/-- The fields of a flit's first word (R206). -/
def flitVc (w : Nat) : Nat := bitsOf w 30 2
def flitType (w : Nat) : Nat := bitsOf w 28 2
def flitSeq (w : Nat) : Nat := bitsOf w 16 12
def flitCrVc (w : Nat) : Nat := bitsOf w 14 2
def flitCrCount (w : Nat) : Nat := bitsOf w 8 6
def flitAck (w : Nat) : Nat := bitsOf w 0 8

/-- Is a flit good: its FEC, its CRC and its TYPE (R205, R207). -/
def flitGood (f : Flit) : Bool :=
  f.fecOk && decide (beAt f.bytes 248 8 = crc64 (f.bytes.take 248)) && flitType (beAt f.bytes 0 4) != 3

/-- The partner acknowledges DATA flits: they leave the replay buffer, their descriptors count as acknowledged (R212,
R228). -/
def takeAck (s : State) (l ack : Nat) : State :=
  let k := s.link l
  let n := (ack + 256 - k.acked % 256) % 256
  if n = 0 ∨ unacked k < n then s
  else
    let gone := k.replay.take n
    let s1 := s.modLink l fun k => { k with
      acked := (k.acked + n) % 4096, replay := k.replay.drop n, ackAt := s.fc.now,
      nakCount := if gone.any fun f => f.seq == k.nakSeq then 0 else k.nakCount }
    forEach (gone.filterMap fun f => f.desc) s1 fun s d =>
      { s with flight := (s.flight.filter fun x => !(x.id == d && x.posted)).map fun x => if x.id == d then { x with acked := true } else x }

/-- The partner returns credits (R209). -/
def takeCredit (s : State) (l vc n : Nat) : State :=
  s.modLink l fun k => { k with credits := k.credits.set vc (k.credits.getD vc 0 + n) }

/-- Send a NAK for the expected SEQ, once until the replay arrives or 2 × RTT has passed (R211). -/
def sendNak (s : State) (l : Nat) : State :=
  let k := s.link l
  if k.nakFor = some k.rxSeq ∧ s.fc.now < k.nakAt + 2 * k.rttNs then s
  else putLlctl (s.modLink l fun k => { k with nakFor := some k.rxSeq, nakAt := s.fc.now }) l 1 (beBytes 2 k.rxSeq)

/-- Message types that a link may receive: those of the root on the upstream link of a branch, those of a stream node or of
a branch elsewhere (message types table). -/
def receives (k : Link) (l mtype : Nat) : Bool :=
  if l = upLink then memNat [1, 5, 6, 0x10, 0x11, 0x12, 0x14, 0x20, 0x22] mtype
  else memNat [5, 0x10, 0x11, 0x13, 0x15, 0x20, 0x22] mtype || (k.cls == 2 && memNat [2, 3, 4] mtype) ||
    (k.cls == 3 && mtype == 0x23)

/-- Is a message whole that has ended: LENGTH bytes of body after its header, of a type and in a direction that the table
allows, and of a KIND of the table when it is a GUST message (R215, R216, GUST message fields). -/
def wholeMsg (k : Link) (l : Nat) (m : InMsg) : Bool :=
  decide (24 ≤ m.got) && decide (m.got = 24 + beAt m.head 8 4) && receives k l (byteAt m.head 0) &&
    (byteAt m.head 0 != 5 || (decide (1 ≤ byteAt m.head 15) && decide (byteAt m.head 15 ≤ 7)))

/-- A message with one more fragment. -/
def InMsg.add (m : InMsg) (data : List Byte) : InMsg :=
  { m with head := (m.head ++ data).take 24, got := m.got + data.length }

/-- What a fragment makes of the message that is being received on its channel: the message as it then stands, and whether
a malformed one is counted. A broken sequence counts once, and what follows it is discarded up to the next FIRST (R215). -/
def fragStep (k : Link) (l vc : Nat) (payload : List Byte) : Option InMsg × Bool :=
  let first := bitOf (byteAt payload 0) 7
  let last := bitOf (byteAt payload 0) 6
  let n := byteAt payload 1
  let old := k.inMsg.find? fun m => m.vc == vc
  let dropping := match old with
    | some m => m.bad
    | none => false
  let cut := first && old.isSome && !dropping
  if n = 0 ∨ 242 < n then (some ⟨vc, [], 0, true⟩, !dropping)
  else
    let m0 := if first then some ⟨vc, [], 0, false⟩ else if dropping then none else old
    match m0 with
    | none => (some ⟨vc, [], 0, true⟩, !dropping)
    | some m =>
      let m1 := m.add ((payload.drop 2).take n)
      if 24 + 65536 < m1.got then (some { m1 with bad := true }, true)
      else if last then (none, cut || !wholeMsg k l m1) else (some m1, cut)

/-- A fragment arrives in its order: bytes of those that are not discarded counted, malformed messages counted (R215, R216,
R236). -/
def takeFrag (s : State) (l vc : Nat) (payload : List Byte) : State :=
  let k := s.link l
  let z := fragStep k l vc payload
  let kept := match z.1 with
    | some m => !m.bad
    | none => true
  let s1 := if l = upLink || !kept then s else bump64 s (Reg.LNK_CNT l 10) (Reg.LNK_CNT l 11) (byteAt payload 1)
  let s2 := if z.2 then lnkCnt s1 l 5 1 else s1
  s2.modLink l fun k => { k with inMsg := (k.inMsg.filter fun m => m.vc != vc) ++ z.1.toList }

/-- A DATA flit is accepted, a duplicate, or out of order (R211); an accepted one frees its buffer at once. -/
def takeDataFlit (s0 : State) (l : Nat) (w : Nat) (payload : List Byte) : State :=
  let s := if flitVc w < 3 then lullWake s0 3 else s0
  let k := s.link l
  let ahead := (flitSeq w + 4096 - k.rxSeq) % 4096
  if ahead = 0 then
    let s1 := takeFrag (lnkCnt s l 1 1) l (flitVc w) payload
    putIdle (s1.modLink l fun k => { k with
      rxSeq := (k.rxSeq + 1) % 4096, nakFor := none, owed := k.owed.set (flitVc w) (k.owed.getD (flitVc w) 0 + 1) }) l
  else if 2048 ≤ ahead then lnkCnt s l 5 1
  else sendNak s l

/-- The FEC counts of a received flit: each codeword by its corrected symbols, and the markers missed (R205). -/
def countFec (s : State) (l : Nat) (f : Flit) : State :=
  if l = upLink then s
  else
    let s1 := forEach f.codewords s fun s c =>
      let n := c.2.toNat
      if n = 0 then s
      else if n < 16 then (s.bump (Reg.LNK_FEC_HIST l (n - 1)) 1).bump (Reg.LNK_LANE_FEC_CORR l c.1.toNat) n
      else (s.bump (Reg.LNK_FEC_HIST l 15) 1).bump (Reg.LNK_LANE_FEC_UNCORR l c.1.toNat) 1
    forEach f.missed s1 fun s n => s.bump (Reg.LNK_LANE_AM_ERR l n.toNat) 1

/-- A flit arrives on a link that is aligned. -/
def flitIn (s0 : State) (l : Nat) (f : Flit) : State :=
  let st := (s0.link l).st
  let s := if st < 6 ∨ st = 11 then s0 else countFec s0 l f
  if st < 6 ∨ st = 11 then s
  else if !flitGood f then sendNak (lnkCnt s l 2 1) l
  else
    let w := beAt f.bytes 0 4
    let s1 := s.modLink l fun k => { k with lastFlit := s.fc.now }
    let s2 := if st = 10 then s1 else takeCredit (takeAck s1 l (flitAck w)) l (flitCrVc w) (flitCrCount w)
    let s3 := if flitType w = 1 then takeDataFlit s2 l w ((f.bytes.drop 4).take 244) else s2
    if st = 10 then s3 else upDrain (pumpLink s3 l) l

/-- A NAK: the flits from its SEQ go again; the eighth in succession ends the attempt (R212, R214). No DATA goes during a
rate change (R222). -/
def takeNakFlit (s : State) (l seq : Nat) : State :=
  let k := s.link l
  if !(k.replay.any fun f => f.seq == seq) || stepStops k s.fc.now then s
  else
    let n := if k.nakSeq = seq then k.nakCount + 1 else 1
    let s1 := s.modLink l fun k => { k with nakSeq := seq, nakCount := n }
    if 8 ≤ n then replayExhausted (s1.modLink l fun k => { k with nakCount := 0 }) l else replayFrom s1 l seq

/-- ACK has not advanced for RTT + 2 µs while flits are unacknowledged (R212). -/
def replayTimeout (s : State) (l : Nat) : State :=
  let k := s.link l
  match k.replay with
  | [] => s
  | f :: _ => if s.fc.now < k.ackAt + k.rttNs + 2000 ∨ stepStops k s.fc.now then s else replayFrom s l f.seq

/-- The held message of a descriptor is dropped. -/
def dropHeld (s : State) (l id : Nat) : State :=
  s.modLink l fun k => { k with held := k.held.filter fun h => h.desc != some id }

/-- Nothing of a descriptor of a stream node remains: its grant or message, its transfer, its write and what stands for it
on the line. -/
def streamDrop (s : State) (l id : Nat) : State :=
  let p := 48 + l
  let s1 := s.modLink l fun k => { k with
    grants := k.grants.filter fun g => g.2.2 != id, acksDue := k.acksDue.filter fun a => a.2 != id }
  let mine := fun (x : Txn) => txnDesc s p x == some id
  let s2 := s1.modSeg p fun g => { g with
    cur := g.cur.filter fun x => !mine x, work := g.work.filter fun x => !mine x,
    ctls := g.ctls.filter (fun c => c.owner != .host id), bulks := g.bulks.filter fun b => b.desc != id }
  forEach (List.range 32) s2 fun s e => s.modEp (epKey p 1 e) fun c => { c with
    sending := c.sending.filter fun w => w.desc != id, hostWrites := c.hostWrites.filter fun w => w.desc != id }

/-- Posted writes to a stream node whose message is held (R223). -/
def heldWrites (s : State) (l : Nat) : List HostWrite :=
  (List.range 32).flatMap fun e => (s.ep (epKey (48 + l) 1 e)).sending.toList.filter fun w => w.posted && heldDesc s l w.desc

/-- LNK_HOLD.TIMEOUT_MS has passed since the fetch of a descriptor whose message is held (R223). -/
def holdTimeout (s : State) (l : Nat) (fn : Fn) (sq tag : Nat) : State :=
  let over_ := fun (d : Desc) => d.fetchAt + s.fld (Reg.LNK_HOLD l) Fld.LNK_HOLD_TIMEOUT_MS * 1000000 ≤ s.fc.now
  let s0 := fun (id : Nat) => lnkIrq (lnkCnt (dropHeld s l id) l 9 1) l 3
  match s.flight.find? fun d => d.fn == fn && d.sq == sq && d.tag == tag && d.result.isNone && heldDesc s l d.id with
  | some d =>
    if !over_ d then s
    else if d.posted then lateFault (dropPosted (s0 d.id) d.id) d Status.linkNotReady
    else if (s.link l).cls = 3 then complete (streamDrop (s0 d.id) l d.id) d Status.linkNotReady
    else complete (s0 d.id) d Status.linkNotReady
  | none =>
    match (heldWrites s l).find? fun w => w.d.fn == fn && w.d.sq == sq && w.d.tag == tag with
    | some w => if !over_ w.d then s else lateFault (streamDrop (s0 w.desc) l w.desc) w.d Status.linkNotReady
    | none => s

/-- The completion hold of a lost branch expires (R228). -/
def cplHoldOver (s : State) (l : Nat) : State :=
  match (s.link l).holdUntil with
  | some t =>
    if s.fc.now < t then s
    else
      forEach (s.flight.filter fun d => d.link == some l && d.acked && d.result.isNone && !d.posted)
        (s.modLink l fun k => { k with holdUntil := none }) fun s d => complete s d Status.noResponse
  | none => s

/-! ## Time exchanges -/

/-- The TQ byte (R290). -/
def tqByte (s : State) : Nat := s.tt.eff.code + 8 * b2n s.tt.absolute

/-- DOWN: D of the last exchange and half the asymmetry, in ps (R221). -/
def downPs (s : State) (l : Nat) : Int :=
  toSigned 32 (s.rd (Reg.LNK_DELAY l)).toNat + toSigned 32 (s.rd (Reg.LNK_TS_ASYM l)).toNat / 2

/-- Does a link have a child that takes time: a branch, or a stream node with CAPS.TIME (R220, R231). -/
def timeChild (s : State) (l : Nat) : Bool :=
  let k := s.link l
  (k.cls == 2 && (k.st == 7 || k.st == 8)) || (k.cls == 3 && k.st == 8 && capTime (s.node (nodeKey (48 + l) 1)).caps)

/-- Send TIME_SYNC; TIME and FRACTION are those of the instant its flit leaves (R220). -/
def sendSync (s : State) (l : Nat) : State :=
  if !timeChild s l then s
  else
    sendMsg s l 3 (linkMsg 0x14 0 0
      (beBytes 2 0 ++ beBytes 4 s.fc.frameNo ++ beBytes 8 (treeNsAt s s.fc.frameStart) ++
        beBytes 4 (ofSigned 32 (downPs s l)) ++ beBytes 1 (tqByte s) ++ beBytes 5 0))

/-- A signed difference of two tree times. -/
def timeDiff (a b : Nat) : Int := toSigned 80 (timeMod ((a : Int) - b))

/-- D of an exchange in ps is recorded; its spread over the last 1,000 shows (LNK_DELAY, TIM_LINK_JITTER). -/
def noteDelay (s : State) (l : Nat) (d : Int) : State :=
  let ps := d * 1000 / 65536
  let ds := (ps :: (s.link l).ds).take 1000
  let s1 := (s.wr (Reg.LNK_DELAY l) (BitVec.ofInt 32 ps)).modLink l fun k => { k with ds := ds, rttNs := (2 * d / 65536).toNat }
  if ds.length < 1000 then s1
  else
    let hi := ds.foldl (fun a b => if a < b then b else a) ps
    let lo := ds.foldl (fun a b => if b < a then b else a) ps
    s1.wr (Reg.TIM_LINK_JITTER l) (BitVec.ofNat 32 (2 ^ 31 + satNat 16 (hi - lo).toNat))

/-- TIME_REPLY at the parent: the delay, the times, and UP after eight exchanges (R220, R221). -/
def takeReply (s : State) (l : Nat) (m : ReplyMsg) : State :=
  let k := s.link l
  if !timeChild s l then s
  else
    let t2 := m.t2 * 65536 + m.frac2
    let t3 := m.t3 * 65536 + m.frac3
    let t4 := s.tt.time
    let d := (timeDiff t4 k.t1 - timeDiff t3 t2) / 2
    let times := [k.t1 / 65536, t2 / 65536, t3 / 65536, t4 / 65536]
    let s1 := forEach (List.range 4) s fun s i =>
      (s.wr (Reg.LNK_TS l (2 * i)) (BitVec.ofNat 32 (times.getD i 0))).wr (Reg.LNK_TS l (2 * i + 1))
        (BitVec.ofNat 32 (times.getD i 0 / 2 ^ 32))
    let s2 := (noteDelay s1 l d).modLink l fun k => { k with exchanges := k.exchanges + 1 }
    if k.st = 7 ∧ 8 ≤ k.exchanges + 1 then linkUp s2 l else s2

/-- Where the parent's boundaries lie against the branch's own: ns by which they come earlier, in the shorter direction,
and the own frame number that goes with the parent's boundary (R24, R284). -/
def phaseOf (s : State) (sinceParent : Int) : Int × Int :=
  let e := sinceParent - (s.fc.now - s.fc.frameStart : Nat)
  if 500000 < e then (e - 1000000, (s.fc.frameNo : Int) - 1)
  else if e < -500000 then (e + 1000000, (s.fc.frameNo : Int) + 1) else (e, s.fc.frameNo)

/-- One offset of the branch's servo; TIM_OFFSET_HIST takes the mean of each 1,000 (R280, R284). -/
def servo (s : State) (o phase : Int) : State :=
  let sum := s.tt.offSum + o
  let n := s.tt.offCount + 1
  let s1 := offsetShow (s.modTt fun t => { t with
    offSum := if 1000 ≤ n then 0 else sum, offCount := if 1000 ≤ n then 0 else n, phaseErr := phase }) o
  let s2 := if 1000 ≤ n then offsetHist s1 (sum / 1000) else s1
  let phaseOk := decide (phase.natAbs ≤ s.fld Reg.TIM_LIMITS Fld.TIM_LIMITS_LOCK_NS)
  correct (judgeOffset s2 o 16 phaseOk) o 4 none

/-- The time since the parent's frame boundary when a TIME_SYNC arrives, in ns (R284). -/
def sinceBoundary (m : SyncMsg) : Int :=
  (timeDiff (m.t1 * 65536 + m.frac1) (m.boundary * 65536) + m.downPs * 65536 / 1000) / 65536

/-- Does a branch that has never framed come UP with this TIME_SYNC, the eighth (R15, R219, R220). -/
def framesNow (s : State) : Bool :=
  awake s && isBranch s && s.neverFramed && (s.link upLink).st == 7 && decide (8 ≤ (s.link upLink).exchanges + 1)

/-- The frame clock after TIME_SYNC: one that has never framed takes the parent's frame number and phase (R15, R284). -/
def syncClock (m : SyncMsg) (s : State) : FrameClock :=
  if framesNow s then { s.fc with frameNo := m.frame, frameStart := s.fc.now - (sinceBoundary m).toNat, slot := 0 } else s.fc

/-- RTT at the child: twice D, which the parent's DOWN and the asymmetry give (R212, R221) (DEDUCED, log entry 92). -/
def childRtt (s : State) (m : SyncMsg) : Nat := ((2 * m.downPs - toSigned 32 (linkAsym s upLink).toNat) / 1000).toNat

/-- TIME_SYNC at a branch: TIME_REPLY, the servo, the parent's state; the eighth takes the link UP, and gives a branch
that has never framed its frame number and phase (R15, R219, R220, R284, R290) (DEDUCED, log entry 78). -/
def takeSync (s : State) (m : SyncMsg) : State :=
  let k := s.link upLink
  if !isBranch s || !(k.st == 7 || k.st == 8) then s
  else
    let t2 := s.tt.time
    let t1 := m.t1 * 65536 + m.frac1
    let down := m.downPs * 65536 / 1000
    let s1 := sendMsg s upLink 3 (linkMsg 0x15 0 0 (beBytes 2 0 ++ beBytes 8 (t2 / 65536) ++ beBytes 2 (t2 % 65536) ++ beBytes 4 0))
    let o := timeDiff t1 t2 + down
    let ph := if s.neverFramed then (0, 0) else phaseOf s (sinceBoundary m)
    let s2 := s1.modTt fun t => { t with
      syncSeen := some s.fc.now, parent := TimeSt.ofCode (m.tq.toNat % 8), absolute := bitOf m.tq.toNat 3 }
    let s3 := refreshTime (servo s2 o ph.1)
    let s4 := s3.modLink upLink fun k => { k with
      rttNs := childRtt s m,
      exchanges := k.exchanges + 1, frameDiff := if s.neverFramed then 0 else (m.frame : Int) - ph.2 }
    if k.st = 7 ∧ 8 ≤ k.exchanges + 1 then
      linkUp { s4 with neverFramed := false, fc := syncClock m s } upLink
    else s4

/-! ## Stream nodes (R233) -/

/-- STREAM: the grant's data, cut to the grant (DEDUCED, log entry 39). -/
def streamIn (s : State) (l tag : Nat) (bytes : List Byte) : State :=
  match (s.link l).grants.find? fun g => g.1 == tag with
  | none => s
  | some g =>
    let s1 := s.modLink l fun k => { k with grants := k.grants.filter fun h => h.1 != tag }
    let s2 := match inFlight s1 g.2.2 with
      | some x =>
        let data := bytes.take x.len
        complete (hostWrite (clampDesc s1 x (decide (x.len < bytes.length))) x data) x Status.done data.length
      | none => s1
    pumpGrants s2 l

/-- A grant is not used within 10 s. -/
def grantOver (s : State) (l tag : Nat) : State :=
  match (s.link l).grants.find? fun g => g.1 == tag with
  | none => s
  | some g => pumpGrants (completeId (s.modLink l fun k => { k with grants := k.grants.filter fun h => h.1 != tag }) g.2.2
      Status.noResponse) l

/-- The end of a STREAM of the hub. -/
def streamEnds (s : State) (l tag : Nat) (st : Status) : State :=
  match (s.link l).acksDue.find? fun a => a.1 == tag with
  | none => s
  | some a =>
    let s1 := s.modLink l fun k => { k with acksDue := k.acksDue.filter fun b => b.1 != tag }
    match inFlight s1 a.2 with
    | some x => complete s1 x st (if st = Status.done then x.len else 0)
    | none => s1

/-- LNK_POLICY.APPROVE of a quarantined stream node (R232). -/
def approveStream (s : State) (l : Nat) : State :=
  let p := 48 + l
  let n := s.node (nodeKey p 1)
  if n.quarantined then
    attachDone ((s.modNode (nodeKey p 1) fun n => { n with quarantined := false, approvedNow := true }).modLink l
      fun k => { k with quarantined := false }) p 1
  else s

/-- LNK_POLICY.DENY: the stream node is detached and the link refused (R232) (DEDUCED, log entry 56). -/
def denyStream (s : State) (l : Nat) : State :=
  if (s.link l).cls = 3 ∧ (s.link l).st = 8 then refuseLink (streamLost s l 5) l 7 else s

/-! ## Between root and branch -/

/-- Does a link of the root carry a branch that is UP. -/
def fromBranch (s : State) (l : Nat) : Bool := !isBranch s && (s.link l).cls == 2 && ((s.link l).st == 8 || (s.link l).st == 9)

/-- The rules enabled on a branch, as the answers to GUST_ENABLE tell it (GST_HUB_RULES, log entry 55). -/
def hubRules (s : State) (d : Desc) (e : CqEntry) : State :=
  if d.opcode ≠ 0x13 ∨ e.status ≠ Status.done then s
  else
    let a := Reg.GST_HUB_RULES (teaHub d.tea)
    let n := s.fld a Fld.GST_HUB_RULES_COUNT
    s.setFld a Fld.GST_HUB_RULES_COUNT (if byteAt d.args 4 = 1 then Nat.min 65536 (n + e.effLen) else n - e.effLen)

/-- What the root notes of a configuration that its branch has applied: class and granules choose channel and length, shelf
and interval place its records and its buffer (R84, R210, R239, R241, R248) (DEDUCED, log entry 72). -/
def noteRemote (s : State) (tea : Nat) (args : List Byte) : State :=
  forEach ((maskTeas tea 10 args).filter fun t => configurable t && teaEp t != 0) s fun s t =>
    let k := ctxKey s t
    let was := (s.ep k).reserve
    let s1 := (releaseBuf s k).modEp k fun c => { c with
      cls := askedCls c.cls args, intervalUs := askedUs (leAt args 0 4), granules := clampNat 1 16 (byteAt args 5),
      shelf := Nat.min 4095 (leAt args 6 2), enabled := bitOf (byteAt args 8) 0 }
    placeEp (giveBuf s1 k was).1 k

/-- The rules that a branch has taken, and those it has enabled or disabled, as their completions tell the root (R244)
(DEDUCED, log entry 55). -/
def noteRules (s : State) (d : Desc) (e : CqEntry) : State :=
  let ra := fun i => teaHub d.tea * 65536 + leAt d.args 0 2 + i
  if e.status ≠ Status.done then s
  else if d.opcode = 0x12 then
    forEach (List.range e.effLen) s fun s i =>
      { s with branchRules := s.branchRules.insert (ra i) { Rule.reset with bytes := storedRule ((d.data.drop (32 * i)).take 32) } }
  else if d.opcode = 0x13 then
    { s with branchRules := s.branchRules.mapVals fun k r =>
        if ra 0 ≤ k ∧ k < ra (Nat.max 1 (leAt d.args 2 2)) then { r with enabled := byteAt d.args 4 == 1 } else r }
  else s

/-- What the root learns from a branch's completion: the rules that now stand there, or the endpoints' configuration. -/
def cplNotes (s : State) (d : Desc) (e : CqEntry) : State :=
  let s1 := noteRules (hubRules s d e) d e
  if d.opcode = 4 ∧ e.status = Status.done ∧ !bitOf (byteAt d.args 8) 1 then noteRemote s1 d.tea d.args else s1

/-- CPL: the branch's data and then its entry are written, or discarded when nothing waits for them (R216, R228) (DEDUCED,
log entry 79; DEDUCED, log entry 90). -/
def takeCpl (s : State) (l : Nat) (fn : Fn) (sq : Nat) (e : CqEntry) (bytes : List Byte) : State :=
  if !fromBranch s l then s
  else match s.flight.find? fun d => d.link == some l && d.fn == fn && d.sq == sq && d.tag == e.tag && !d.posted && d.result.isNone with
    | some d =>
      let s1 := if e.status = Status.cryptoReject then s.glb 22 1 else s
      completeEntry (hostWrite (cplNotes s1 d e) d bytes) d { e with fetchTime := d.fetchTime }
    | none => lnkCnt s l 9 1

/-- One record of a branch: to its ring at the root; a sample updates a buffer in the reserve tier (R37, R216, R248). -/
def takeRecord (s : State) (gen : Nat) (r : EqRecord) : State :=
  let k := ctxKey s r.tea
  let sample := decide (r.kind = 1)
  let gale := sample && decide (epCls s r.tea = .gale)
  let bound := if 48 ≤ teaPort r.tea then 1200000
    else match gen with
      | 3 => 175000
      | 2 => 1100000
      | _ => 1200000
  let s1 := if sample then
      (reserveSample s k r.data).modEp k fun c => { c with
        epochRecs := c.epochRecs + 1, sample := if c.reserve then some r.data else c.sample,
        sampleCap := if c.reserve then r.capture else c.sampleCap, sampleTq := if c.reserve then r.tq else c.sampleTq }
    else s
  let z := branchSeq s1 r.tea r.seq
  putRecord z.2 { key := k, fn := none, ring := 0, gale := gale, capAt := instantOf s r.capture, bound := bound, virtual := false,
                  rec_ := { r with seq := z.1 } }

/-- FAULT: the branch's late-fault record; the root's copy of the posted write is done with (R92, R216) (DEDUCED, log
entry 79). -/
def takeFault (s : State) (fn : Fn) (r : FqRecord) : State :=
  let s1 := { s with flight := s.flight.filter fun d => !(d.posted && d.fn == fn && d.sq == r.sq && d.tag == r.tag) }
  let r1 := { r with originPf1 := fn == .pf1, copy := false }
  let s2 := fqPut s1 fn r1
  match activeHost s2 with
  | some f => if decide (f = fn) then s2 else fqPut s2 f { r1 with copy := true }
  | none => s2

/-- SENSE at the root: the mirror takes the sample after the rules have been evaluated (R262, R269). -/
def takeSense (s : State) (l tea cap : Nat) (bytes : List Byte) : State :=
  if !fromBranch s l || teaHub tea != l + 1 || (s.subs.find tea).isNone then s
  else
    let s1 := gustEval (gstCnt s 9 1) tea (s.mirror.find tea) (some bytes) cap (instantOf s cap)
    { s1 with mirror := s1.mirror.insert tea bytes }

/-- ACT at a branch: the rule's write at its endpoint, answered by RESULT (R269). -/
def takeAct (s : State) (tea ra : Nat) (gale : Bool) (cap mask : Nat) (data : List Byte) : State :=
  if !isBranch s then s
  else
    let w : RuleWrite := ⟨ra, gale, false, 0, 0, cap, instantOf s cap, treeNs s, s.fc.slot, s.fc.frameNo, true, false, none, []⟩
    let s1 := gstCnt s 10 1
    if teaHub tea = hubOf s then ruleWriteAt s1 tea w mask data else ruleOutcome s1 tea w 1

/-- RESULT at the root: the outcome of an ACT; its delay is measured on the frame clock, and bounded while SENSE and ACT
are Gale endpoints (R33, R37, R269, R273). -/
def takeResult (s : State) (l tea ra outcome at_ : Nat) : State :=
  if !fromBranch s l then s
  else match s.gustActs.find? fun a => a.1 == tea && a.2.ra == ra with
    | some a =>
      let late := a.2.gale && decide (epCls s a.2.trigger = .gale) && decide (epCls s tea = .gale) &&
        decide (a.2.capAt + 300000 < instantOf s at_)
      let s1 := if late then gstCnt (s.glb 1 1) 8 1 else s
      ruleOutcome { s1 with gustActs := s1.gustActs.erase a } tea { a.2 with actTime := some at_, missed := late } outcome
    | none => s

end Sys2Proof.Machine
end

