-- ==== Sys2Proof/Machine/Spw.lean ====
section
/-! DEFINITION. Segment power (R292 to R305): states and pins, the queue and its budget, requests, breaker trips, the
samples of the shunt, the open-sense test. -/
namespace Sys2Proof.Machine

/-! ## States and pins (R292 to R294) -/

/-- Is SPW_EN high: the segment is RAMPING or ON. -/
def enHigh (s : State) (p : Nat) : Bool := powerSt s p == 2 || powerSt s p == 3

/-- SPW_SLEW falls (R292). -/
def slewLow (s : State) (p : Nat) : State :=
  if (s.spw p).slew then drive (s.modSpw p fun w => { w with slew := false }) (.spwSlew p) false else s

/-- A segment's power enters a state: leaving RAMPING and ON for another drops SPW_EN, leaving ON unpowers the segment
(R294). -/
def spwTo (s : State) (p st : Nat) : State :=
  if powerSt s p = st then s
  else
    let s1 := (s.setFld (Reg.SPW_STATUS p) Fld.SPW_STATUS_STATE st).modSpw p fun w => { w with stateFrame := s.fc.frameNo }
    let s2 := if enHigh s p && !enHigh s1 p then drive (slewLow s1 p) (.spwEn p) false else s1
    if powerSt s p = 3 then unpowerSeg s2 p else s2

/-- Descriptors that wait for a segment to reach ON complete with a status (R299). -/
def endWaiters (s : State) (p : Nat) (st : Status) : State :=
  let l := (s.spw p).waiters
  forEach l (s.modSpw p fun w => { w with waiters := [] }) fun s d => completeId s d st

/-- Advance an SPW counter (R324). -/
def spwCnt (s : State) (k : Nat) : State := s.bump (Reg.SPW_CNT k) 1

/-! ## Breaker points (R295, R296) -/

/-- The points of a segment in use: point number, current in 50 mA units, samples of its time (R295). -/
def pointsAt (s : State) (reg : Nat → Nat) : List (Nat × Nat × Nat) :=
  ((List.range 8).map fun k =>
    let v := bitsOf (s.rd (reg (k / 2))).toNat (16 * (k % 2)) 16
    (k, bitsOf v 8 8, bitsOf v 0 5 * 4 ^ bitsOf v 5 3)).filter fun x => x.2.1 != 0 && x.2.2 != 0

/-- Main points. -/
def mainPoints (s : State) (p : Nat) : List (Nat × Nat × Nat) := pointsAt s (Reg.SPW_CURVE p)

/-- Inrush points. -/
def inrushPoints (s : State) (p : Nat) : List (Nat × Nat × Nat) := pointsAt s (Reg.SPW_INRUSH p)

/-- The declared inrush of a segment in 50 mA units: its highest inrush point, else its highest main point, else I_INST
(R303). -/
def declaredInrush (s : State) (p : Nat) : Nat :=
  let top := fun (l : List (Nat × Nat × Nat)) => l.foldl (fun a x => Nat.max a x.2.1) 0
  if !(inrushPoints s p).isEmpty then top (inrushPoints s p)
  else if !(mainPoints s p).isEmpty then top (mainPoints s p)
  else s.fld (Reg.SPW_CTRL p) Fld.SPW_CTRL_I_INST * 2

/-! ## The queue and its budget (R303) -/

/-- Segments in a power state, rising. -/
def inPower (s : State) (st : Nat) : List Nat := (List.range 48).filter fun p => powerSt s p == st

/-- The inrush the RAMPING segments declare, in 50 mA units. -/
def inrushUsed (s : State) : Nat := (inPower s 2).foldl (fun a p => a + declaredInrush s p) 0

/-- MAX_INRUSH in 50 mA units. -/
def inrushLimit (s : State) : Nat := s.fld Reg.SPW_BUDGET Fld.SPW_BUDGET_MAX_INRUSH * 10

/-- The queue in its order: Gale-bearing segments first, each class as it arrived, requests of one instant in ascending
port order. -/
def powerOrder (s : State) : List Nat :=
  let q := sortBy (fun a b => decide ((s.spw a).askedAt < (s.spw b).askedAt) ||
    ((s.spw a).askedAt == (s.spw b).askedAt && decide (a < b))) s.pw.queue
  (q.filter fun p => galeBearing s p) ++ q.filter fun p => !galeBearing s p

/-- May a segment start to ramp now. -/
def budgetAllows (s : State) (p : Nat) : Bool :=
  let d := declaredInrush s p
  let n := (inPower s 2).length
  if inrushLimit s < d then n == 0
  else decide (n < s.fld Reg.SPW_BUDGET Fld.SPW_BUDGET_MAX_RAMPING) && decide (inrushUsed s + d ≤ inrushLimit s)

/-- May ramps start at all: no Squall, the SPW block not held, the chip neither in Vault nor in Recovery (R300, R306,
R315). -/
def rampsAllowed (s : State) : Bool := !squallOn s && !isHeld s 11 && !s.pw.off && s.pw.recovery == 0

/-- A segment starts RAMPING: SPW_EN and SPW_SLEW rise, its counts start afresh (R292, R296). -/
def startRamp (s : State) (p : Nat) : State :=
  let s1 := spwCnt (s.modPw fun w => { w with queue := dropNat w.queue p }) 10
  let s2 := if (s1.spw p).waited then spwCnt s1 11 else s1
  let s3 := (spwTo s2 p 2).modSpw p fun w => { w with
    runs := [], instRun := 0, enAt := s.fc.now, slew := true, recent := [], msSum := 0, msCount := 0,
    lastMean := none, waited := false }
  drive (drive s3 (.spwEn p) true) (.spwSlew p) true

/-- Start ramps from the head of the queue while the budget allows. -/
def rampNext : Nat → State → State
  | 0, s => s
  | n + 1, s =>
    match (powerOrder s).head? with
    | some p => if budgetAllows s p then rampNext n (startRamp s p) else s
    | none => s

/-- Look at the queue: what can start does, the rest has waited for budget. -/
def runQueue (s : State) : State :=
  if rampsAllowed s then
    let s1 := rampNext 48 s
    forEach s1.pw.queue s1 fun s p => s.modSpw p fun w => { w with waited := true }
  else s

/-- A segment joins the queue. -/
def enqueue (s : State) (p : Nat) : State :=
  ((spwCnt (spwTo s p 1) 9).modPw fun w => { w with queue := addNat w.queue p }).modSpw p fun w => { w with askedAt := s.fc.now }

/-- Segments join the queue at one instant, in ascending order, and what can start does. -/
def enqueueAll (s : State) (ps : List Nat) : State := runQueue (forEach ps s enqueue)

/-! ## Requests (R299, R300) -/

/-- Power is requested for a segment. -/
def powerOn (s : State) (p : Nat) : State :=
  match powerSt s p with
  | 0 | 5 => enqueueAll s [p]
  | 4 => enqueueAll (spwCnt s 4) [p]
  | _ => s

/-- Power is removed from a segment. -/
def powerOff (s : State) (p : Nat) : State :=
  let s1 := spwTo (s.modPw fun w => { w with queue := dropNat w.queue p }) p 0
  runQueue (endWaiters s1 p Status.withdrawn)

/-- The live SPW_CTRL.ON changes: a rise requests power, a fall removes it, an unchanged bit has no effect (R299). -/
def onChanged (s : State) (p : Nat) (was : Bool) : State :=
  let is := s.flag (Reg.SPW_CTRL p) Fld.SPW_CTRL_ON
  if is && !was then powerOn s p else if was && !is then powerOff s p else s

/-- Every segment is switched off at once and the queue is discarded (R292, R300, R320). -/
def allPowerOff (s : State) : State :=
  forEach (List.range 48) (s.modPw fun w => { w with queue := [] }) fun s p =>
    endWaiters (spwTo s p 0) p Status.withdrawn

/-! ## Trips (R297, R298) -/

/-- SEG_POWER_TRIP data. -/
def tripData (s : State) (cause point result retry iTrip delay : Nat) : List Byte :=
  leBytes 1 cause ++ leBytes 1 point ++ leBytes 1 result ++ leBytes 1 retry ++ leBytes 2 iTrip ++ leBytes 2 delay ++
    leBytes 4 s.fc.frameNo ++ leBytes 4 0

/-- The newest sample of a segment, in 10 mA units. -/
def lastSampleOf (s : State) (p : Nat) : Nat := (s.spw p).recent.getLast?.getD 0

/-- Does a trip latch: ACTION is OFF, the switch-off of a suspect segment, or a sixth trip (R297, R302). -/
def tripLatches (s : State) (p cause : Nat) : Bool :=
  cause == 5 || !s.flag (Reg.SPW_CTRL p) Fld.SPW_CTRL_ACTION ||
    decide (5 ≤ s.fld (Reg.SPW_STATUS p) Fld.SPW_STATUS_RETRIES)

/-- The delay before retry n in seconds (R297). -/
def backoffS (s : State) (n : Nat) : Nat := Nat.min 60 (s.fld Reg.SPW_BUDGET Fld.SPW_BUDGET_BACKOFF_S * 2 ^ (n - 1))

/-- A breaker trips a segment. Causes: 1 CURVE, 2 INRUSH, 3 INSTANT, 5 SUSPECT_OFF (DEDUCED, log entry 75). -/
def tripSeg (s : State) (p cause point : Nat) : State :=
  let i := lastSampleOf s p
  let latch := tripLatches s p cause
  let n := s.fld (Reg.SPW_STATUS p) Fld.SPW_STATUS_RETRIES + 1
  let s1 := if cause ≤ 3 then spwCnt s (cause - 1) else s
  let s2 := (s1.glb 19 1).modSpw p fun w => { w with trips := w.trips + 1 }
  let s3 := s2.modPw fun w => { w with queue := dropNat w.queue p }
  let s4 := if latch then spwInt (spwCnt (spwTo s3 p 5) 5) 1
    else ((spwTo s3 p 4).setFld (Reg.SPW_STATUS p) Fld.SPW_STATUS_RETRIES n).modSpw p fun w =>
      { w with backoffUntil := s.fc.now + backoffS s n * 1000000000 }
  let data := tripData s cause point (if latch then 2 else 1) (if latch then 0 else n) i (if latch then 0 else backoffS s n)
  runQueue (endWaiters (sysEvent (spwInt s4 0) 5 (portTea s p) data) p Status.stalled)

/-- A Squall sheds a segment: reported, not counted as a trip, the retry count kept (R300, R306). -/
def shedSeg (s : State) (p : Nat) : State :=
  if enHigh s p || powerSt s p = 4 then
    let i := lastSampleOf s p
    let s1 := (spwCnt (spwTo s p 6) 3).modPw fun w => { w with squallShed := setBits w.squallShed p 1 1 }
    endWaiters (sysEvent s1 5 (portTea s p) (tripData s 4 0xFF 3 0 i 0)) p Status.stalled
  else s

/-! ## Samples of the shunt (R293, R296) -/

/-- Is the inrush window of a segment still open. -/
def inInrush (s : State) (p : Nat) : Bool :=
  decide (s.fc.now < (s.spw p).enAt + s.fld (Reg.SPW_CTRL p) Fld.SPW_CTRL_T_INRUSH * 1000000)

/-- The runs of 16 points, main points first. -/
def runsOf (w : Spw) : List Nat := w.runs.take 16 ++ List.replicate (16 - w.runs.length) 0

/-- Advance the counts of the points in use with one sample (DEDUCED, log entry 75). -/
def advanceRuns (runs : List Nat) (base ma10 : Nat) (pts : List (Nat × Nat × Nat)) : List Nat :=
  pts.foldl (fun l x => l.set (base + x.1) (if x.2.1 * 5 < ma10 then l.getD (base + x.1) 0 + 1 else 0)) runs

/-- The first point whose count has reached its time. -/
def reached (runs : List Nat) (base : Nat) (pts : List (Nat × Nat × Nat)) : Option Nat :=
  (pts.find? fun x => decide (x.2.2 ≤ runs.getD (base + x.1) 0)).map (·.1)

/-- I_NOW, I_PEAK and the values of the power sample take one sample (R293, R323) (DEDUCED, log entry 75). -/
def noteSample (s : State) (p ma10 : Nat) : State :=
  let s1 := s.modSpw p fun w => { w with
    recent := (w.recent ++ [ma10]).drop (w.recent.length - 7), pkSince := Nat.max w.pkSince ma10,
    sumSince := w.sumSince + ma10, cntSince := w.cntSince + 1 }
  let l := (s1.spw p).recent
  let s2 := s1.setFld (Reg.SPW_STATUS p) Fld.SPW_STATUS_I_NOW (l.foldl (· + ·) 0 / Nat.max 1 l.length)
  s2.setFld (Reg.SPW_STATUS p) Fld.SPW_STATUS_I_PEAK (Nat.max ma10 (s2.fld (Reg.SPW_STATUS p) Fld.SPW_STATUS_I_PEAK))

/-- Is the open-sense test of a segment's bank injecting its current: the 64 µs after the 64 µs of its first mean, from
the second boundary of the frame clock plus 100 ms for each bank before it (R301) (DEDUCED, log entry 75). -/
def injecting (s : State) (p : Nat) : Bool :=
  let at_ := s.fc.frameNo % 1000 * 1000000 + (s.fc.now - s.fc.frameStart)
  let from_ := p / 8 * 100000000 + 64000
  s.flag Reg.SPW_SENSE_CFG Fld.SPW_SENSE_CFG_TEST_EN && decide (from_ ≤ at_) && decide (at_ < from_ + 64000)

/-- The counts of the breaker tests take one sample, and a test that is met trips the segment (R296). The curves of a
suspect segment are suspended (R302); while the open-sense test injects its current, curve counts stand (R301). -/
def testSample (s : State) (p ma10 : Nat) : State :=
  let w := s.spw p
  let inst := if s.fld (Reg.SPW_CTRL p) Fld.SPW_CTRL_I_INST * 10 < ma10 then w.instRun + 1 else 0
  let suspect := s.flag (Reg.SPW_STATUS p) Fld.SPW_STATUS_SUSPECT
  let early := inInrush s p
  let base := if early then 8 else 0
  let pts := if suspect then [] else if early then inrushPoints s p else mainPoints s p
  let runs := advanceRuns (if suspect then List.replicate 16 0 else runsOf w) base ma10 pts
  let s1 := s.setSpw p { w with runs := if injecting s p then w.runs else runs, instRun := inst }
  if 2 ≤ inst then tripSeg s1 p 3 0xFF
  else if injecting s p then s1
  else match reached runs base pts with
    | some k => tripSeg s1 p (if early then 2 else 1) k
    | none => s1

/-- The 1 ms means of a segment that is ON, in 0.5 mA: a change of 8 mA between two successive ones is a step or a
drop (R136, R140, R293) (DEDUCED, log entry 75). -/
def meanSample (s : State) (p ma10 : Nat) : State :=
  let w := s.spw p
  if powerSt s p ≠ 3 then s
  else if w.msCount + 1 < 125 then s.setSpw p { w with msSum := w.msSum + ma10, msCount := w.msCount + 1 }
  else
    let m := (w.msSum + ma10) * 20 / 125
    let s1 := s.setSpw p { w with msSum := 0, msCount := 0, lastMean := some m }
    match w.lastMean with
    | some q => if q + 16 ≤ m then stepSeen s1 p else if m + 16 ≤ q then dropSeen s1 p else s1
    | none => s1

/-- One sample of a segment's shunt (DEDUCED, log entry 75). -/
def sampleSeg (s : State) (p ma10 : Nat) : State :=
  let s1 := noteSample s p ma10
  if enHigh s1 p then meanSample (testSample s1 p ma10) p ma10 else s1

/-- A write to a curve register restarts the counts of the two points it holds, whatever it writes (R296, R300). -/
def curveWritten (s : State) (p base k : Nat) : State :=
  s.modSpw p fun w => { w with runs := (List.range 2).foldl (fun l h => l.set (base + 2 * k + h) 0) (runsOf w) }

/-! ## The end of a ramp -/

/-- A segment reaches ON at the later of RAMP and T_INRUSH (R293, R294). -/
def reachOn (s : State) (p : Nat) : State :=
  let s1 := slewLow (spwTo s p 3) p
  let s2 := s1.modSpw p fun w => { w with
    onAt := s.fc.now, msSum := 0, msCount := 0, lastMean := none }
  let s3 := endWaiters s2 p Status.done
  let s4 := if s3.pw.queue.isEmpty && (inPower s3 2).isEmpty then spwInt s3 3 else s3
  let s5 := if (s4.seg p).st = 1 && segWanted s4 p then resumeSeg s4 p else s4
  runQueue s5

/-- The instant at which a ramp ends. -/
def rampEnd (s : State) (p : Nat) : Nat :=
  (s.spw p).enAt + Nat.max (s.fld (Reg.SPW_CTRL p) Fld.SPW_CTRL_RAMP * 500000)
    (s.fld (Reg.SPW_CTRL p) Fld.SPW_CTRL_T_INRUSH * 1000000)

/-! ## Open-sense detection (R301, R302) -/

/-- SENSE_SUSPECT data. -/
def suspectData (s : State) (p kind : Nat) (now off : Bool) (shift : Int) : List Byte :=
  leBytes 1 kind ++ leBytes 1 (b2n now) ++ leBytes 1 (p / 8) ++ leBytes 1 (b2n off) ++ leBytes 4 (ofSigned 32 shift) ++
    leBytes 4 s.fc.frameNo ++ leBytes 4 0

/-- SPW_BANK.RTN_SUSPECT of a bank: its return is suspected while its segments are suspect for it. -/
def rtnShow (s : State) (b : Nat) : State :=
  s.setFlag (Reg.SPW_BANK b) Fld.SPW_BANK_RTN_SUSPECT
    ((List.range 8).any fun i => s.flag (Reg.SPW_STATUS (8 * b + i)) Fld.SPW_STATUS_SUSPECT && (s.spw (8 * b + i)).badKind == 2)

/-- The suspicion of a segment changes. -/
def suspectTo (s : State) (p kind : Nat) (now : Bool) (shift : Int) : State :=
  let off := now && s.flag Reg.SPW_SENSE_CFG Fld.SPW_SENSE_CFG_SUSPECT_OFF
  let s1 := s.setFlag (Reg.SPW_STATUS p) Fld.SPW_STATUS_SUSPECT now
  let s2 := sysEvent (spwInt s1 2) 6 (portTea s p) (suspectData s p kind now off shift)
  let s3 := s2.modSpw p fun w => { w with runs := [] }
  if off && decide (1 ≤ powerSt s3 p) && decide (powerSt s3 p ≤ 4) then tripSeg s3 p 5 0xFF else s3

/-- One test's signature of a segment: 0 clean, 1 broken sense wire, 2 broken bank return. -/
def judgeSense (s : State) (p sig : Nat) (shift : Int) : State :=
  let w := s.spw p
  let suspect := s.flag (Reg.SPW_STATUS p) Fld.SPW_STATUS_SUSPECT
  if sig = 0 then
    let n := w.cleanTests + 1
    let s1 := s.setSpw p { w with badTests := 0, cleanTests := n }
    if suspect && decide (3 ≤ n) then suspectTo s1 p w.badKind false shift else s1
  else
    let n := if w.badKind = sig ∨ suspect then w.badTests + 1 else 1
    let s1 := s.setSpw p { w with badTests := n, cleanTests := 0, badKind := if suspect then w.badKind else sig }
    if !suspect && decide (2 ≤ n) then
      suspectTo (if sig = 1 then spwCnt s1 7 else if p % 8 = 0 then spwCnt s1 8 else s1) p sig true shift
    else s1

/-- The test of one bank: inputs of RAMPING segments are not tested. -/
def senseTest (s : State) (b : Nat) (shifts : List Int) : State :=
  let ps := (List.range 8).map fun i => (8 * b + i, shifts.getD i 0)
  let tested := ps.filter fun x => powerSt s x.1 != 2
  let limit : Int := (s.fld Reg.SPW_SENSE_CFG Fld.SPW_SENSE_CFG_OPEN_MV * 1000 : Nat)
  let hit := fun (x : Nat × Int) => decide (limit ≤ x.2)
  let bank := decide (4 ≤ tested.length) && tested.all hit
  let s1 := spwCnt s 6
  let least := tested.foldl (fun (a : Option Int) x => match a with
    | some m => some (if x.2 < m then x.2 else m)
    | none => some x.2) none
  let s2 := match least with
    | some m => s1.setFld (Reg.SPW_BANK b) Fld.SPW_BANK_SHIFT_UV (ofSigned 16 (satSigned 16 m))
    | none => s1
  let s3 := forEach (if bank then ps else tested) s2 fun s x =>
    judgeSense s x.1 (if bank then 2 else if hit x then 1 else 0) x.2
  rtnShow s3 b

end Sys2Proof.Machine
end

