-- ==== Sys2Proof/Machine/Power.lean ====
section
/-! DEFINITION. The hub's own supply: the Squall (R306 to R310), chip power states and their domains (R311 to R315),
Lull and its watch (R316 to R319), Vault (R320), heat (R321, R322), and what a loss of every domain but AO leaves. -/
namespace Sys2Proof.Machine

/-! ## What stays without power -/

/-- The registers of the AO domain that hold their values (R412, R320), and those of the service port, which the AO core
serves. -/
def aoWords (regs : Table Word) : Table Word :=
  regs.keep fun a _ => a == Reg.PWR_THERMAL || a == Reg.PWR_VAULT_CFG || (decide (0x8000 ≤ a) && decide (a < 0x9000))

/-- The flash after an interruption: an erase under way is half done, Folio erases go on at the next start (R350, R376,
R387, R414). A schedule is in SRAM (R366). -/
def flashStopped (s : State) : Nvm :=
  let n := (abortErases s).nvm
  let ahead := n.jobs.filter fun j => match j with
    | .folioAhead _ | .folioErase _ => true
    | _ => false
  { n with jobs := ahead, armedT := none, pendingMode := none }

/-- The Folio after a loss of SRAM: what is on flash, and the entries that AO holds (R379, R384). -/
def folioKept (f : Folio) : Folio :=
  { f with staging := [], slots := [], overflow := none, closed := false, sealing := none, sealDone := false }

/-- Every domain but AO has lost its power: the flash, the entries AO holds, the service port and the AO registers
stay, the rest is as after power-on reset (DEDUCED, log entry 70). -/
def powerLost (s : State) : State :=
  let z := State.reset
  let ao := { z with regs := aoWords s.regs }.setFld Reg.PWR_THERMAL Fld.PWR_THERMAL_LEVEL 0
  { z with
    fc := s.fc, role := s.role, regs := ao.regs, nvm := flashStopped s, folio := folioKept s.folio, port := s.port,
    sram := s.sram, freeCtr := s.freeCtr, out := s.out, pending := s.pending,
    pw := { z.pw with off := s.pw.off, recovery := s.pw.recovery, vaultAt := s.pw.vaultAt, coolSince := s.pw.coolSince,
                      squallAt := s.pw.squallAt, thermalData := s.pw.thermalData } }

/-- Does the management core run: its image has started, and it is not stopped (R361, R415, R340). -/
def mgmtRuns (s : State) : Bool := decide (s.bootAt ≤ s.fc.now) && awake s && s.pw.recovery != 3

/-! ## Domains (R311, R314) -/

/-- PWR_DOM of a domain that has woken; the length of the wake is a free value. -/
def domainWoke (s : State) (d : Nat) : State :=
  let z := s.fresh
  if s.flag (Reg.PWR_DOM d) Fld.PWR_DOM_FAULT then s
  else z.2.wr (Reg.PWR_DOM d) (BitVec.ofNat 32 (31 + 65536 * (Config.wakeUs z.1).toNat))

/-- Domains wake. -/
def domainsWoke (s : State) (ds : List Nat) : State :=
  forEach ds (s.modPw fun w => { w with domRetried := [] }) domainWoke

/-- A domain is in retention, or powered off. -/
def domainRests (s : State) (d : Nat) (retention : Bool) : State :=
  if s.flag (Reg.PWR_DOM d) Fld.PWR_DOM_FAULT then s
  else s.wr (Reg.PWR_DOM d) (BitVec.ofNat 32 (if retention then 49 else 0))

/-- Is no link of a quad UP. -/
def quadIdle (s : State) (q : Nat) : Bool := (List.range 4).all fun i => !((s.link (4 * q + i)).st == 8 || (s.link (4 * q + i)).st == 9)

/-- Is a quad powered off in A1 or Lull. -/
def quadOff (s : State) (q : Nat) : Bool :=
  (chipState s == 1 || chipState s == 2) && !s.flag (Reg.PWR_DOM (4 + q)) Fld.PWR_DOM_ON

/-! ## Chip states (R312, R313, R316, R320) -/

/-- PWR_STATUS.STATE changes (R312); the holder of the port's policy follows (R333, R344). -/
def chipTo (s : State) (st : Nat) : State :=
  if chipState s = st then s else policyCheck (pwrInt (s.setFld Reg.PWR_STATUS Fld.PWR_STATUS_STATE st) 0)

/-- Links that are UP or changing rate. -/
def upLinks (s : State) : List Nat := (List.range 17).filter fun l => (s.link l).st == 8 || (s.link l).st == 9

/-- The rate a link had before A1 or THROTTLE took it down is kept once. -/
def saveRate (s : State) (l : Nat) : State :=
  if (s.pw.savedRates.find l).isSome then s
  else s.modPw fun w => { w with savedRates := w.savedRates.insert l (s.link l).rate }

/-- A link goes to rate 1 and to lane 0 (R313, R222) (DEDUCED, log entry 48). -/
def linkToA1 (s : State) (l : Nat) : State :=
  let s1 := saveRate s l
  let s2 := putLlctl s1 l 4 (beBytes 1 1)
  let s3 := s2.modLink l fun k => { k with active := 1, failed := setBits (laneMask k.width) 0 1 0, locked := 1, lpLocked := 0, rejoinAt := none }
  laneShow (if (s3.link l).rate = 1 then s3 else startRateChange s3 l 1) l

/-- A link returns to its rate; while THROTTLE holds, to rate 2 at most (R313, R321). -/
def linkRestored (s : State) (kv : Nat × Nat) : State :=
  let r := if s.pw.halved then Nat.min 2 kv.2 else kv.2
  let st := (s.link kv.1).st
  if (st = 8 ∨ st = 9) ∧ (s.link kv.1).rate < r then startRateChange s kv.1 r else s

/-- Links return to their rates; the rates stay noted while THROTTLE holds them down (DEDUCED, log entry 48). -/
def restoreLinks (s : State) : State :=
  let s1 := forEach (s.pw.savedRates.map (·.1)) (forEach s.pw.savedRates s linkRestored) lanesBack
  if s.pw.halved then s1 else s1.modPw fun w => { w with savedRates := [] }

/-- Begin the transition that TARGET asks for: ENTERING for A1, Lull and Vault, LEAVING for A0 (R312, R313, R316, R320). -/
def beginTarget (s : State) (t : Nat) : State :=
  let s0 := s.modPw fun w => { w with target := none, going := some t }
  match t with
  | 0 => restoreLinks (chipTo s0 5)
  | 1 => forEach (upLinks s) ((chipTo s0 4).bump (Reg.PWR_CNT 7) 1) linkToA1
  | 2 => chipTo s0 4
  | _ =>
    let s1 := allPowerOff (chipTo s0 4)
    let s2 := forEach (upLinks s1) s1 fun s l => sendGoodbye s l
    folDrain (folPost s2 0x12 4 0 [])

/-- A TARGET is acted on now, or at the end of the transition in progress, or when the block is released (R312, R315). -/
def wantTarget (s : State) (t : Nat) : State :=
  if s.pw.going.isSome || isHeld s 4 then s.modPw fun w => { w with target := some t }
  else if chipState s = t then s.modPw fun w => { w with target := none }
  else beginTarget s t

/-- What waits for the end of a transition, or for the release of the block. -/
def targetWaiting (s : State) : State :=
  match s.pw.target with
  | some t => wantTarget s t
  | none => s

/-- Is every segment suspended, powerless or disabled, and every fetched descriptor complete (R316) (DEDUCED, log
entry 47). -/
def lullReady (s : State) : Bool :=
  s.flight.isEmpty && s.segs.all fun kv => decide (48 ≤ kv.1) || !(kv.2.st == 3 || kv.2.st == 5 || kv.2.st == 2)

/-- TEA of a watch entry. -/
def watchTea (e : BitVec 128) : Nat := bitsOf e.toNat 0 24

/-- VALID of a watch entry. -/
def watchValid (e : BitVec 128) : Bool := bitOf e.toNat 31

/-- The latest sample of each watched endpoint stands before the first watch cycle (R317). -/
def watchStart (s : State) : State :=
  let prev := s.pw.watch.filterMap fun kv => (s.ep (teaKey (watchTea kv.2))).sample.map fun b => (kv.1, b)
  s.modPw fun w => { w with watchPrev := prev }

/-- The chip is off but for AO (R320, R322). -/
def chipOff (s : State) : State :=
  let s1 := powerLost (allPowerOff s)
  srcEnable (s1.modPw fun w => { w with off := true, vaultAt := s.fc.now, going := none, target := none })

/-- The transition in progress ends (R312 to R320) (DEDUCED, log entry 47). -/
def transitionEnd (s : State) : State :=
  let back := fun (s : State) => s.modPw fun w => { w with going := none, wakeAt := none }
  match s.pw.going with
  | none => s
  | some 0 =>
    let woke := (if s.pw.wakeAt.isSome then [1, 2] else []) ++ (List.range 4).filterMap fun q =>
      if s.flag (Reg.PWR_DOM (4 + q)) Fld.PWR_DOM_ON then none else some (4 + q)
    let s1 := restoreLinks (chipTo (domainsWoke (back s) woke) 0)
    targetWaiting (forEach (upLinks s1) s1 pumpLink)
  | some 1 =>
    let idle := (List.range 4).filter fun q => quadIdle s q
    targetWaiting (chipTo (forEach idle (back s) fun s q => domainRests s (4 + q) false) 1)
  | some 2 =>
    if !lullReady s then s
    else
      let s1 := watchStart ((back s).modPw fun w => { w with lullAt := s.fc.now })
      let s2 := domainRests (domainRests s1 1 true) 2 true
      targetWaiting (chipTo (s2.bump (Reg.PWR_CNT 0) 1) 2)
  | some _ => chipOff s

/-- A presence on a quad that is powered off returns the hub to A0 with cause LINK (R313, R319). -/
def quadWake (s : State) (l : Nat) : State :=
  if l < 16 ∧ quadOff s (l / 4) = true then
    if chipState s = 2 then lullWake s 3
    else beginTarget (s.setFld Reg.PWR_STATUS Fld.PWR_STATUS_WAKE_CAUSE 3) 0
  else s

/-! ## A domain that does not wake (R314) -/

/-- The chip enters Recovery with a cause: at most AO and MGT are powered (R340). -/
def enterRecovery (s : State) (cause : Nat) : State :=
  let s1 := (powerLost (allPowerOff s)).modPw fun w => { w with recovery := cause, off := false, going := none, target := none }
  let s2 := (s1.setFld Reg.PDP_RECOVERY Fld.PDP_RECOVERY_CAUSE cause).setFlag Reg.PDP_RECOVERY Fld.PDP_RECOVERY_ACTIVE true
  let s3 := (s2.setFlag Reg.PDP_RECOVERY Fld.PDP_RECOVERY_MAIN_RAIL s.port.aoRail).setFlag Reg.PDP_STATUS Fld.PDP_STATUS_RECOVERY true
  policyCheck (srcEnable s3)

/-- A step of a domain's wake is not ready within 4 times its maximum: one retry, then the domain's fault. -/
def domainLate (s : State) (d step : Nat) : State :=
  if d = 0 || s.flag (Reg.PWR_DOM d) Fld.PWR_DOM_FAULT then s
  else if !memNat s.pw.domRetried d then
    (s.bump (Reg.PWR_CNT 6) 1).modPw fun w => { w with domRetried := addNat w.domRetried d }
  else
    let word := BitVec.ofNat 32 (2 ^ 31 + step % 4 * 2 ^ 29)
    if d ≤ 2 then (enterRecovery s 3).wr (Reg.PWR_DOM d) word
    else
      let s1 := s.wr (Reg.PWR_DOM d) word
      let s2 := if 8 ≤ d then forEach (List.range 8) s1 fun s i => disableSeg s (8 * (d - 8) + i)
        else if 4 ≤ d then forEach (List.range 4) s1 fun s i =>
          if (s.link (4 * (d - 4) + i)).st = 0 then s else linkOff s (4 * (d - 4) + i)
        else s1
      pwrInt (folPost s2 0x14 4 2 (leBytes 1 d ++ leBytes 1 step)) 5

/-! ## The Squall (R306 to R310) -/

/-- SQUALL goes out at once, ahead of everything, on a powered segment (R185, R306). -/
def squallToken (s : State) (p : Nat) : State := sendToken (endWindow s p) p Tok.squall 255 (beBytes 4 s.fc.frameNo)

/-- The ports that take the token: powered segments, and stream nodes whose link is UP. -/
def squallPorts (s : State) : List Nat :=
  if s.pw.clocksStopped then []
  else (List.range 48).filter (fun p => decide (2 ≤ (s.seg p).st)) ++
    ((List.range 16).filter fun l => (s.link l).st == 8 && (s.link l).cls == 3).map (· + 48)

/-- The Squall latches: steps 1 and 2 (R306, R307, R309). In Vault only the pin is driven (DEDUCED, log entry 76). -/
def squallLatches (s : State) : State :=
  if s.pw.off then drive (s.modPw fun w => { w with squallAt := some s.fc.now }) .squallOut true
  else
    let lull := chipState s == 2
    let noSeal := !mgmtRuns s || s.pw.recovery != 0
    let s1 := ((lullWake s 5).modPw fun w => { w with
      squallAt := some s.fc.now, squallFrame := s.fc.frameNo, squallTime := treeNs s, squallShed := 0, squallLull := lull,
      squallNoSeal := noSeal }).setFlag Reg.PWR_STATUS Fld.PWR_STATUS_SQUALL true
    let s2 := s1.wr Reg.PWR_SQUALL_STATUS (BitVec.ofNat 32
      (2 ^ 31 + 2 ^ 28 + s1.fld Reg.PWR_SQUALL_STATUS Fld.PWR_SQUALL_STATUS_SEAL_US))
    let s3 := forEach (squallPorts s2) (drive (pwrInt (s2.glb 18 1) 2) .squallOut true) squallToken
    let s4 := abortErases (if noSeal then s3 else sealStart s3 false)
    let s5 := hubEvent s4 0x0D (squallData s4 1 0 lull noSeal)
    portSquall s5

/-- Step 4: the segments of SPW_SHED are switched off. -/
def squallSheds (s : State) : State :=
  let set := (s.rd (Reg.SPW_SHED 0)).toNat + (s.rd (Reg.SPW_SHED 1)).toNat % 65536 * 2 ^ 32
  forEach ((List.range 48).filter fun p => bitOf set p) s shedSeg

/-- The Squall ends (R310, R385). -/
def squallEnds (s : State) : State :=
  if s.pw.off then drive (s.modPw fun w => { w with squallAt := none }) .squallOut false
  else
    let ms := (s.fc.now - s.pw.squallAt.getD s.fc.now) / 1000000
    let s1 := (drive s .squallOut false).setFlag Reg.PWR_STATUS Fld.PWR_STATUS_SQUALL false
    let s2 := (s1.setFlag Reg.PWR_SQUALL_STATUS Fld.PWR_SQUALL_STATUS_LATCHED false).setFlag Reg.PWR_SQUALL_STATUS
      Fld.PWR_SQUALL_STATUS_VIN_LOW false
    let s3 := enqueueAll (s2.modPw fun w => { w with squallAt := none }) (inPower s2 6)
    let us := if s.flag Reg.PWR_SQUALL_STATUS Fld.PWR_SQUALL_STATUS_SEALED then
      s.fld Reg.PWR_SQUALL_STATUS Fld.PWR_SQUALL_STATUS_SEAL_US else 0
    let s4 := hubEvent s3 0x0D (squallData s3 3 us s.pw.squallLull s.pw.squallNoSeal)
    let s5 := folPost (folReopen s4) 0x11 4 0 (leBytes 4 ms)
    srcEnable (flashKick (pwrInt (s5.bump (Reg.PWR_CNT 3) 1) 3))

/-! ## The watch list (R317, R318) -/

/-- PWR_LULL_STATUS.ENTRIES. -/
def watchCount (s : State) : State :=
  s.setFld Reg.PWR_LULL_STATUS Fld.PWR_LULL_STATUS_ENTRIES ((s.pw.watch.filter fun kv => watchValid kv.2).length)

/-- PWR_WATCH_DATA0 to 3 as one entry. -/
def watchData (s : State) : BitVec 128 :=
  BitVec.ofNat 128 ((List.range 4).foldl (fun a k => a + (s.rd (Reg.PWR_WATCH_DATA k)).toNat * 2 ^ (32 * k)) 0)

/-- Store PWR_WATCH_DATA into an entry. -/
def storeWatch (s : State) (i : Nat) : State :=
  watchCount (s.modPw fun w => { w with watch := w.watch.put i 0 (watchData s) })

/-- Load an entry into PWR_WATCH_DATA. -/
def loadWatch (s : State) (i : Nat) : State :=
  let e := (s.pw.watch.getD i 0).toNat
  forEach (List.range 4) s fun s k => s.wr (Reg.PWR_WATCH_DATA k) (BitVec.ofNat 32 (e / 2 ^ (32 * k)))

/-- Does a watch entry match a sample: the operand and comparison of R261 (R317) (DEDUCED, log entry 47). -/
def watchMatches (s : State) (e : BitVec 128) (i : Nat) (bytes : List Byte) : Bool :=
  let v := e.toNat
  let op := bitsOf v 24 3
  let read := fun b => operand b (bitsOf v 32 8 % 64) (bitOf v 30) (bitsOf v 48 16)
  let prev := (s.pw.watchPrev.find i).bind read
  if !(op ≤ 3 || op == 6) then false
  else match read bytes with
    | some x => if op = 6 then prev.isSome && prev != some x else compareOp op x (bitsOf v 64 16) none
    | none => false

/-- Does an entry watch this endpoint: a periodic endpoint of this hub on a segment port (R317). -/
def watches (s : State) (e : BitVec 128) (tea : Nat) : Bool :=
  watchValid e && watchTea e == tea && teaHub tea == hubOf s && decide (teaPort tea < 48) &&
    (s.ep (teaKey tea)).periodic

/-- One watch sample: every entry of the endpoint compares it; a match writes the endpoint's SAMPLE record (R318,
R319) (DEDUCED, log entry 47). -/
def watchSample (s : State) (x : WatchSample) : State :=
  let tea := x.tea.toNat
  let hits := (s.pw.watch.filter fun kv => watches s kv.2 tea && watchMatches s kv.2 kv.1 x.bytes).map (·.1)
  let mine := (s.pw.watch.filter fun kv => watches s kv.2 tea).map (·.1)
  let s0 := if mine.isEmpty then s else s.modEp (teaKey tea) fun c => { c with togIn := !c.togIn }
  let s1 := s0.modPw fun w => { w with watchPrev := mine.foldl (fun t i => t.insert i x.bytes) w.watchPrev }
  if hits.isEmpty then s1
  else
    let s2 := (s1.bump (Reg.PWR_CNT 2) hits.length).wr Reg.PWR_LULL_MATCH (BitVec.ofNat 32 (2 ^ 31 + hits.getLast?.getD 0))
    let tq := tqNow s false
    let s3 := s2.modEp (teaKey tea) fun c => { c with
      sample := some x.bytes, sampleCap := treeNs s, sampleTq := tq, lastSample := s.fc.now }
    lullWake (sampleEvent s3 tea (treeNs s) s.fc.now tq x.bytes) 1

/-- The watched endpoints of a port, as endpoint keys. -/
def watchedKeys (s : State) (p : Nat) : List Nat :=
  (s.eps.map (·.1)).filter fun k => k / 8192 == p && s.pw.watch.any fun kv =>
    watches s kv.2 (epTea s p (k / 32 % 256) (k % 32)) && teaKey (watchTea kv.2) == k

/-- The POLL of a node in a watch cycle: DUE and FORCE name its watched endpoints (R318). -/
def watchPoll (s : State) (p node : Nat) : State :=
  let due := ((watchedKeys s p).filter fun k => k / 32 % 256 == node).map (· % 32)
  let z := buildFrame s p node Tok.poll 0 false (mkPoll s p node due due (if due.isEmpty then 1 else 128) false).payload
  putFrames z.1 p [z.2]

/-- Does the watch keep its banks awake, with SOF in every frame (R318). -/
def watchAwake (s : State) : Bool := decide (s.fld Reg.PWR_LULL_CFG Fld.PWR_LULL_CFG_T_WATCH_MS ≤ 4)

/-- The line of a segment in a watch cycle: RESUME and SOF, unless the bank stays awake, then a POLL to each attached node
(R318). -/
def watchLine (s : State) (p : Nat) : State :=
  let s1 := if watchAwake s then s else
    let z := buildFrame s p 255 Tok.resume 0 false []
    putFrames (segCnt (z.1.emit (.repeated p (resumeCount s p) z.2)) p 0 (resumeCount s p)) p [sofFrame s]
  forEach (attachedOf s1 p) s1 fun s n => watchPoll s p n

/-- A node whose watched endpoints were polled has answered or not: 8 cycles without an answer detach it, which ends Lull
(R136, R318) (DEDUCED, log entry 47). -/
def watchJudge (s : State) (p : Nat) (samples : List WatchSample) (node : Nat) : State :=
  let mine := (watchedKeys s p).filter fun k => k / 32 % 256 == node
  let n := s.node (nodeKey p node)
  if mine.isEmpty then s
  else if samples.any fun x => memNat mine (teaKey x.tea.toNat) then s.setNode (nodeKey p node) { n with failFrames := 0 }
  else if 7 ≤ n.failFrames then detachNode s p node 1
  else s.setNode (nodeKey p node) { n with failFrames := n.failFrames + 1 }

/-- One watch cycle of a bank in Lull, the frames of the cycle and its samples in one command; the segments are suspended
again unless Lull has ended (DEDUCED, log entry 47). -/
def watchCycle (s : State) (bank : Nat) (samples : List WatchSample) : State :=
  let here := samples.filter fun x => teaPort x.tea.toNat / 8 == bank
  let held := ((List.range 8).map (8 * bank + ·)).filter fun p => !(watchedKeys s p).isEmpty
  let ports := held.filter fun p => (s.seg p).st == 4
  if held.isEmpty then s else
  let s1 := forEach here (forEach ports (s.bump (Reg.PWR_CNT 1) 1) watchLine) watchSample
  let s2 := forEach ports s1 fun s p => forEach (attachedOf s p) s fun s n => watchJudge s p here n
  if watchAwake s then s2 else forEach ports s2 fun s p => sendToken s p Tok.suspend 255 []

/-- SOF of the watched segments while their banks stay awake (R318). -/
def watchSofs (s : State) : State :=
  if chipState s = 2 && watchAwake s then
    forEach ((List.range 48).filter fun p => (s.seg p).st == 4 && !(watchedKeys s p).isEmpty) s fun s p =>
      putFrames s p [sofFrame s]
  else s

/-! ## Heat (R321, R322) -/

/-- The hottest reading and its sensor. -/
def hottest (temps : List Int) : Int × Nat :=
  (List.range temps.length).foldl (fun a i =>
    let t := temps.getD i 0
    if a.1 < t then (t, i) else a) (temps.getD 0 0, 0)

/-- The level whose threshold a reading reaches. -/
def levelOf (t : Int) : Nat := if 1200 ≤ t then 3 else if 1100 ≤ t then 2 else if 1050 ≤ t then 1 else 0

/-- PWR_TEMP and PWR_TEMP_PEAK take a reading; RC clears the peak (R45). -/
def noteTemp (s : State) (t : Int) (sensor : Nat) : State :=
  let w := BitVec.ofNat 32 (sensor * 2 ^ 24 + ofSigned 16 t)
  let old := toSigned 16 (s.rd Reg.PWR_TEMP_PEAK).toNat
  let s1 := if s.pw.peakSeen && decide (t ≤ old) then s else s.wr Reg.PWR_TEMP_PEAK w
  (s1.wr Reg.PWR_TEMP w).modPw fun p => { p with
    peakSeen := true, peakTemp := some (match p.peakTemp with
      | some m => if m < t then t else m
      | none => t) }

/-- THERMAL data. -/
def thermalBytes (s : State) (new prev sensor : Nat) (t : Int) : List Byte :=
  leBytes 1 new ++ leBytes 1 prev ++ leBytes 1 sensor ++ leBytes 1 0 ++ leBytes 2 (ofSigned 16 t) ++
    leBytes 2 (ofSigned 16 (s.pw.peakTemp.getD t)) ++ leBytes 4 s.fc.frameNo ++ leBytes 4 0

/-- THROTTLE begins: links above rate 2 go to rate 2 (R321) (DEDUCED, log entry 48). -/
def throttle (s : State) : State :=
  let s1 := ((s.setFlag Reg.PWR_STATUS Fld.PWR_STATUS_THROTTLED true).bump (Reg.PWR_CNT 4) 1).modPw fun w => { w with halved := true }
  forEach ((upLinks s).filter fun l => decide (2 < (s.link l).rate)) s1 fun s l => startRateChange (saveRate s l) l 2

/-- THROTTLE ends: the rates are restored, unless A1 holds them (DEDUCED, log entry 48). -/
def unthrottle (s : State) : State :=
  let s1 := (s.setFlag Reg.PWR_STATUS Fld.PWR_STATUS_THROTTLED false).modPw fun w => { w with halved := false }
  if chipState s = 0 then restoreLinks s1 else s1

/-- A thermal shutdown: the AO domain notes it, the next boot reports it (R322). -/
def thermalStop (s : State) (prev sensor : Nat) (t : Int) : State :=
  let s1 := (s.setFlag Reg.PWR_THERMAL Fld.PWR_THERMAL_THERMAL_SEEN true).setFld Reg.PWR_THERMAL Fld.PWR_THERMAL_SHUTDOWN_TEMP
    (ofSigned 16 t)
  let s2 := folHold (s1.bump (Reg.PWR_CNT 5) 1) 0x13 4 3 (leBytes 2 (ofSigned 16 t) ++ leBytes 1 sensor)
  let s3 := s2.modPw fun w => { w with thermalData := thermalBytes s 3 prev sensor t, coolSince := none }
  chipOff s3

/-- The thermal level changes (DEDUCED, log entry 57). -/
def levelTo (s : State) (new sensor : Nat) (t : Int) : State :=
  let prev := s.fld Reg.PWR_THERMAL Fld.PWR_THERMAL_LEVEL
  if new = 3 then thermalStop s prev sensor t
  else
    let s1 := s.setFld Reg.PWR_THERMAL Fld.PWR_THERMAL_LEVEL new
    let s2 := if new = 2 then throttle s1 else if prev = 2 then unthrottle s1 else s1
    let s3 := hubEvent (pwrInt s2 4) 0x0F (thermalBytes s new prev sensor t)
    lullWake (s3.modPw fun w => { w with peakTemp := none, coolSince := none }) 6

/-- Is a reading low enough to leave a level (DEDUCED, log entry 57). -/
def coolEnough (level : Nat) (t : Int) : Bool := if level = 1 then decide (t < 1000) else decide (t ≤ 1050)

/-- One reading of the 8 sensors. While the chip is off, only the AO core watches for 95 °C (DEDUCED, log entry 57).
-/
def thermalReading (s : State) (temps : List Int) : State :=
  let h := hottest temps
  let t := h.1
  if s.pw.off then
    s.modPw fun w => { w with coolSince := if t ≤ 950 then some (w.coolSince.getD s.fc.now) else none }
  else
    let s1 := noteTemp s t h.2
    let level := s.fld Reg.PWR_THERMAL Fld.PWR_THERMAL_LEVEL
    let both := Nat.min (levelOf t) s.pw.levelSeen
    let s2 := s1.modPw fun w => { w with levelSeen := levelOf t }
    if level < both then levelTo s2 both h.2 t
    else if level = 0 || !coolEnough level t then s2.modPw fun w => { w with coolSince := none }
    else
      let since := s.pw.coolSince.getD s.fc.now
      if since + 1000000000 ≤ s.fc.now then levelTo s2 (level - 1) h.2 t
      else s2.modPw fun w => { w with coolSince := some since }

/-! ## Reference clocks (R393) -/

/-- TIME_REF is missing: the TIME domain goes on from REFCLK_SYS (severity WARN). -/
def timeRefLost (s : State) : State :=
  let s1 := s.modPw fun w => { w with timeRefLostAt := some s.fc.now }
  folPost s1 0x16 5 1 (leBytes 1 1 ++ leBytes 4 0)

/-- TIME_REF has been present for 10 ms (DEDUCED, log entry 71). -/
def timeRefBack (s : State) : State :=
  s.modPw fun w => { w with timeRefLostAt := none }

end Sys2Proof.Machine
end

