-- ==== Sys2Proof/Machine/Reset.lean ====
section
/-! DEFINITION. Resets and starts (R359, R367, R368, R370, R371, R398 to R400, R412 to R416): how work ends, what is kept,
the choice of the volume, engines and cores at boot, the steps of a start, the loss of a service core (R259, R260). -/
namespace Sys2Proof.Machine

/-! ## How the work of a hub ends (R367, R399) -/

/-- A planned restart ends every descriptor WITHDRAWN, and every accepted posted write not yet sent with an FQ record
(DEDUCED, log entry 58). -/
def endWork (s : State) : State :=
  let s1 := forEach (List.range 64) s fun s p => endPort s p Status.withdrawn 4
  forEach s1.flight s1 fun s d =>
    if (inFlight s d.id).isNone || d.result.isSome then s
    else if d.posted then (if d.acked then dropPosted s d.id else lateFault (dropPosted s d.id) d 2)
    else complete s d Status.withdrawn

/-- SUSPEND on every ACTIVE segment, GOODBYE on every UP link. -/
def linesStop (s : State) : State :=
  let s1 := forEach ((List.range 48).filter fun p => (s.seg p).st == 3 || (s.seg p).st == 5) s suspendSeg
  forEach (upLinks s1) s1 sendGoodbye

/-- Every ring returns OFF; its context is written with its final COUNT (R368, R399). -/
def ringsOff (s : State) (f : Fn) : State :=
  let l := (s.rings.filter fun kv => kv.1 / 2048 == fnIx f).map fun kv => kv.1 % 2048
  let s1 := forEach l s fun s i => (ringTo s f i .off).setRing f i Ring.reset
  let s2 := forEach (List.range 64) s1 fun s k => s.wr (Reg.HIF_RING_ENABLE (fnIx f) k) 0
  s2.modFn f fun x => { x with
    round := [], galeTaken := [], sweepAt := [], enableDue := [], kickDue := false, rereads := [], fqWait := [], fqLost := 0 }

/-- The configuration of an endpoint without its traffic. -/
def EpCtx.config (c : EpCtx) : EpCtx :=
  { EpCtx.reset with
    cls := c.cls, intervalUs := c.intervalUs, granules := c.granules, shelf := c.shelf, enabled := c.enabled, hint := c.hint,
    ring := c.ring, reserve := c.reserve, held := c.held, force := true, galeKept := c.galeKept }

/-- A port that waits for the hub start: powered segments stay suspended, and their nodes announce themselves again
(R147). -/
def Seg.waits (x : Seg) : Seg :=
  { Seg.reset with
    st := if 2 ≤ x.st then 4 else x.st, reannounce := true, policy := x.policy, secure := x.secure, pfx := x.pfx,
    stateFrame := x.stateFrame, faulted := x.faulted }

/-- A link that waits for its bring-up. -/
def Link.waits (k : Link) : Link := { freshLink k with st := 0, prev := k.st, orphanSince := none, holdUntil := none, downAt := none }

/-- A rule that is not active yet. -/
def Rule.waits (r : Rule) : Rule := { r with active := false, episode := false, since1 := none, since2 := none }

/-- What the hub keeps through a warm, watchdog or scheduled-activation reset (R265, R277, R292, R317, R399): segment
power, time, counters and registers; the configuration whose regions pass their checks (DEDUCED, log entry 58;
DEDUCED, log entry 69). -/
def warmKept (s : State) (b : BootIn) : State :=
  let up := (upLinks s).filter fun l => decide (l < 16) && (s.link l).cls == 2
  let s1 := { s with
    shadows := [], latches := [], badRegs := [], stuckRegs := [], locked := false, flight := [], cqWait := [], pool := [],
    poolMerged := 0, nodes := [], later := [], ruleReqs := [], gustActs := [], subs := [], mirror := [], upHeld := [],
    movesThisEpoch := [], epochFrame := none, slotEvals := [],
    catalogue := if b.regionsOk then s.catalogue.filter CatEntry.kept else s.nvm.catalogue,
    eps := if b.regionsOk then s.eps.mapVals fun _ c => c.config else [],
    shelves0 := if b.regionsOk then s.shelves0 else [], shelves1 := if b.regionsOk then s.shelves1 else [],
    rules := if b.regionsOk && b.gustOk then s.rules.mapVals fun _ r => r.waits else [],
    deposits := if b.regionsOk && b.gustOk then s.deposits else [],
    segs := s.segs.mapVals fun _ x => x.waits,
    links := s.links.mapVals fun _ k => k.waits,
    orphans := s.orphans ++ up.map fun l => ((s.link l).identity, l, s.fc.now),
    nvm := flashStopped s,
    folio := { s.folio with sealing := none, closed := squallOn s },
    pw := { s.pw with going := none, target := none, wakeAt := none, savedRates := [], watchPrev := [], domRetried := [],
                      clocksStopped := false, refLostAt := none,
                      watch := if b.regionsOk then s.pw.watch else [] } }
  let s2 := (s1.wr Reg.GLB_PROT_HOLD 0).setFld Reg.PWR_STATUS Fld.PWR_STATUS_STATE 0
  let kept := b.regionsOk && b.gustOk
  (s2.setFlag Reg.GST_STATUS Fld.GST_STATUS_RESTORED kept).setFlag Reg.GST_STATUS Fld.GST_STATUS_CLEARED (!kept)

/-! ## The choice of the volume (R358, R359, R370, R371) -/

/-- Does a volume pass the checks of the boot ROM. -/
def volPasses (n : Nvm) (b : BootIn) (v : Nat) : Bool :=
  (if v = 0 then b.volA else b.volB).toNat == 1 && decide (n.svn ≤ (volOf n v).svn)

/-- What the boot ROM chooses: the volume, none for Recovery; whether a trial starts; the cause of a fall-back, 0 for
none; and the volumes it has checked. -/
structure Choice where
  vol : Option Nat
  trial : Bool
  fell : Nat
  checked : List Nat

/-- Volume selection. `fb` is the cause of a reset that ends an unconfirmed trial: 1 WINDOW_EXPIRED, 2 RESET, 5
SELF_TEST. -/
def choose (n : Nvm) (b : BootIn) (armed : Bool) (fb : Nat) : Choice :=
  let a := n.active
  if armed then
    if volPasses n b n.trialVol then ⟨some n.trialVol, true, 0, [n.trialVol]⟩
    else
      let cause := if (if n.trialVol = 0 then b.volA else b.volB).toNat = 2 then 3 else 4
      ⟨if volPasses n b a then some a else none, false, cause, [n.trialVol, a]⟩
  else if n.trialState = 2 then ⟨if volPasses n b a then some a else none, false, fb, [a]⟩
  else if volPasses n b a then ⟨some a, false, 0, [a]⟩
  else ⟨if volPasses n b (1 - a) then some (1 - a) else none, false, 0, [a, 1 - a]⟩

/-- The settings that a volume uses: its own slot when its format differs; after a fall-back the old slot again (R371)
(DEDUCED, log entry 49). -/
def settingsFor (n : Nvm) (c : Choice) (v : Nat) : Nvm :=
  let fmt := (volOf n v).fmt
  if c.trial && fmt != n.settingsFmt then
    let old : Settings := ⟨n.settingsFmt, n.storedMode, n.spwStore, n.spwGale, n.catalogue, n.policies, n.upParams⟩
    { n with oldSlot := some old, settingsSlot := 1 - n.settingsSlot, settingsFmt := fmt }
  else if c.fell ≠ 0 then
    match n.oldSlot with
    | some o => { n with
        oldSlot := none, settingsSlot := 1 - n.settingsSlot, settingsFmt := o.fmt, storedMode := o.mode,
        spwStore := o.spwStore, spwGale := o.spwGale, catalogue := o.catalogue, policies := o.policies, upParams := o.upParams }
    | none => n
  else n

/-- The boot record, the ledger and the volumes after the choice. -/
def booted (s : State) (c : Choice) : Nvm :=
  let n := { s.nvm with bootCount := (s.nvm.bootCount + 1) % 2 ^ 32, pendingMode := none, fellBack := c.fell, windowEnd := none }
  let n1 := if c.trial then
      let m := modVol { n with trialState := 2, session := 0, bundle := 0, sessionPieces := 0, piecesHeld := [] } n.trialVol
        fun v => { v with state := 4 }
      { m with windowEnd := some (s.fc.now + 150000000 + s.fld Reg.NVM_CONFIRM_WINDOW Fld.NVM_CONFIRM_WINDOW_S * 1000000000) }
    else if c.fell ≠ 0 then
      modVol { n with trialState := 3, lastFallback := c.fell } n.trialVol fun v => { v with state := 5 }
    else n
  match c.vol with
  | some v =>
    let m := settingsFor { n1 with running := v, inRecovery := false } c v
    if c.trial then m
    else
      let svn := if v = m.active ∧ c.fell = 0 ∧ m.svn < (volOf m v).svn ∧ m.trialState = 0 then (volOf m v).svn else m.svn
      { m with svn := svn, volA := revoke svn m.volA, volB := revoke svn m.volB }
  | none => { n1 with inRecovery := true }

/-! ## Engines and cores at boot (R256, R259) -/

/-- Boots on which an engine has failed. -/
def engineFails (s : State) (e : Nat) : Nat := s.nvm.engineFails.getD e 0

/-- The spares that pass, for the ports whose engines do not. -/
def spareFor (good : Nat → Bool) (p : Nat) : Option Nat :=
  let needy := (List.range 48).filter fun q => !good q
  let spares := [48, 49, 50, 51].filter good
  ((needy.zip spares).find? fun x => x.1 == p).map (·.2)

/-- The self-test of the engines maps ports to engines; FAILS wraps at its 8 bits (R8, R256). -/
def bootEngines (s : State) (bad : List Nat) : State :=
  let fails := bad.foldl (fun t e => if e < 52 then t.insert e (t.getD e 0 + 1) else t) s.nvm.engineFails
  let good := fun e => !memNat bad e && decide (fails.getD e 0 < 3)
  let serves := fun p => if good p then some p else spareFor good p
  let s1 := s.modNvm fun n => { n with engineFails := fails }
  let s2 := forEach (List.range 52) s1 fun s e =>
    s.wr (Reg.LIB_ENGINE e) (BitVec.ofNat 32
      (b2n (memNat bad e) * 2 ^ 31 + b2n (decide (3 ≤ fails.getD e 0)) * 2 ^ 30 + fails.getD e 0 % 256 * 65536))
  let s3 := forEach (List.range 48) s2 fun s p => match serves p with
    | some e => giveEngine (if (s.seg p).lost then s.modSeg p fun x => { x with lost := false } else s) p e
    | none => (s.setFlag Reg.LIB_STATUS Fld.LIB_STATUS_SEG_LOST true).modSeg p fun x => { x with lost := true }
  sparesShow s3

/-- Default services of a core (service table). -/
def coreServices (j : Nat) : Nat := if j < 5 then 2 ^ j else if j = 5 then 0x60 else 0

/-- Healthy service cores. -/
def healthyCores (s : State) : List Nat := (List.range 8).filter fun j => !s.flag (Reg.LIB_CORE j) Fld.LIB_CORE_FAILED

/-- The core that takes over: a standby core, else the least-loaded healthy one (R259). -/
def takeoverCore (s : State) : Option Nat :=
  let l := healthyCores s
  match l.find? fun j => s.flag (Reg.LIB_CORE j) Fld.LIB_CORE_STANDBY with
  | some j => some j
  | none => (sortBy (fun a b => decide (s.fld (Reg.LIB_CORE a) Fld.LIB_CORE_LOAD_PCT < s.fld (Reg.LIB_CORE b) Fld.LIB_CORE_LOAD_PCT)) l).head?

/-- LIB_STATUS.CORES and CORES_LOW (R260). -/
def coresShow (s : State) : State :=
  let n := (healthyCores s).length
  (s.setFld Reg.LIB_STATUS Fld.LIB_STATUS_CORES n).setFlag Reg.LIB_STATUS Fld.LIB_STATUS_CORES_LOW (decide (n < 6))

/-- A core is held in reset and its services move. -/
def coreDown (s : State) (j : Nat) : State × Option Nat × Nat :=
  let sv := s.fld (Reg.LIB_CORE j) Fld.LIB_CORE_SERVICES
  let s1 := s.wr (Reg.LIB_CORE j) (BitVec.ofNat 32 (2 ^ 31))
  match takeoverCore s1 with
  | some k =>
    let s2 := (s1.setFlag (Reg.LIB_CORE k) Fld.LIB_CORE_STANDBY false).setFld (Reg.LIB_CORE k) Fld.LIB_CORE_SERVICES
      (s1.fld (Reg.LIB_CORE k) Fld.LIB_CORE_SERVICES ||| sv)
    (coresShow (if sv = 0 then s1 else s2), some k, sv)
  | none => (coresShow s1, none, sv)

/-- The cores at boot: default services, moved off the cores that fail. -/
def bootCores (s : State) (bad : List Nat) : State :=
  let s1 := forEach (List.range 8) s fun s j =>
    s.wr (Reg.LIB_CORE j) (BitVec.ofNat 32 ((if 6 ≤ j then 2 ^ 30 else 0) + coreServices j))
  coresShow (forEach (bad.filter fun j => decide (j < 8)) s1 fun s j => (coreDown s j).1)

/-! ## A boot -/

/-- The registers that a boot sets (GLB, SEC) (DEDUCED, log entry 49). A stored MODE of 3 is treated as 2 (R56); the spec
does not say which code ACTIVE_MODE then shows, and the model shows 2 (DESIGN CHOICE, log entry 49). The confirmations of
NVM_CONFIRM end when a trial starts (R419). -/
def bootRegs (s : State) (b : BootIn) (cause : Nat) (c : Choice) : State :=
  let n := s.nvm
  let res := fun v => if memNat c.checked v then (if volPasses n b v then 1 else if (if v = 0 then b.volA else b.volB).toNat = 2 then 2 else 3) else 0
  let build := match c.vol with
    | some v => (volOf n v).build
    | none => 0
  let mode := match n.storedMode with
    | some 3 => 2
    | some m => m
    | none => 2
  let s1 := (s.wr Reg.GLB_RESET_CAUSE (BitVec.ofNat 32 cause)).wr Reg.GLB_BOOT_COUNT (BitVec.ofNat 32 n.bootCount)
  let s2 := (s1.wr Reg.GLB_BUILD (BitVec.ofNat 32 build)).setFld Reg.GLB_PROT_STATUS Fld.GLB_PROT_STATUS_ACTIVE_MODE mode
  let s3 := s2.wr Reg.SEC_BOOT_STATUS (BitVec.ofNat 32 (n.romVersion % 256 * 2 ^ 24 + c.vol.getD 0 * 16 + res 1 * 4 + res 0))
  let s4 := (s3.wr Reg.SEC_LOCK 0).setFlag Reg.SEC_STATUS Fld.SEC_STATUS_KEYS_OK c.vol.isSome
  let s5 := if c.trial then (s4.setFlag Reg.NVM_CONFIRM Fld.NVM_CONFIRM_HEALTH_CONFIRM false).setFlag Reg.NVM_CONFIRM
    Fld.NVM_CONFIRM_HOST_APPROVE false else s4
  let s6 := s5.setFld Reg.GLB_APPLY_PENDING Fld.GLB_APPLY_PENDING_BOOT 0
  (s6.bump (Reg.SEC_CNT 0) c.checked.length).setFld Reg.SEC_STATUS Fld.SEC_STATUS_LOCKED 0

/-- An Open part generates its link static key at each boot: a free value (R217, R357). -/
def bootKey (s : State) : State :=
  if s.nvm.lifecycle ≠ 1 then s
  else
    let z := s.fresh
    let k := (Config.ephKey z.1).toNat
    (z.2.modNvm fun n => { n with pubKey := (List.range 16).map fun i => BitVec.ofNat 32 (k / 2 ^ (32 * i)) }).bump (Reg.SEC_CNT 4) 1

/-- What a fall-back counts at once: the volume, NVM_CNT7, FALLBACK (R370) (DEDUCED, log entry 44; DEDUCED, log entry
70). -/
def fellBack (s : State) (c : Choice) : State := if c.fell = 0 then s else nvmInt (s.bump (Reg.NVM_CNT 7) 1) 3

/-- One boot of the chip from a state in which its reset has been taken. -/
def bootOnce (s : State) (b : BootIn) (cause : Nat) (armed : Bool) (fb : Nat) : State :=
  let c := choose s.nvm b armed fb
  let s1 := { s with
    nvm := booted s c, locked := false, bootAt := s.fc.now + 150000000, booted := false, starting := true }
  let s2 := fellBack (bootRegs s1 b cause c) c
  if c.vol.isNone then enterRecovery s2 2
  else
    let s3 := folScan (s2.modPw fun w => { w with recovery := 0 }) b.folBad
    bootCores (bootEngines (bootKey s3) b.badEngines) b.badCores

/-- The boot of a reset. A trial image whose self-test fails requests the same reset at once, which falls back (R370)
(DEDUCED, log entry 49). -/
def boot (s : State) (b : BootIn) (cause : Nat) (armed : Bool) (fb : Nat) : State :=
  let s1 := bootOnce s b cause armed fb
  if armed && s1.nvm.trialState == 2 && b.selfTestFail then bootOnce s1 b 8 false 5 else s1

/-! ## Warm, watchdog and scheduled-activation resets (R367, R399, R412, R416) -/

/-- The restart of the hub: its work ends as planned or unplanned, lines and links stop, rings return OFF, and the hub
starts again within 350 ms. -/
def hubRestart (s : State) (b : BootIn) (cause : Nat) (planned armed : Bool) (fb : Nat) : State :=
  if s.pw.off || s.pw.recovery != 0 then s
  else
    let s1 := linesStop (if planned then folDrain (endWork s) else s)
    let s2 := ringsOff (ringsOff s1 .pf0) .pf1
    let s3 := warmKept s2 b
    let s4 := s3.modNvm fun n =>
      if armed then { n with trialVol := n.sessionVol, trialState := 1 }
      else if n.session = 3 then { n with session := 2 } else n
    { boot s4 b cause armed fb with readyAt := s.fc.now + 350000000 }

/-- An unplanned restart: the AO core holds RESET_UNPLANNED with the management core's program counter (R379, R399). -/
def unplanned (s : State) (b : BootIn) (bits cause fb : Nat) : State :=
  if s.pw.off || s.pw.recovery != 0 then s
  else
    let z := s.fresh
    hubRestart (folHold z.2 2 16 3 (leBytes 1 cause ++ leBytes 8 (Config.mgmtPc z.1).toNat)) b bits false false fb

/-! ## Power-on reset and PERST (R292, R415) -/

/-- Rows queued for repair are mapped out at the MEM_RDY step; their pages return (R394, R395). -/
def sramRepaired (s : State) : State :=
  let m := s.sram
  let k := Nat.min m.repairs m.spareRows
  let m1 : Sram := { m with hits := [], repairs := m.repairs - k, spareRows := m.spareRows - k,
                            pages := if m.repairs ≤ m.spareRows then [] else m.pages }
  let s1 := { s with sram := m1 }.bump (Reg.FOL_CNT 7) k
  let s2 := (s1.setFld Reg.FOL_REPAIR Fld.FOL_REPAIR_PENDING m1.repairs).setFld Reg.FOL_REPAIR Fld.FOL_REPAIR_SPARES m1.spareRows
  s2.setFld Reg.FOL_SRAM_STATUS Fld.FOL_SRAM_STATUS_OUT_OF_USE m1.pages.length

/-- The instants of a cold start; the frame clock and tree time begin anew (R20, R277, R415). -/
def coldStart (s : State) : State :=
  { s with
    fc := coldClock s, tt := { TreeTime.reset with takenAt := s.fc.now }, readyAt := s.fc.now + 160000000,
    neverFramed := true }

/-- Every SPW_EN pin that is high falls. -/
def pinsLow (s : State) : State :=
  forEach ((List.range 48).filter fun p => enHigh s p) s fun s p => drive (slewLow s p) (.spwEn p) false

/-- Power-on reset of every domain except AO: the role is sampled, every register takes its reset value, the boot runs
(DEDUCED, log entry 69). -/
def resetButAo (s : State) (b : BootIn) (cause : Nat) : State :=
  let s1 := powerLost (pinsLow s)
  let s2 := sramRepaired { s1 with role := b.role.toNat, pw := { s1.pw with off := false, recovery := 0, coolSince := none } }
  let s3 := s2.wr Reg.PDP_RECOVERY (BitVec.ofNat 32 (2 * b2n s.port.aoRail))
  let s4 := s3.setFlag Reg.PDP_STATUS Fld.PDP_STATUS_RECOVERY false
  let s5 := if s.nvm.lifecycle = 1 then s4 else s4.wr Reg.SEC_JTAG 0
  srcEnable (boot (coldStart (linePins s5 s)) b cause false 2)

/-- Power-on reset of every domain (RST_N, R408). A seal that runs ends first (R414) (DEDUCED, log entry 69). -/
def powerOnReset (s : State) (b : BootIn) : State :=
  let s0 := if s.folio.sealing = some false then sealEnd s false else s
  let s1 := if s.pw.off then s0.setFld Reg.PWR_VAULT_CFG Fld.PWR_VAULT_CFG_LAST_WAKE 1 else s0
  let s2 := { s1 with
    regs := s1.regs.keep fun a _ => !(decide (0x8000 ≤ a) && decide (a < 0x9000)),
    port := { Port.reset with aoRail := s1.port.aoRail },
    pw := { s1.pw with squallAt := none } }
  resetButAo s2 b 1

/-- The hub leaves Vault, a thermal shutdown or Recovery: power-on reset of every domain except AO (R320, R322, R341). -/
def wakeReset (s : State) (b : BootIn) (wake : Nat) : State :=
  resetButAo (s.setFld Reg.PWR_VAULT_CFG Fld.PWR_VAULT_CFG_LAST_WAKE wake) b 1

/-- The registers that PERST keeps besides those of AO: the live SPW values, the Squall and the sensors (R292, R415)
(DEDUCED, log entry 69). -/
def perstWords (s : State) : Table Word :=
  s.regs.keep fun a _ =>
    (decide (0x30000 ≤ a) && decide (a < 0x32000) && !(decide (0x30080 ≤ a) && decide (a < 0x300B0)) &&
      a != Reg.SPW_INT_STATUS && a != Reg.SPW_INT_ENABLE && a != Reg.SPW_STORE) ||
    a == Reg.PWR_SQUALL_STATUS || a == Reg.PWR_TEMP || a == Reg.PWR_TEMP_PEAK || a == Reg.PWR_THERMAL ||
    a == Reg.PWR_VAULT_CFG || (decide (0x8000 ≤ a) && decide (a < 0x9000))

/-- PERST: the table of a cold start, with segment power and the live SPW values kept. In Lull, Lull ends first with
cause HOST (R414) (DEDUCED, log entry 69). -/
def perstReset (s : State) (b : BootIn) : State :=
  let s0 := lullWake s 2
  let z := powerLost s0
  let s1 := { z with
    regs := perstWords s0, spws := s0.spws.mapVals fun _ w => { w with waiters := [] }, sram := s0.sram,
    pw := { z.pw with queue := s0.pw.queue, galeSnap := s0.pw.galeSnap, squallAt := s0.pw.squallAt,
                      squallFrame := s0.pw.squallFrame, squallTime := s0.pw.squallTime, squallShed := s0.pw.squallShed,
                      levelSeen := s0.pw.levelSeen, peakSeen := s0.pw.peakSeen, peakTemp := s0.pw.peakTemp } }
  let s2 := (s1.setFlag Reg.PWR_STATUS Fld.PWR_STATUS_SQUALL (squallOn s0)).setFld Reg.PWR_STATUS Fld.PWR_STATUS_WAKE_CAUSE
    (if chipState s = 2 then 2 else 0)
  let s3 := if s0.nvm.lifecycle = 1 then s2 else s2.wr Reg.SEC_JTAG 0
  boot (coldStart (linePins (sramRepaired s3) s)) b 2 false 2

/-- One PERST_N in role 01: only that link and that HIF instance (R413). -/
def linkReset (s : State) (f : Fn) : State :=
  let off := ringsOff { (s.modFn f fun x => { x with bme := false }) with flight := s.flight.filter fun d => d.fn != f } f
  let mine := fun (w : HostWrite) => w.d.fn == f
  let gone := (s.flight.filter fun d => d.fn == f).map fun d => d.id
  let s1 := { off with
    regs := off.regs.keep fun a _ => !(decide (0x10000 + fnIx f * 0x1000 ≤ a) && decide (a < 0x11000 + fnIx f * 0x1000)),
    cqWait := off.cqWait.filter fun x => x.1.fn != f,
    eps := off.eps.mapVals fun _ c => { c with
      hostWrites := c.hostWrites.filter fun w => !mine w,
      sending := c.sending.filter fun w => !mine w },
    segs := off.segs.mapVals fun _ g => { g with
      ctls := g.ctls.filter fun c => match c.owner with
        | .host d => !memNat gone d
        | _ => true,
      bulks := g.bulks.filter fun x => !memNat gone x.desc,
      bcast := g.bcast.filter fun x => !mine x.2 } }
  s1.setFn f FnState.reset

/-! ## The steps of a start -/

/-- The stored power set becomes the live one, and ON takes AUTO (R305). -/
def applyStored (s : State) : State :=
  match s.nvm.spwStore with
  | none => s
  | some set =>
    let s1 := forEach set s fun s kv => s.wr kv.1 kv.2
    let s2 := forEach (List.range 48) s1 fun s p =>
      s.setFlag (Reg.SPW_CTRL p) Fld.SPW_CTRL_ON (s.flag (Reg.SPW_CTRL p) Fld.SPW_CTRL_AUTO)
    let s3 := (s2.modPw fun w => { w with galeSnap := some s.nvm.spwGale }).setFlag Reg.SPW_STORE Fld.SPW_STORE_LOADED true
    enqueueAll s3 ((List.range 48).filter fun p => s3.flag (Reg.SPW_CTRL p) Fld.SPW_CTRL_ON)

/-- What the settings store gives the hub after a loss of SRAM: the Catalogue and the segment policies (R144, R147). -/
def applySettings (s : State) : State :=
  forEach s.nvm.policies { s with catalogue := s.nvm.catalogue } fun s kv =>
    s.modSeg kv.1 fun g => { g with policy := kv.2.1, secure := kv.2.2.1, pfx := kv.2.2.2 }

/-- The report of a fall-back and of a thermal shutdown by the boot that follows (R322, R370). -/
def bootReports (s : State) : State :=
  let n := s.nvm
  let s1 := if n.fellBack = 0 then s
    else folPost (imageEvent s 6 n.trialVol n.fellBack) 0x44 16 2 (leBytes 4 n.fellBack ++ leBytes 4 (volOf n n.trialVol).build)
  if s1.pw.thermalData.isEmpty then s1
  else (hubEvent s1 0x0F s1.pw.thermalData).modPw fun w => { w with thermalData := [] }

/-- Was the last reset a power-on reset or PERST. -/
def coldCause (s : State) : Bool :=
  s.flag Reg.GLB_RESET_CAUSE Fld.GLB_RESET_CAUSE_POWER_ON || s.flag Reg.GLB_RESET_CAUSE Fld.GLB_RESET_CAUSE_PERST

/-- The management core runs: held entries and the BOOT entry, stored settings and power, the upstream link of a
branch, segments and links that return (R305, R361, R388, R399, R415, R416) (DEDUCED, log entry 70). -/
def bootWork (s : State) : State :=
  let carried := s.folio.staging.length
  let n := s.nvm
  let cold := coldCause s
  let s1 := folFromAo { s with booted := true }
  let s2 := folPost s1 1 16 0
    (leBytes 4 (s.rd Reg.GLB_RESET_CAUSE).toNat ++ leBytes 1 n.running ++ leBytes 4 (s.rd Reg.GLB_BUILD).toNat ++ leBytes 2 carried)
  let s3 := if cold then applySettings (domainsWoke s2 (List.range 14)) else s2
  let s4 := if s.flag Reg.GLB_RESET_CAUSE Fld.GLB_RESET_CAUSE_POWER_ON then applyStored s3 else runQueue s3
  let s5 := bootReports s4
  let s6 := if isBranch s5 then startLink s5 upLink else s5
  flashKick (folRegs (linkEnables s6))

/-- The hub start is over: READY, and the event of a trial that has started (R367, R415) (DEDUCED, log entry 70). -/
def readyWork (s : State) : State :=
  let s1 := { s with starting := false }
  let trial := trialRuns s1.nvm && s1.flag Reg.GLB_RESET_CAUSE Fld.GLB_RESET_CAUSE_SCHEDULED
  policyCheck (if trial then imageEvent s1 4 s1.nvm.running 0 else s1)

/-! ## The loss of a service core (R259, R260) -/

/-- What the loss of each service does. -/
def serviceLost (s : State) (b : Nat) : State :=
  match b with
  | 0 => forEach (List.range 48) s fun s p =>
      forEach ((nodesOf s p).filter fun n => match (s.node (nodeKey p n)).phase with
        | .assigned | .endpoints | .auth => true
        | _ => false) s fun s n => attachFailed s p n
  | 1 => forEach s.segs s fun s kv =>
      forEach (kv.2.ctls.filter fun c => c.started.isSome && match c.owner with
        | .host _ => true
        | _ => false) s fun s c => ctlFailed s kv.1 c Status.noResponse
  | 2 => { s with segs := s.segs.mapVals fun _ g => { g with dist := g.dist.map fun d => { d with asked := [] } } }
  | 4 => forEach ((List.range 17).filter fun l => decide (2 ≤ (s.link l).st) && decide ((s.link l).st ≤ 7)) s startLink
  | _ => s

/-- A service core fails: its services move, or with no healthy core left the hub restarts. -/
def coreFails (s : State) (j cause : Nat) (b : BootIn) : State :=
  if s.flag (Reg.LIB_CORE j) Fld.LIB_CORE_FAILED then s
  else
    let r := coreDown s j
    if (healthyCores r.1).isEmpty then unplanned r.1 b 0x44 6 2
    else
      let lost := (s.segs.foldl (fun a kv => a + kv.2.ctls.length) 0)
      let s1 := forEach (bitList 7 r.2.2) r.1 serviceLost
      let spare := ((healthyCores s1).filter fun k => s1.flag (Reg.LIB_CORE k) Fld.LIB_CORE_STANDBY).length
      let data := rehomedData 1 cause j (if r.2.2 = 0 then 0xFF else r.2.1.getD 0xFF) s.fc.frameNo
        (if bitOf r.2.2 1 then lost else 0) 0 r.2.2 spare
      libInt (hubEvent (folPost (s1.glb 9 1) 0x23 (17 + j) 1 (data.take 16)) 0x09 data) 2

/-- CAUSE of REHOMED for a core (R259). -/
def coreCause : CoreFault → Nat
  | .heartbeat => 5
  | .ecc => 3
  | .trap => 6

/-- CAUSE of REHOMED for an engine (R257). -/
def engineCause : EngineFault → Nat
  | .selfCheck => 1
  | .lateStart => 2
  | .ecc => 3

/-! ## Rails and clocks -/

/-- REFCLK_SYS has been present for 10 ms after a loss: CLOCK_LOSS with its length, and the restart (R393) (DEDUCED,
log entry 71). -/
def refclkBack (s : State) (b : BootIn) : State :=
  if !s.pw.clocksStopped then s
  else
    let us := (s.fc.now - s.pw.refLostAt.getD s.fc.now - 10000000) / 1000
    let s1 := s.modPw fun w => { w with clocksStopped := false, refLostAt := none }
    unplanned (folHold s1 0x16 5 3 (leBytes 1 0 ++ leBytes 4 us)) b 8 4 2

/-- Is VBUS present: the hub is a sink. -/
def vbusThere (s : State) : Bool := s.port.st == 2 || s.port.st == 4

/-- The 3.3 V AO rail arrives or fails (R341). Without VBUS its loss is a power-on reset that also takes the AO domain
(R408, R412) (DEDUCED, log entry 70). -/
def railChange (s : State) (present : Bool) : State :=
  if present || vbusThere s then
    srcEnable ((s.modPort fun p => { p with aoRail := present }).setFlag Reg.PDP_RECOVERY Fld.PDP_RECOVERY_MAIN_RAIL present)
  else
    let z := powerLost (pinsLow s)
    { z with
      regs := [], port := { Port.reset with aoRail := false }, folio := { z.folio with aoHeld := [] },
      pw := { Power.reset with off := true, vaultAt := s.fc.now } }

/-- The AO domain powers up from VBUS: a sink without PD contract, the hub in Recovery (R327, R340). -/
def deadBattery (s : State) : State :=
  let z := railChange { s with port := { s.port with st := 0 } } false
  usbConnect (portTo (enterRecovery z 1) 4) true

/-- VBUS at T + 1 ms of a fast role swap: below vSafe5V minimum the swap has failed, and a seal that still runs has lost
its supply (R339; the limit is the standard's, log entry 59). -/
def frsCheck (s : State) (mv : Nat) : State :=
  let s1 := s.setFld Reg.PDP_VBUS Fld.PDP_VBUS_MV mv
  if s.port.frsAt.isNone || decide (4750 ≤ mv) then s1
  else
    let s2 := frsFails s1 2
    if s2.folio.sealing = some false then
      (s2.modFolio fun f => { f with sealing := none }).modPw fun w => { w with squallNoSeal := true }
    else s2

/-- VBUS is removed (R341). -/
def vbusGone (s : State) (b : BootIn) : State :=
  let s1 := if vbusThere s then portDetach s else s
  if !s.port.aoRail then railChange s1 false
  else if s.pw.recovery ≠ 0 then resetButAo s1 b 1 else s1

end Sys2Proof.Machine
end

