-- ==== Sys2Proof/Machine/Faults.lean ====
section
/-! DEFINITION. Protection of registers (R56 to R59) and health of the SRAM (R394 to R397). -/
namespace Sys2Proof.Machine

/-! ## Votes, parity and holds (R56 to R59) -/

/-- The protection mode in force (R56). -/
def protMode (s : State) : Nat := s.fld Reg.GLB_PROT_STATUS Fld.GLB_PROT_STATUS_ACTIVE_MODE

/-- The bits of a register whose fields carry /T (R57). -/
def tripMask (a : Nat) : Word := BitVec.ofNat 32 (fieldsMask a fun f => f.trip)

/-- A block holds: it takes no configuration and starts no work (R59). -/
def holdBlock (s : State) (bit : Nat) : State :=
  if isHeld s bit then s
  else
    let s1 := glbInt (s.wr Reg.GLB_PROT_HOLD (s.rd Reg.GLB_PROT_HOLD ||| BitVec.ofNat 32 (2 ^ bit))) 1
    if bit = 13 then holdSegs s1 else s1

/-- A parity fault, or a disagreement of three copies, at a register (R58, R59) (DEDUCED, log entry 66). -/
def protFault (s : State) (addr : Nat) (three : Bool) : State :=
  let bit := regBlock addr
  let s1 := if s.flag Reg.GLB_PROT_STATUS Fld.GLB_PROT_STATUS_PARITY_FAULT then s
    else s.wr Reg.GLB_PARITY_ADDR (BitVec.ofNat 32 (2 ^ 31 + addr))
  let s2 := s1.setFlag Reg.GLB_PROT_STATUS Fld.GLB_PROT_STATUS_PARITY_FAULT true
  let s3 := if three then s2.setFlag Reg.GLB_PROT_STATUS Fld.GLB_PROT_STATUS_TRIPLE_DISAGREE true else s2
  let s4 := { s3 with badRegs := addNat s3.badRegs addr }.glb 3 1
  folPost (holdBlock s4 bit) 0x20 bit 2 (leBytes 1 bit ++ leBytes 1 (if three then 2 else 1) ++ leBytes 4 addr)

/-- One copy of a register was corrected from the other two (R58) (DEDUCED, log entry 66). -/
def voteFixed (s : State) (addr : Nat) : State :=
  glbInt (((s.glb 2 1).wr Reg.GLB_VOTE_ADDR (BitVec.ofNat 32 (2 ^ 31 + addr))).setFlag Reg.GLB_PROT_STATUS
    Fld.GLB_PROT_STATUS_VOTE_FIX true) 0

/-- What one copy of a register differs by from what was written (DEDUCED, log entry 66). -/
def flipOf (upsets : List Upset) (addr copy : Nat) : Word :=
  upsets.foldl (fun w u => if u.addr.toNat = addr ∧ u.copy.toNat = copy then w ^^^ u.flip else w) 0

/-- The /T fields of a register (R57). -/
def tripFields (a : Nat) : List FieldDef :=
  match Reg.at a with
  | some (_, r) => r.fields.filter fun f => f.trip
  | none => []

/-- Vote one field: the majority stands; with three different copies it is a fault (R58) (DEDUCED, log entry 66). -/
def voteField (s : State) (upsets : List Upset) (addr : Nat) (f : FieldDef) : State :=
  let m := BitVec.ofNat 32 ((2 ^ f.width - 1) * 2 ^ f.lo)
  let a := flipOf upsets addr 0 &&& m
  let b := flipOf upsets addr 1 &&& m
  let c := flipOf upsets addr 2 &&& m
  if a = b ∧ b = c then s.wr addr (s.rd addr ^^^ a)
  else if a = b ∨ a = c then voteFixed (s.wr addr (s.rd addr ^^^ a)) addr
  else if b = c then voteFixed (s.wr addr (s.rd addr ^^^ b)) addr
  else protFault s addr true

/-- Vote one register, field by field (R58). -/
def voteReg (s : State) (upsets : List Upset) (addr : Nat) : State :=
  forEach (tripFields addr) s fun s f => voteField s upsets addr f

/-- One scrub of all /T fields, in modes 0 and 2 (R58). -/
def voteScrub (s : State) (upsets : List Upset) : State :=
  if protMode s = 1 then s
  else forEach (upsets.foldl (fun l u => addNat l u.addr.toNat) []) s fun s a => voteReg s upsets a

/-- A fault of the check of a register: parity in modes 1 and 2, three different copies in modes 0 and 2 (R56, R59). -/
def checkFails (s : State) (addr : Nat) (three : Bool) : State :=
  if (Reg.at addr).isNone then s
  else if three then (if protMode s = 1 ∨ tripMask addr = 0 then s else protFault s addr true)
  else if protMode s = 0 then s else protFault s addr false

/-- Can an initiator write a register: some field of it is writable, and not /S for a non-secure one. -/
def writableBy (secure : Bool) (addr : Nat) : Bool :=
  match Reg.at addr with
  | some (_, r) => r.fields.any fun f => decide (f.acc ≠ .ro) && decide (f.acc ≠ .rc) && (secure || !f.sec)
  | none => false

/-- What goes on when a block is released: the waiting chip state, the segments and their SEG_STATE descriptors (R59, R162,
R163). -/
def unheld (s : State) (bit : Nat) : State :=
  match bit with
  | 4 => targetWaiting s
  | 9 => s.modFn .pf0 fun x => { x with kickDue := true }
  | 10 => s.modFn .pf1 fun x => { x with kickDue := true }
  | 13 => segStatesGo (freeSegs s)
  | _ => s

/-- Reload a register that the initiator of a release cannot write from its source; whether the check then passes is a free
value, and one that still fails holds its block until a warm reset (R59) (DESIGN CHOICE, log entry 66). -/
def reload (s : State) (a : Nat) : State :=
  let z := s.fresh
  if Config.reloadFails z.1 = 1 then { z.2 with stuckRegs := addNat z.2.stuckRegs a }
  else { z.2 with badRegs := dropNat z.2.badRegs a }

/-- Release holds: fields the initiator cannot write are reloaded from their sources; a block with a register that still
fails holds again at once (R59). -/
def releaseHolds (s : State) (secure : Bool) (bits : Nat) : State :=
  let mine := (bitList 14 bits).filter fun b => isHeld s b
  let again := s.badRegs.filter fun a => memNat mine (regBlock a) && !writableBy secure a && !memNat s.stuckRegs a
  forEach mine (forEach again s reload) fun s b =>
    if s.badRegs.any fun a => regBlock a == b then glbInt s 1
    else unheld (s.wr Reg.GLB_PROT_HOLD (s.rd Reg.GLB_PROT_HOLD &&& ~~~ (BitVec.ofNat 32 (2 ^ b)))) b

/-! ## SRAM (R394 to R397) -/

/-- The code of a region (FOL_POISON.REGION). -/
def regionCode : SramRegion → Nat
  | .contexts => 0
  | .pool => 1
  | .linkQueues => 2
  | .bookmark => 3
  | .gustRules => 4
  | .serviceCore => 5
  | .management => 6
  | .tables => 7

/-- FOL_REPAIR and FOL_SRAM_STATUS show the rows and pages. -/
def sramShow (s : State) : State :=
  ((s.setFld Reg.FOL_REPAIR Fld.FOL_REPAIR_PENDING s.sram.repairs).setFld Reg.FOL_REPAIR Fld.FOL_REPAIR_SPARES
    s.sram.spareRows).setFld Reg.FOL_SRAM_STATUS Fld.FOL_SRAM_STATUS_OUT_OF_USE s.sram.pages.length

/-- One word corrected by the patrol scrubber; the third correction within 86,400,000 frames queues its row (R394). -/
def corrected (s : State) (w : Nat) : State :=
  let near := (s.sram.hits.getD w []).filter fun f => decide ((s.fc.frameNo + 2 ^ 32 - f) % 2 ^ 32 ≤ 86400000)
  let now := near ++ [s.fc.frameNo]
  let m := if 3 ≤ now.length then { s.sram with hits := s.sram.hits.erase w, repairs := s.sram.repairs + 1 }
    else { s.sram with hits := s.sram.hits.insert w now }
  { s with sram := m }.glb 5 1

/-- One pass of the patrol scrubber (R394). -/
def patrolPass (s : State) (words : List Nat) : State :=
  if s.flag Reg.FOL_SCRUB Fld.FOL_SCRUB_SCRUB_EN then sramShow ((forEach words s corrected).bumpFld Reg.FOL_SCRUB Fld.FOL_SCRUB_PASSES)
  else s

/-- A host write lost with its page: a posted one is a late fault POISONED, a confirmed one completes WITHDRAWN (R396). -/
def poisonedWrite (s : State) (w : HostWrite) : State :=
  if w.posted then lateFault s w.d 0x82 else completeId s w.desc Status.withdrawn

/-- Every queued write of an endpoint is lost. -/
def poisonWrites (s : State) (k : Nat) : State :=
  let c := s.ep k
  let s1 := s.setEp k { c with sending := none, hostWrites := [], ruleSending := none, ruleWrites := [], writeFails := 0,
                               writeFailedNow := false }
  let s2 := (c.sending.toList ++ c.hostWrites).foldl poisonedWrite s1
  (c.ruleSending.toList ++ c.ruleWrites).foldl (fun s w => ruleOutcome s (keyTea s k) w 4) s2

/-- One context of a poisoned page: its reset configuration, its writes lost, RESET_EP before its next use; its Gale share
stays (R397) (DEDUCED, log entry 67). -/
def rebuildCtx (s : State) (k : Nat) : State :=
  let s1 := releaseBuf (poisonWrites s k) k
  s1.modEp k fun c => { EpCtx.reset with
    info := c.info, resetEpFirst := true, galeKept := holdsShare c }

/-- A poisoned page of contexts: moved to a spare page and rebuilt; one DETACH of scope endpoints for each attached
node (R396, R397) (DEDUCED, log entry 67). -/
def contextsLost (s : State) (ks : List Nat) : State :=
  let left := s.fld Reg.FOL_SRAM_STATUS Fld.FOL_SRAM_STATUS_SPARE_CTX
  if left = 0 then
    let z := s.fresh
    unplanned z.2 (Config.bootFound z.1) 8 5 2
  else
    let mine := ks.filter fun k => decide (k < 2 ^ 19)
    let s1 := forEach mine (s.setFld Reg.FOL_SRAM_STATUS Fld.FOL_SRAM_STATUS_SPARE_CTX (left - 1)) rebuildCtx
    forEach (mine.foldl (fun l k => addNat l (k / 32)) []) s1 fun s n =>
      if nodeThere s (n / 256) (n % 256) then
        detachEvent s (n / 256) (n % 256) 0x10 1 (bitmapOf ((mine.filter fun k => k / 32 == n).map fun k => k % 32))
      else s

/-- A poisoned page of the buffer pool: items below 2^19 name endpoints, the others waiting records by their place
(R396) (DEDUCED, log entry 67). -/
def poolLost (s : State) (items : List Nat) : State :=
  let s1 := forEach (items.filter fun k => decide (k < 2 ^ 19)) s fun s k =>
    (poisonWrites s k).modEp k fun c => { c with sample := none, force := true }
  let gone := (items.filter fun k => decide (2 ^ 19 ≤ k)).map fun k => k - 2 ^ 19
  let lost := (List.range s1.pool.length).filter fun i => memNat gone i
  let s2 := forEach lost s1 fun t i => match s1.pool[i]? with
    | some w => poolRelease t w
    | none => t
  let s3 := { s2 with pool := ((List.range s1.pool.length).filter fun i => !memNat gone i).filterMap fun i => s1.pool[i]? }
  setPool s3 (poolFree s3 - 64)

/-- A poisoned page of a segment's queue: it is emptied without transmission, and its distribution session ends (R396). -/
def queueLost (s : State) (p : Nat) : State :=
  let x := s.seg p
  let hostCtl := fun (c : Ctl) => match c.owner with
    | .host _ => true
    | _ => false
  let s1 := s.setSeg p { x with ctls := x.ctls.filter (fun c => !hostCtl c), bulks := [], bcast := [], work := [], cur := [] }
  let s2 := (x.ctls.filter hostCtl).foldl (fun s c => match c.owner with
    | .host d => completeId s d Status.withdrawn
    | _ => s) s1
  let s3 := x.bulks.foldl (fun s b => completeId s b.desc Status.withdrawn) s2
  let s4 := x.bcast.foldl (fun s b => poisonedWrite s b.2) s3
  distClose (forEach ((s4.eps.filter fun kv => kv.1 / 8192 == p).map (·.1)) s4 poisonWrites) p

/-- A poisoned page of Gust rules: each is cleared and disabled, and counted (R396). -/
def rulesLost (s : State) (rs : List Nat) : State :=
  let s1 := forEach (rs.filter fun i => (s.rule i).present) s fun s i => gstCnt ((switchRule s i false).1.setRule i Rule.reset) 13 1
  resubscribe (gustShow s1)

/-- A poisoned page of tables: quarantined entries are lost, persistent ones come from Bank C; a full doorbell read
starts (R396) (DEDUCED, log entry 68). -/
def tablesLost (s : State) : State :=
  let gone := (s.nodes.filter fun kv => kv.2.quarantined).map (·.1)
  let s1 := forEach gone { s with catalogue := s.nvm.catalogue } fun s n =>
    (s.setNode n Node.reset).modSeg (n / 256) fun x => { x with reannounce := true }
  if isBranch s then s1
  else forEach [Fn.pf0, Fn.pf1] s1 fun s f => s.modFn f fun x => { x with kickDue := true }

/-- FOL_POISON0–7: the newest page in register 0. -/
def poisonNote (s : State) (region page : Nat) : State :=
  let s1 := forEach [7, 6, 5, 4, 3, 2, 1] s fun s k => s.wr (Reg.FOL_POISON k) (s.rd (Reg.FOL_POISON (k - 1)))
  s1.wr (Reg.FOL_POISON 0) (BitVec.ofNat 32 (2 ^ 31 + region * 2 ^ 27 + page))

/-- What each region does with a poisoned page (R396) (DEDUCED, log entry 67). -/
def regionLost (s : State) (items : List Nat) : SramRegion → State
  | .contexts => contextsLost s items
  | .pool => poolLost s items
  | .linkQueues => forEach (items.filter fun l => decide (l ≤ 16) && ((s.link l).st == 8 || (s.link l).st == 9)) s retrain
  | .bookmark => forEach (items.filter fun p => decide (p < 48)) s queueLost
  | .gustRules => rulesLost s items
  | .serviceCore =>
    let z := s.fresh
    coreFails z.2 (items.headD 0 % 8) 3 (Config.bootFound z.1)
  | .management =>
    let z := s.fresh
    unplanned z.2 (Config.bootFound z.1) 8 3 2
  | .tables => tablesLost s

/-- An uncorrectable error poisons its page (R395, R396) (DESIGN CHOICE, log entry 11; DEDUCED, log entry 67). -/
def pagePoisoned (s : State) (region : SramRegion) (page off : Nat) (items : List Nat) : State :=
  let p := page % 2 ^ 14
  if s.sram.pages.any fun x => x.2 == p then s
  else
    let m := { s.sram with pages := s.sram.pages ++ [((regionCode region), p)], repairs := s.sram.repairs + 1 }
    let s1 := sramShow (poisonNote ({ s with sram := m }.glb 6 1) (regionCode region) p)
    let s2 := folInt s1 4
    let s3 := folPost s2 0x21 27 2 (leBytes 1 (regionCode region) ++ leBytes 2 p ++ leBytes 2 (off % 4096) ++ leBytes 4 items.length)
    regionLost s3 items region

end Sys2Proof.Machine
end

