-- ==== Sys2Proof/Machine/RegLive.lean ====
section
/-! DEFINITION. What a register reads as: the words that show state held elsewhere, pending values, latches, read-clear
fields and secure-only fields (R39 to R45, R49, R60 to R62, R66, R68). -/
namespace Sys2Proof.Machine

/-! ## Who accesses (R60, R61) -/

/-- Is an initiator a secure master now: the management core always, the host of an Open part until SEC_LOCK. -/
def isSecure (s : State) : Initiator → Bool
  | .mgmt => true
  | .pf _ => s.nvm.lifecycle == 1 && !s.locked
  | .branchCtl _ | .maint | .jtag => false

/-- The function an access belongs to, whose latches it uses (R41). -/
def iniFn : Initiator → Option Fn
  | .pf f | .branchCtl f => some f
  | .maint | .jtag | .mgmt => none

/-- Does an address lie in the HIF instance of PF1 while there is no PF1 (R68). -/
def pf1Absent (s : State) (a : Nat) : Bool := decide (0x11000 ≤ a) && decide (a < 0x12000) && !isDual s

/-- Do an initiator's accesses to an address reach the registers: a function that exists needs HIF_READY, but for
HIF_STATUS, and the JTAG port its enable (R60, R368, R415). -/
def reaches (s : State) (ini : Initiator) (a : Nat) : Bool :=
  match ini with
  | .pf f => hostThere s f && (isReady s || a == Reg.HIF_STATUS 0 || a == Reg.HIF_STATUS 1)
  | .jtag => s.flag Reg.SEC_JTAG Fld.SEC_JTAG_ENABLE
  | .branchCtl _ | .maint | .mgmt => true

/-! ## Words that show other state -/

/-- One word of a bitmap of numbers. -/
def bitmapWord (l : List Nat) (k : Nat) : Nat := bitmapOf ((l.filter fun n => n / 32 == k).map (· % 32))

/-- How many bits of the low n are set. -/
def countBits (n v : Nat) : Nat := (bitList n v).length

/-- GLB registers that show state. -/
def glbLive (s : State) (a : Nat) : Option Nat :=
  if a = Reg.GLB_ROLE then some (s.hubNo * 2048 + s.nvm.lifecycle * 256 + s.role)
  else if a = Reg.GLB_PROT then some ((s.nvm.pendingMode.orElse fun _ => s.nvm.storedMode).getD 2)
  else if a = Reg.GLB_APPLY_PENDING then
    some (b2n s.nvm.pendingMode.isSome * 2 ^ 17 + s.fld a Fld.GLB_APPLY_PENDING_BOOT * 2 ^ 16 + pendingBlocks s)
  else if a = Reg.GLB_FRAME then some s.fc.frameNo
  else none

/-- Whole ms left of the lease. -/
def leaseLeft (s : State) : Nat := if s.lease.valid then Nat.min 0xFFFF ((s.lease.until_ - s.fc.now) / 1000000) else 0

/-- HIF registers that show state: the instance of a function, by the offset in it. -/
def hifLive (s : State) (f : Fn) (off : Nat) : Option Nat :=
  let i := fnIx f
  if off = 0x0 then some (b2n (kickMode s f))
  else if off = 0x4 then
    let active := isReady s && (!isDual s || holdsLease s f)
    some (b2n (isReady s) * 2 ^ 31 + b2n active * 2 ^ 30 + b2n (isStandby s f) * 2 ^ 29 +
      s.fld (Reg.HIF_STATUS i) Fld.HIF_STATUS_WIDTH * 16 + s.fld (Reg.HIF_STATUS i) Fld.HIF_STATUS_SPEED)
  else if off = 0x20 then
    some (b2n s.lease.valid * 2 ^ 31 + fnIx (s.lease.holder.getD .pf0) * 2 ^ 30 + b2n s.lease.expired * 2 ^ 29 +
      s.fld (Reg.HIF_LEASE_STATUS i) Fld.HIF_LEASE_STATUS_TAKES * 2 ^ 16 + leaseLeft s)
  else if off = 0x3C then some (s.fld (Reg.HIF_PENDING i) Fld.HIF_PENDING_FQ_WAITING * 65536 + eqFull s f)
  else if 0x100 ≤ off ∧ off < 0x200 then some (ringEnableWord s f ((off - 0x100) / 4))
  else none

/-- The state of a distribution session: 0 idle, 1 sending, 2 collecting, 3 resending (SEG_FW_STATUS). -/
def distState (d : Dist) : Nat :=
  match d.blocks.find? fun b => !b.sent with
  | some b => if b.rounds = 0 then 1 else 3
  | none => if d.blocks.isEmpty then 0 else 2

/-- SEG registers that show state, by the offset in the port's block. -/
def segLive (s : State) (p off : Nat) : Option Nat :=
  let x := s.seg p
  let gale := (x.shares.map (·.1)).filter (· < 256)
  if off = 0x4 then
    some ((attachedOf s p).length * 2 ^ 24 + gale.length * 2 ^ 16 + b2n x.faulted * 16 + b2n x.dist.isSome * 8 + x.st)
  else if off = 0x18 then
    some (s.fld (Reg.SEG_SCHED p) Fld.SEG_SCHED_COV_BUDGET * 2 ^ 24 + roundUs s p / 125)
  else if off = 0x1C then some (galeBt s p * 65536 + draughtCap s p)
  else if off = 0x24 then some (bqCount x)
  else if off = 0x30 then some (match x.dist with
    | some d => d.session * 65536 + ((d.blocks.find? fun b => !b.done).map fun b => b.rounds).getD 0 * 256 + distState d
    | none => 0)
  else if off = 0x34 then some (match x.dist with
    | some d => d.targets.length * 2 ^ 24 + d.dropped * 65536 + d.blocks.length
    | none => 0)
  else if 0x80 ≤ off ∧ off < 0xA0 then some (bitmapWord (attachedOf s p) ((off - 0x80) / 4))
  else if 0xA0 ≤ off ∧ off < 0xC0 then some (bitmapWord gale ((off - 0xA0) / 4))
  else if 0xC0 ≤ off ∧ off < 0xE0 then
    some (bitmapWord ((nodesOf s p).filter fun n => (s.node (nodeKey p n)).quarantined) ((off - 0xC0) / 4))
  else if 0xE0 ≤ off ∧ off < 0x100 then
    some (bitmapWord ((nodesOf s p).filter fun n => (s.node (nodeKey p n)).failing) ((off - 0xE0) / 4))
  else none

/-- LNK registers that show state, by the offset in the port's block. -/
def lnkLive (s : State) (l off : Nat) : Option Nat :=
  let k := s.link l
  if off = 0x8 then
    some (s.fld (Reg.LNK_STATUS l) Fld.LNK_STATUS_CAUSE * 2 ^ 24 + b2n k.presence * 2 ^ 15 +
      b2n (k.active != 0 && decide (countBits 4 k.active < k.width)) * 2 ^ 14 + k.active * 2 ^ 10 + k.rate * 2 ^ 7 + k.st)
  else if off = 0xC then some (k.width * 2 ^ 20 + k.resolved * 65536 + k.lp * 256 + k.adv)
  else if off = 0x10 then
    some (k.phub * 65536 + k.pwidth * 4096 + k.pport * 256 + b2n k.quarantined * 128 + b2n k.certOk * 64 + k.plife % 2 * 32 +
      k.cls)
  else if off = 0x14 then some (k.identity % 2 ^ 32)
  else if off = 0x18 then some (k.identity / 2 ^ 32 % 2 ^ 32)
  else if 0x20 ≤ off ∧ off < 0x30 then
    some (k.credits.getD ((off - 0x20) / 4) 0 * 65536 + k.rxFree.getD ((off - 0x20) / 4) 0)
  else none

/-- The segments of a list over all 48. -/
def segsWhere (p : Nat → Bool) : List Nat := (List.range 48).filter p

/-- SPW registers of the common block that show state. -/
def spwLive (s : State) (off : Nat) : Option Nat :=
  let k := off / 4 % 2
  if off = 0x4 then
    let ramping := inPower s 2
    some ((inPower s 1).length * 2 ^ 24 + ramping.length * 65536 +
      b2n (ramping.any fun p => decide (inrushLimit s < declaredInrush s p)) * 2 ^ 15 + Nat.min 511 (ceilDiv (inrushUsed s) 10))
  else if off = 0x28 ∨ off = 0x2C then some (bitmapWord (segsWhere fun p => s.flag (Reg.SPW_CTRL p) Fld.SPW_CTRL_ON) k)
  else if off = 0x30 ∨ off = 0x34 then some (bitmapWord (inPower s 1) k)
  else if off = 0x38 ∨ off = 0x3C then some (bitmapWord (inPower s 2) k)
  else if off = 0x40 ∨ off = 0x44 then some (bitmapWord (inPower s 4) k)
  else if off = 0x48 ∨ off = 0x4C then some (bitmapWord (inPower s 5) k)
  else if off = 0x50 ∨ off = 0x54 then some (bitmapWord (segsWhere fun p => s.flag (Reg.SPW_STATUS p) Fld.SPW_STATUS_SUSPECT) k)
  else if off = 0x58 ∨ off = 0x5C then some (bitmapWord (segsWhere fun p => galeBearing s p) k)
  else if 0x60 ≤ off ∧ off < 0x78 then
    let b := (off - 0x60) / 4
    let sum := (List.range 8).foldl (fun a i => a + s.fld (Reg.SPW_STATUS (8 * b + i)) Fld.SPW_STATUS_I_NOW) 0
    some (s.fld (Reg.SPW_BANK b) Fld.SPW_BANK_RTN_SUSPECT * 2 ^ 31 + Nat.min 4095 (sum / 10) * 65536 +
      s.fld (Reg.SPW_BANK b) Fld.SPW_BANK_SHIFT_UV)
  else none

/-- TIM registers that show state. -/
def timLive (s : State) (a : Nat) : Option Nat :=
  if a = Reg.TIM_STATUS then
    some (b2n s.tt.ok * 2 ^ 15 + b2n s.tt.absolute * 2 ^ 14 + b2n s.tt.slewing * 2 ^ 13 +
      b2n (isBranch s && !decide ((s.link upLink).st = 8)) * 2 ^ 12 + tqNow s false * 2 ^ 10 +
      s.tt.parent.code * 2 ^ 7 + s.tt.own.code * 16 + s.tt.eff.code)
  else if a = Reg.TIM_NOW_LO then some (treeNs s % 2 ^ 32)
  else if a = Reg.TIM_NOW_HI then some (treeNs s / 2 ^ 32)
  else if a = Reg.TIM_NOW_FRAC then some (s.tt.time % 65536)
  else if a = Reg.TIM_SLEW_LEFT then some (ofSigned 32 (offsetNs s.tt.slewLeft))
  else if a = Reg.TIM_HOLD_ELAPSED then some (holdSeconds s)
  else none

/-- PDP registers that show state. -/
def pdpLive (s : State) (a : Nat) : Option Nat :=
  if a = Reg.PDP_SRC_PDO then some (srcPdo s)
  else if a = Reg.PDP_SNK_PDO then some snkPdo
  else none

/-- The word an initiator reads where the register shows state held elsewhere; none where the register is its own home. -/
def derived (s : State) (ini : Initiator) (a : Nat) : Option Nat :=
  if a < 0x1000 then glbLive s a
  else if a = Reg.SEC_STATUS then
    some (setBits (s.rd a).toNat 0 1 (b2n (isSecure s ini)))
  else if a < 0x3000 then nvmWord s a
  else if 0x5000 ≤ a ∧ a < 0x6000 then timLive s a
  else if a = Reg.LIB_POOL then some (poolFree s)
  else if 0x8000 ≤ a ∧ a < 0x9000 then pdpLive s a
  else if 0x10000 ≤ a ∧ a < 0x12000 then
    if a % 0x1000 = 0x24 then some (s.rd (Reg.GLB_CNT 0)).toNat
    else if pf1Absent s a then some (resetWord a).toNat
    else if a = Reg.HIF_LEASE_PERIOD 1 then some 0
    else hifLive s (if a < 0x11000 then .pf0 else .pf1) (a % 0x1000)
  else if 0x20000 ≤ a ∧ a < 0x20960 then some (s.cen.getD ((a - 0x20000) / 4) 0).toNat
  else if 0x30000 ≤ a ∧ a < 0x31000 then spwLive s (a - 0x30000)
  else if 0x100000 ≤ a ∧ a < 0x110000 then lnkLive s ((a - 0x100000) / 0x1000) (a % 0x1000)
  else if 0x200000 ≤ a ∧ a < 0x20C000 then segLive s ((a - 0x200000) / 0x400) (a % 0x400)
  else none

/-- The live word of a register as an initiator sees it. -/
def liveWord (s : State) (ini : Initiator) (a : Nat) : Word :=
  match derived s ini a with
  | some n => BitVec.ofNat 32 n
  | none => s.rd a

/-- The port whose SEG_SCHED stands at an address. -/
def schedPort (a : Nat) : Option Nat :=
  if 0x200000 ≤ a ∧ a < 0x20C000 ∧ a % 0x400 = 0x18 then some ((a - 0x200000) / 0x400) else none

/-- The word with what is pending in place of its buffered fields (R45, R49). A pending SEG_SCHED.ROUND shows the round it
asks for, as it stands now (R184). -/
def shownWord (s : State) (ini : Initiator) (a : Nat) : Word :=
  match s.shadows.find a with
  | some _ =>
    let w := mergeWord (liveWord s ini a) (pendingWord s a) (bufMask a)
    match schedPort a with
    | some p => putField w Fld.SEG_SCHED_ROUND (roundFor s p (getField w Fld.SEG_SCHED_ROUND) / 125)
    | none => w
  | none => liveWord s ini a

/-- The bits an initiator can read: no WO field, and no /S field for a non-secure one (R45, R62). -/
def readMask (a : Nat) (secure : Bool) : Word :=
  BitVec.ofNat 32 (fieldsMask a fun f => decide (f.acc ≠ .wo) && (secure || !f.sec))

/-! ## Latches (R41) -/

/-- The key of a function's latch of a register. -/
def latchKey (f : Fn) (a : Nat) : Nat := fnIx f * 2 ^ 24 + a

/-- Low words whose high word follows directly, by block. -/
def plainPair (a : Nat) : Bool :=
  memNat [Reg.GLB_FRAME_TIME_LO, Reg.GLB_CENSUS_TIME_LO, Reg.HIF_RCT_BASE_LO 0, Reg.HIF_RCT_BASE_LO 1, Reg.HIF_DB_BASE_LO 0, Reg.HIF_DB_BASE_LO 1,
    Reg.HIF_ERR_ADDR_LO 0, Reg.HIF_ERR_ADDR_LO 1, Reg.LIB_RSV0_BASE_LO, Reg.LIB_RSV1_BASE_LO, Reg.PDP_FRS_TIME_LO,
    Reg.SEC_DEV_ID_LO, Reg.NVM_SCHED_TIME_LO] a ||
  (decide (0x100000 ≤ a) && decide (a < 0x110000) && memNat [0x14, 0xA8, 0xC0, 0xC8, 0xD0, 0xD8] (a % 0x1000)) ||
  (decide (0x200000 ≤ a) && decide (a < 0x20C000) && a % 0x400 == 0x58) ||
  (decide (0x20060 ≤ a) && decide (a < 0x20660) && (a - 0x20060) % 0x20 == 0x18) ||
  (decide (0x20660 ≤ a) && decide (a < 0x20960) && (a - 0x20660) % 0x30 == 0x28)

/-- The registers that a read of a lower word latches (R41) (DEDUCED, log entry 15). -/
def uppers (a : Nat) : List Nat :=
  if a = Reg.GLB_FRAME then [Reg.GLB_FRAME_PHASE, Reg.GLB_FRAME_TIME_LO, Reg.GLB_FRAME_TIME_HI]
  else if a = Reg.TIM_NOW_LO then [Reg.TIM_NOW_HI, Reg.TIM_NOW_FRAC]
  else if plainPair a then [a + 4]
  else []

/-- A read of GLB_FRAME fixes the phase and the tree time on the same edge (GLB_FRAME) (DEDUCED, log entry 15). -/
def noteFrame (s : State) : State :=
  let t := treeNs s
  ((s.wr Reg.GLB_FRAME_PHASE (BitVec.ofNat 32 (s.fc.slot * 2 ^ 20 + Nat.min 999999 (s.fc.now - s.fc.frameStart)))).wr
    Reg.GLB_FRAME_TIME_LO (BitVec.ofNat 32 t)).wr Reg.GLB_FRAME_TIME_HI (BitVec.ofNat 32 (t / 2 ^ 32))

/-- A read of a lower word latches its upper words for the reading function (DEDUCED, log entry 15). -/
def latchUppers (s : State) (ini : Initiator) (a : Nat) : State :=
  let s1 := if a = Reg.GLB_FRAME then noteFrame s else s
  match iniFn ini with
  | some f => { s1 with latches := (uppers a).foldl (fun t u => t.insert (latchKey f u) (shownWord s1 ini u)) s1.latches }
  | none => s1

/-- The latched word of a register for the reading function. -/
def latched (s : State) (ini : Initiator) (a : Nat) : Option Word :=
  match iniFn ini with
  | some f => s.latches.find (latchKey f a)
  | none => none

/-- The latch of a register ends. -/
def dropLatch (s : State) (ini : Initiator) (a : Nat) : State :=
  match iniFn ini with
  | some f => { s with latches := s.latches.erase (latchKey f a) }
  | none => s

/-! ## Reads -/

/-- A read-clear field starts anew (R42). -/
def clearRc (s : State) (a : Nat) : State :=
  let mask := fieldsMask a fun f => decide (f.acc = .rc)
  if mask = 0 then s
  else
    let s1 := s.wr a (s.rd a &&& ~~~(BitVec.ofNat 32 mask))
    if a = Reg.PWR_TEMP_PEAK then s1.modPw fun w => { w with peakSeen := false } else s1

/-- The read of one register that is assigned and reached; full says that all four bytes are read (DEDUCED, log entry
15). -/
def readReg (s : State) (ini : Initiator) (a : Nat) (full : Bool) : State × Word :=
  let mask := readMask a (isSecure s ini)
  match latched s ini a with
  | some w => (dropLatch s ini a, w &&& mask)
  | none =>
    let w := shownWord s ini a &&& mask
    let s1 := latchUppers s ini a
    (if full then clearRc s1 a else s1, w)

/-- The bytes of an aligned 8-byte unit that an access covers and enables. -/
def enabledBytes (acc : Access) : List Nat :=
  let base := acc.addr.toNat % 8
  (List.range 8).filter fun i => decide (base ≤ i) && decide (i < base + acc.size) && bitOf acc.be.toNat i

/-- Does an access stay within one aligned 8-byte unit (R40). -/
def inUnit (acc : Access) : Bool := decide (acc.addr.toNat % 8 + acc.size ≤ 8)

/-- The read of one half of a unit: 0 where nothing is assigned or reached (R7). -/
def readHalf (s : State) (acc : Access) (h : Nat) : State × Nat :=
  let a := acc.addr.toNat / 8 * 8 + 4 * h
  let en := (enabledBytes acc).filter fun i => i / 4 == h
  if en.isEmpty || (Reg.at a).isNone || !reaches s acc.ini a then (s, 0)
  else
    let z := readReg s acc.ini a (en.length == 4)
    (z.1, en.foldl (fun v i => v + bitsOf z.2.toNat (8 * (i % 4)) 8 * 2 ^ (8 * (i % 4))) 0)

/-- A host access ends Lull (R319) (DEDUCED, log entry 16). -/
def hostTouches (s : State) (ini : Initiator) : State :=
  match ini with
  | .pf _ => lullWake s 2
  | .branchCtl _ | .maint | .jtag | .mgmt => s

/-- A read of 1 to 8 bytes: lower register first; one that crosses a unit reads 0 and does nothing (R40) (DEDUCED, log
entry 16). -/
def readAccess (s0 : State) (acc : Access) : State :=
  let s := hostTouches s0 acc.ini
  if inUnit acc then
    let lo := readHalf s acc 0
    let hi := readHalf lo.1 acc 1
    hi.1.emit (.readData (BitVec.ofNat 64 (lo.2 + hi.2 * 2 ^ 32)))
  else s.emit (.readData 0)

end Sys2Proof.Machine
end

