-- ==== Sys2Proof/Machine/RegWrite.lean ====
section
/-! DEFINITION. Register writes (R40, R45 to R55, R59 to R63, R68, R79, R100, R101, R161, R195, R245): who may write, what
a field takes, and what a write starts. -/
namespace Sys2Proof.Machine

/-- What a write that starts a boot or looks at flash finds, when its row says so. -/
structure WriteIn where
  boot : Option BootIn
  found : Option (BitVec 2)
  deriving DecidableEq, Repr

/-- A plain register access says neither (DESIGN CHOICE, log entry 11). -/
def WriteIn.plain : WriteIn := ⟨none, none⟩

/-- What a start finds: the row's operand, or a free value. -/
def WriteIn.bootOf (x : WriteIn) (s : State) : State × BootIn :=
  match x.boot with
  | some b => (s, b)
  | none => let z := s.fresh; (z.2, Config.bootFound z.1)

/-- What a look at flash finds: the row's operand, or a free value. -/
def WriteIn.foundOf (x : WriteIn) (s : State) : State × Nat :=
  match x.found with
  | some n => (s, n.toNat)
  | none => let z := s.fresh; (z.2, (Config.checkFound z.1).toNat)

/-! ## Ignored accesses (R62, R63) -/

/-- SOURCE of GLB_SEC_FAULT_ADDR. -/
def iniSource : Initiator → Nat
  | .pf .pf0 => 0
  | .pf .pf1 => 1
  | .branchCtl _ => 2
  | .maint | .jtag | .mgmt => 3

/-- An access counted as ignored (R62). -/
def secFault (s : State) (ini : Initiator) (a : Nat) (bar4 : Bool) : State :=
  glbInt ((s.glb 4 1).wr Reg.GLB_SEC_FAULT_ADDR
    (BitVec.ofNat 32 (2 ^ 31 + iniSource ini * 2 ^ 29 + b2n bar4 * 2 ^ 28 + a))) 3

/-- Does a register hold an /S field. -/
def hasSecField (a : Nat) : Bool := fieldsMask a (fun f => f.sec) != 0

/-- A register of a function's own HIF instance (R63). -/
def ownHif (f : Fn) (a : Nat) : Bool := a / 0x1000 == 0x10 + fnIx f

/-! ## What a field takes (R53) -/

/-- The value a field takes, and whether a clamp changed it (DEDUCED, log entry 19). -/
def clampField (f : FieldDef) (prev v : Nat) : Nat × Bool :=
  match f.clamp with
  | .none => (v, false)
  | .range lo hi => (clampNat lo hi v, clampNat lo hi v != v)
  | .keepBelow n => if v < n then (prev, true) else (v, false)
  | .keepAbove n => if n < v then (prev, true) else (v, false)
  | .alignLow b => (v / 2 ^ b * 2 ^ b, false)

/-- Is a field an RW field of an initiator. -/
def FieldDef.writable (secure : Bool) (f : FieldDef) : Bool := decide (f.acc = .rw) && (secure || !f.sec)

/-- Every RW field of a register takes its value; the other bits stay as they were (DEDUCED, log entry 19). -/
def clampWord (a : Nat) (prev w : Word) (secure : Bool) : Word × Bool :=
  match Reg.at a with
  | some (_, r) => (r.fields.filter (FieldDef.writable secure)).foldl (fun acc f =>
      let z := clampField f (bitsOf prev.toNat f.lo f.width) (bitsOf w.toNat f.lo f.width)
      (BitVec.ofNat 32 (setBits acc.1.toNat f.lo f.width z.1), acc.2 || z.2)) (prev, false)
  | none => (prev, false)

/-- The registers that rings in use hold (R101) (DEDUCED, log entry 17). -/
def ringHeld (s : State) (a : Nat) : Bool :=
  [Fn.pf0, Fn.pf1].any fun f =>
    let i := fnIx f
    memNat [Reg.HIF_RCT_BASE_LO i, Reg.HIF_RCT_BASE_HI i, Reg.HIF_DB_BASE_LO i, Reg.HIF_DB_BASE_HI i, Reg.HIF_SYS_EQ i] a &&
      ringsBusy s f

/-- Does a hold rule keep the register as it is: base addresses with rings in use, a region in use, Vault
without its key (R101, R245, R312) (DEDUCED, log entry 17). -/
def keeps (s : State) (a : Nat) (w : Word) : Bool :=
  ringHeld s a ||
  (memNat [Reg.LIB_RSV0_BASE_LO, Reg.LIB_RSV0_BASE_HI, Reg.LIB_RSV0_SIZE] a && usedIn s .pf0 != 0) ||
  (memNat [Reg.LIB_RSV1_BASE_LO, Reg.LIB_RSV1_BASE_HI, Reg.LIB_RSV1_SIZE] a && usedIn s .pf1 != 0) ||
  (a == Reg.PWR_CTRL && w.toNat % 4 == 3 && w.toNat / 65536 != 0x7A57)

/-- Does a round period count as clamped: beyond 65,535 ms, 0, or raised above the grid value asked for (R53, R184)
(DEDUCED, log entry 19). -/
def roundClamps (s : State) (p asked : Nat) : Bool :=
  asked == 0 || decide (524280 < asked) || roundFor s p asked != gridUp (asked * 125)

/-- Rules of single registers on the word their fields took: the generation (R161), the marks of LIB_TIER, the round
(R184), BOND of an odd port, the time source of a branch (R282), and DB_MODE = 0 without AtomicOps: it counts, is the last
value written, and shows once AtomicOps are enabled (R79). -/
def special (s : State) (a : Nat) (prev w : Word) : Word × Bool :=
  if 0x200000 ≤ a ∧ a < 0x20C000 ∧ a % 0x400 = 0 then segCtrlWord s ((a - 0x200000) / 0x400) w
  else if a = Reg.LIB_TIER then
    let lo := getField w Fld.LIB_TIER_LOW_WATER
    if getField w Fld.LIB_TIER_HIGH_WATER < lo then (putField w Fld.LIB_TIER_HIGH_WATER lo, true) else (w, false)
  else if 0x100000 ≤ a ∧ a < 0x110000 ∧ a % 0x2000 = 0x1004 then (putField w Fld.LNK_CFG_BOND 0, false)
  else if a = Reg.TIM_SRC ∧ isBranch s then (prev, false)
  else if a = Reg.HIF_CTRL 0 then (w, !s.fn0.atomicEn && getField w Fld.HIF_CTRL_DB_MODE == 0)
  else if a = Reg.HIF_CTRL 1 then (w, !s.fn1.atomicEn && getField w Fld.HIF_CTRL_DB_MODE == 0)
  else match schedPort a with
    | some p => (w, roundClamps s p (getField w Fld.SEG_SCHED_ROUND))
    | none => (w, false)

/-! ## The parts of a write -/

/-- Addresses whose write does nothing, and counts nothing: PF1's instance without a PF1, the second port of a bonded
pair, PF1's lease period (R68, R195). -/
def ignoredWrite (s : State) (a : Nat) : Bool :=
  pf1Absent s a || a == Reg.HIF_LEASE_PERIOD 1 ||
    (decide (0x100000 ≤ a) && decide (a < 0x110000) && bondedAway s ((a - 0x100000) / 0x1000))

/-- W1C fields of GLB_PROT_HOLD and LIB_FWD_STATUS end what they show, and are no plain bits. -/
def plainW1c (a : Nat) : Bool := a != Reg.GLB_PROT_HOLD && a != Reg.LIB_FWD_STATUS

/-- W1C fields written 1 clear. -/
def writeW1c (s : State) (a : Nat) (w : Word) (secure : Bool) : State :=
  if plainW1c a then
    s.wr a (s.rd a &&& ~~~(w &&& BitVec.ofNat 32 (fieldsMask a fun f => decide (f.acc = .w1c) && (secure || !f.sec))))
  else s

/-- Is a register an interrupt enable whose messages go to the function that wrote it (DESIGN CHOICE, log entry 12).
-/
def isIntEnable (a : Nat) : Bool :=
  memNat [Reg.GLB_INT_ENABLE, Reg.LIB_INT_ENABLE, Reg.GST_INT_ENABLE, Reg.TIM_INT_ENABLE, Reg.SPW_INT_ENABLE,
    Reg.PWR_INT_ENABLE, Reg.PDP_INT_ENABLE, Reg.SEC_INT_ENABLE, Reg.NVM_INT_ENABLE, Reg.FOL_INT_ENABLE] a ||
  (decide (0x100000 ≤ a) && decide (a < 0x110000) && a % 0x1000 == 0x5C) ||
  (decide (0x200000 ≤ a) && decide (a < 0x20C000) && a % 0x400 == 0x3C)

/-- The writing function owns an interrupt enable (log entry 12). -/
def noteOwner (s : State) (ini : Initiator) (a : Nat) : State :=
  match iniFn ini with
  | some f => if isIntEnable a then { s with intFn := s.intFn.put a false (decide (f = .pf1)) } else s
  | none => s

/-- A round that counted is not counted again at its boundary (R54) (DEDUCED, log entry 19). -/
def noteRound (s : State) (a : Nat) (counted : Bool) : State :=
  match schedPort a with
  | some p => s.modSeg p fun x => { x with roundCounted := counted }
  | none => s

/-- The RW fields of a write: immediate ones into the register, buffered ones into its shadow (R47 to R49, R53). The live
fields of a held block stay (R59). A BOOT value is clamped to the stored one when the settings store is read-only
(R354). -/
def writeRw (s : State) (ini : Initiator) (a : Nat) (w : Word) (secure held : Bool) : State :=
  let mine := fieldsMask a (FieldDef.writable secure)
  if mine = 0 then s
  else if a = Reg.GLB_PROT then
    if s.nvm.settingsRo then s.clampIf (w.toNat % 4 != s.nvm.storedMode.getD (resetWord a).toNat)
    else (s.modNvm fun n => { n with pendingMode := some (w.toNat % 4) }).setFlag Reg.GLB_APPLY_PENDING Fld.GLB_APPLY_PENDING_BOOT true
  else if keeps s a w then s.clamped
  else
    let prev := pendingWord s a
    let z := clampWord a prev w secure
    let y := special s a prev z.1
    let s1 := noteRound (s.clampIf (z.2 || y.2)) a (z.2 || y.2)
    let imm := BitVec.ofNat 32 (fieldsMask a fun f => FieldDef.writable secure f && decide (f.ap = .imm))
    let s2 := if held then s1 else noteOwner (s1.wr a (mergeWord (s1.rd a) y.1 imm)) ini a
    if bufMask a = 0 then s2 else shadowPut s2 a y.1

/-! ## What a write starts -/

/-- HIF_RING_ENABLE register w of a function: the bits that change enable or disable their rings; a bit of a DRAINING
ring counts once (R100, R101). -/
def writeEnables (s : State) (f : Fn) (k : Nat) (w : Word) : State :=
  let now := ringEnableWord s f k
  let ask := (List.range 32).filter fun b => bitOf w.toNat b != bitOf now b && decide (32 * k + b ≤ 1536)
  let draining := ask.filter fun b => (s.ring f (32 * k + b)).st == .draining
  forEach (ask.filter fun b => !memNat draining b) (s.clampIf (!draining.isEmpty)) fun s b =>
    if bitOf w.toNat b then
      let z := s.fresh
      enableRing z.2 f (32 * k + b) (Config.ctxFound z.1)
    else disableRing s f (32 * k + b)

/-- SEC_LOCK.LOCK reads 1 from the write on; only an Open part is locked by it (R61, R419). -/
def lockHost (s : State) : State :=
  let s1 := s.setFlag Reg.SEC_LOCK Fld.SEC_LOCK_LOCK true
  if s.nvm.lifecycle = 1 then secInt ({ s1 with locked := true }.setFlag Reg.SEC_STATUS Fld.SEC_STATUS_LOCKED true) 0 else s1

/-- A keyed warm reset: its entry is posted, and written by the restart (R399). -/
def warmReset (x : WriteIn) (s : State) : State :=
  if s.pw.off || s.pw.recovery != 0 then s
  else
    let z := x.bootOf s
    hubRestart (folPost z.1 0x03 16 0 []) z.2 4 true false 2

/-- An NVM_CMD: refused while one runs, for an erase of the executing bank, and for an unknown OP (R350, R356, log entry
42). -/
def nvmCommand (x : WriteIn) (s : State) (op : Nat) : State :=
  let k := s.fld Reg.NVM_CMD_ADDR Fld.NVM_CMD_ADDR_OFFSET / 4096
  let running := s.nvm.jobs.any fun j => match j with
    | .erase _ c => c
    | _ => false
  if running then cmdEnds s Status.denied 0
  else if op = 1 then
    if sectorBank k = execBank s.nvm then cmdEnds (s.bump (Reg.NVM_CNT 5) 1) Status.execConflict 0
    else flashQueue (s.wr Reg.NVM_CMD_STATUS 0) [.erase k true]
  else if op = 2 then
    let z := x.foundOf s
    cmdEnds z.1 (if z.2 = 0 then Status.done else Status.denied) 0
  else if op = 3 then
    let z := x.foundOf s
    cmdEnds z.1 Status.done z.2
  else cmdEnds s Status.denied 0

/-- The set that SPW_STORE copies (R305). -/
def spwSet (s : State) : Table Word :=
  let seg := (List.range 48).flatMap fun p =>
    Reg.SPW_CTRL p :: (List.range 4).flatMap fun k => [Reg.SPW_CURVE p k, Reg.SPW_INRUSH p k]
  (Reg.SPW_BUDGET :: Reg.SPW_SENSE_CFG :: Reg.SPW_SHED 0 :: Reg.SPW_SHED 1 :: seg).foldl
    (fun t a => t.put a (resetWord a) (s.rd a)) []

/-- SPW_STORE.STORE (R305). -/
def storePower (s : State) : State :=
  if s.flag Reg.SPW_STORE Fld.SPW_STORE_BUSY then s
  else flashQueue (s.setFlag Reg.SPW_STORE Fld.SPW_STORE_BUSY true)
    [.spwStore (spwSet s) (bitmapOf ((List.range 48).filter fun p => galeBearing s p))]

/-- Staged entries are programmed at once, not in fours (FOL_CTRL.FLUSH). -/
def folFlush (s : State) : State :=
  (List.range 16).foldl (fun s _ => if s.folio.staging.isEmpty then s else folProgram s) s

/-- Hold time left of a rule slot in µs (GST_PEEK_STATE) (DEDUCED, log entry 17). -/
def holdLeft (s : State) (r : Rule) : Option Nat :=
  let left := fun (o : Option Nat) => match o with
    | some t => if treeNs s < t + r.hold * 1000 then some ((t + r.hold * 1000 - treeNs s) / 1000) else none
    | none => none
  match left r.since1, left r.since2 with
  | some a, some b => some (Nat.max a b)
  | some a, none => some a
  | none, o => o

/-- GST_PEEK0 to 7 and GST_PEEK_STATE show a rule slot, on one edge. -/
def peekRule (s : State) (i : Nat) : State :=
  let r := s.rule i
  let h := holdLeft s r
  let st := b2n r.enabled * 2 ^ 31 + b2n r.active * 2 ^ 30 + b2n r.episode * 2 ^ 29 + b2n h.isSome * 2 ^ 28 + r.cause * 2 ^ 24 +
    Nat.min 0xFFFF (h.getD 0)
  forEach (List.range 8) (s.wr Reg.GST_PEEK_STATE (BitVec.ofNat 32 st)) fun s k =>
    s.wr (Reg.GST_PEEK k) (BitVec.ofNat 32 (leAt r.bytes (4 * k) 4))

/-- LNK_CTRL and LNK_POLICY of a link: rate changes, retrain, approval (R222, R226, R232). -/
def linkActs (s : State) (l off : Nat) (w : Word) : State :=
  let bit := bitOf w.toNat
  if off = 0 then
    let up := (s.link l).st == 8
    let free := up && (s.link l).rateNext.isNone && (s.link l).stepAt.isNone
    let s1 := match (if free && bit 3 then rateAbove s l else if free && bit 2 then rateBelow s l else none) with
      | some r => startRateChange s l r
      | none => s
    if up && bit 1 then retrain s1 l else s1
  else if off = 0x3C then
    let s1 := if bit 8 then approveStream s l else s
    if bit 9 then denyStream s1 l else s1
  else s

/-- What a write starts in the blocks of the hub's own core: GLB, SEC, NVM, FOL (R59, R61, R64, R369, R383, R387, R399). -/
def coreActs (x : WriteIn) (s : State) (a : Nat) (w : Word) (secure : Bool) : State :=
  let bit := bitOf w.toNat
  if a = Reg.GLB_PROT_HOLD then releaseHolds s secure (w.toNat % 2 ^ 14)
  else if a = Reg.GLB_CTRL then if w.toNat / 65536 = 0xC5A1 ∧ bit 0 then warmReset x s else s
  else if a = Reg.GLB_CENSUS then if bit 0 then censusTake s else s
  else if a = Reg.SEC_LOCK then if secure && bit 0 then lockHost s else s
  else if a = Reg.NVM_CTRL then if bit 1 then s.setFlag Reg.NVM_STATUS Fld.NVM_STATUS_SCANNING true else s
  else if a = Reg.NVM_CONFIRM then
    let s1 := if bit 1 then s.setFlag a Fld.NVM_CONFIRM_HOST_APPROVE true else s
    confirmCheck (if secure && bit 0 then s1.setFlag a Fld.NVM_CONFIRM_HEALTH_CONFIRM true else s1)
  else if a = Reg.NVM_CMD then if secure && w.toNat % 65536 == 0x4E56 then nvmCommand x s (w.toNat / 2 ^ 28) else s
  else if a = Reg.FOL_CTRL then
    let s1 := if bit 0 then folFlush s else s
    if secure && bit 1 && !squallOn s then sealStart s1 true else s1
  else if a = Reg.FOL_ERASE then if secure && w.toNat / 65536 == 0xE5A5 && bit 0 then folErase s else s
  else s

/-- What a write starts in the other blocks of one instance: PWR, TIM, LIB, GST, PDP, and the common part of SPW (R255,
R257, R287, R303, R305, R312, R317, R331, R333, R337). -/
def unitActs (s : State) (a : Nat) (w : Word) : State :=
  let bit := bitOf w.toNat
  if a = Reg.PWR_CTRL then if w.toNat % 4 = 3 ∧ w.toNat / 65536 ≠ 0x7A57 then s else wantTarget s (w.toNat % 4)
  else if a = Reg.PWR_WATCH_INDEX then if bit 31 then storeWatch s (w.toNat % 4096) else loadWatch s (w.toNat % 4096)
  else if a = Reg.TIM_CTRL then
    if !s.flag a Fld.TIM_CTRL_PPS_OUT_EN && s.tt.ppsHigh then drive (s.modTt fun x => { x with ppsHigh := false }) .ppsOut false
    else s
  else if a = Reg.LIB_ENGINE_MOVE then
    if w.toNat / 65536 = 0x9E3D ∧ w.toNat % 64 < 48 then s.atFrame (.engineMove (w.toNat % 64) 4 s.fc.frameNo) else s
  else if a = Reg.LIB_FWD_STATUS then
    if w = 0 then s else vacatedShow { s with vacated := s.vacated.filter fun v => !bit v.hub }
  else if a = Reg.GST_PEEK_INDEX then peekRule s (w.toNat % 65536)
  else if a = Reg.PDP_CTRL then
    let s1 := frsUpdate (policyCheck s)
    if bit 1 then errorRecovery s1 else s1
  else if a = Reg.SPW_BUDGET then runQueue s
  else if a = Reg.SPW_STORE then if bit 0 then storePower s else s
  else s

/-- What a write starts at one segment's power registers (R296, R299). -/
def segPowerActs (s : State) (p off : Nat) (old : Word) : State :=
  if off = 0 then onChanged s p (getField old Fld.SPW_CTRL_ON == 1)
  else if 0x8 ≤ off ∧ off < 0x18 then curveWritten s p 0 ((off - 0x8) / 4)
  else if 0x18 ≤ off ∧ off < 0x28 then curveWritten s p 8 ((off - 0x18) / 4)
  else s

/-- What a write starts, by its address; old is the register's word before it. -/
def acts (x : WriteIn) (s : State) (a : Nat) (old w : Word) (secure : Bool) : State :=
  if a < 0x4000 then coreActs x s a w secure
  else if a < 0x9000 then unitActs s a w
  else if 0x10000 ≤ a ∧ a < 0x12000 then
    let f := if a < 0x11000 then Fn.pf0 else Fn.pf1
    if 0x100 ≤ a % 0x1000 ∧ a % 0x1000 < 0x200 then writeEnables s f ((a % 0x1000 - 0x100) / 4) w else s
  else if 0x30000 ≤ a ∧ a < 0x31000 then unitActs s a w
  else if 0x31000 ≤ a ∧ a < 0x31C00 then segPowerActs s ((a - 0x31000) / 0x40) (a % 0x40) old
  else if 0x100000 ≤ a ∧ a < 0x110000 then linkActs s ((a - 0x100000) / 0x1000) (a % 0x1000) w
  else s

/-- Does a write act although its block is held: the release of holds, and the warm reset that ends a lasting one
(R59) (DEDUCED, log entry 17). -/
def actsHeld (a : Nat) : Bool := a == Reg.GLB_PROT_HOLD || a == Reg.GLB_CTRL

/-- The write of one register. A held block takes no configuration but that of the register whose check failed, and starts
nothing (R59). -/
def writeReg (x : WriteIn) (s : State) (ini : Initiator) (a : Nat) (w : Word) : State :=
  match Reg.at a with
  | none => s
  | some (bit, _) =>
    if ignoredWrite s a then s
    else
      let secure := isSecure s ini
      let s1 := if !secure && hasSecField a then secFault s ini a false else s
      let held := isHeld s1 bit
      let mend := memNat s1.badRegs a && writableBy secure a
      let old := s1.rd a
      let s2 := writeRw (writeW1c s1 a w secure) ini a w secure (held && !mend)
      let s3 := if mend then { s2 with badRegs := dropNat s2.badRegs a } else s2
      if held && !actsHeld a then s3 else acts x s3 a old w secure

/-- The write of one register by an initiator: a standby function's outside its own HIF instance is ignored and counts
(R63). -/
def writeOne (x : WriteIn) (s : State) (ini : Initiator) (a : Nat) (w : Word) : State :=
  if !reaches s ini a then s
  else match ini with
    | .pf f => if isStandby s f && !ownHif f a then secFault s ini a false else writeReg x s ini a w
    | .branchCtl _ | .maint | .jtag | .mgmt => writeReg x s ini a w

/-- A write of an initiator to one register, whole. -/
def writeWord (x : WriteIn) (s : State) (ini : Initiator) (a : Nat) (w : Word) : State :=
  writeOne x (hostTouches s ini) ini a w

/-- The write of one half of a unit: all four bytes, or nothing (R40). -/
def writeHalf (x : WriteIn) (s : State) (acc : Access) (h : Nat) : State :=
  if ((enabledBytes acc).filter fun i => i / 4 == h).length = 4 then
    writeOne x s acc.ini (acc.addr.toNat / 8 * 8 + 4 * h) (BitVec.ofNat 32 (bitsOf acc.data.toNat (32 * h) 32))
  else s

/-- A write within one aligned 8-byte unit, lower register first; another is discarded (R40) (DEDUCED, log entry 16).
-/
def writeAccess (x : WriteIn) (s : State) (acc : Access) : State :=
  let s1 := hostTouches s acc.ini
  if inUnit acc then writeHalf x (writeHalf x s1 acc 0) acc 1 else s1

end Sys2Proof.Machine
end

