-- ==== Sys2Proof/Machine/Boundary.lean ====
section
/-! DEFINITION. The boundaries of the frame clock (R20 to R24, R48, R238): what the frame that ends leaves, the clock, the
shadows, what waits for a boundary, and the frame or gust slot that begins. -/
namespace Sys2Proof.Machine

/-! ## The clock (R20, R21, R284) -/

/-- How far the coming boundary of a branch moves toward its parent's, in ns: at most 100 ns, or SLEW_MAX (R284). -/
def phaseMove (s : State) : Int :=
  let lim : Int := Nat.min 100 (s.fld Reg.TIM_SLEW_MAX Fld.TIM_SLEW_MAX_US_PER_S)
  if isBranch s then max (-lim) (min lim s.tt.phaseErr) else 0

/-- The instant of the next frame boundary (DEDUCED, log entry 5). -/
def nextFrame (s : State) : Nat := ((s.fc.frameStart : Int) + 1000000 - phaseMove s).toNat

/-- Does the frame clock run: not while the chip is off or in Recovery, nor on a branch that has never framed (R15)
(DEDUCED, log entry 7). -/
def framing (s : State) : Bool := !s.pw.off && s.pw.recovery == 0 && !(isBranch s && s.neverFramed)

/-- The frame clock at a boundary: the frame number advances by 1, and gust slot 0 begins (R20, R21) (DEDUCED, log
entry 5). -/
def boundaryClock (s : State) : FrameClock :=
  if framing s then ⟨s.fc.now, (s.fc.frameNo + 1) % 2 ^ 32, nextFrame s, 0⟩ else s.fc

/-- The frame number advances by 1, and gust slot 0 begins. -/
def tick (s : State) : State :=
  { s with
    fc := boundaryClock s,
    tt := { s.tt with phaseErr := s.tt.phaseErr - phaseMove s } }

/-- GST_EVAL_RATE and GST_SLOT_EVALS report the frame that ended (R274). -/
def evalReport (s : State) : State :=
  let s1 := s.wr Reg.GST_EVAL_RATE (BitVec.ofNat 32 s.evals)
  let s2 := forEach (List.range 8) s1 fun s k => s.wr (Reg.GST_SLOT_EVALS k) (BitVec.ofNat 32 (s.slotEvals.getD k 0))
  { s2 with evals := 0, slotEvals := [] }

/-! ## Starts -/

/-- The steps of a start that fall due: the management core runs, the hub is ready (R415, R416). -/
def startSteps (s : State) : State :=
  let s1 := if !s.booted && decide (s.bootAt ≤ s.fc.now) then bootWork s else s
  if s1.booted && s1.starting && decide (s1.readyAt ≤ s1.fc.now) then readyWork s1 else s1

/-! ## Shadows (R48, R54, R161) -/

/-- Segments whose disable is pending stop before their new generation takes effect (R161). -/
def disableFirst (s : State) : State :=
  forEach (List.range 48) s fun s p =>
    match (shadowsDue s .frame).find? fun kv => kv.1 == Reg.SEG_CTRL p with
    | some kv => match kv.2.value with
      | some w => if getField w Fld.SEG_CTRL_ENABLE = 0 then disableSeg s p else s
      | none => s
    | none => s

/-- Generations that differ from those before the boundary take effect (R161). -/
def newGens (s b : State) : State :=
  forEach ((List.range 48).filter fun p => segGen s p != segGen b p) s genChanged

/-- A round period whose clamp shows only now counts once (R54) (DEDUCED, log entry 19). -/
def recountRounds (s : State) (due : List (Nat × Shadow)) : State :=
  forEach due s fun s kv =>
    match schedPort kv.1 with
    | none => s
    | some p =>
      let asked := s.fld kv.1 Fld.SEG_SCHED_ROUND
      (s.clampIf (!(s.seg p).roundCounted && roundClamps s p asked)).modSeg p fun x => { x with roundCounted := false }

/-- A new write of SEG_CTRL, or SUSPEND at 0, ends what a remote wake did to the request that stood there (R158, R165)
(DEDUCED, log entry 88). -/
def wakesSpent (s : State) : State :=
  forEach ((List.range 48).filter fun p => (s.seg p).woken &&
    (!s.flag (Reg.SEG_CTRL p) Fld.SEG_CTRL_SUSPEND ||
      (shadowsDue s .frame).any fun kv => kv.1 == Reg.SEG_CTRL p && kv.2.value.isSome)) s fun s p =>
    s.modSeg p fun x => { x with woken := false }

/-- The registers of a frame boundary reach their live fields, with what follows from each (R48, R161, R168, R195,
R221, R282) (DEDUCED, log entry 17). -/
def takeFrameShadows (s : State) : State :=
  let s0 := wakesSpent (disableFirst s)
  let due := shadowsDue s0 .frame
  let s1 := timeBoundary (applyShadows (applyShadows s0 .frame) .slot) (timeSource s0)
  let s2 := linkEnables (forEach (List.range 17) (linePins (newGens s1 s0) s0) markersDue)
  forEach (List.range 16) (recountRounds s2 due) sendConfig

/-! ## What waited for the boundary -/

/-- Do what waited, one thing. -/
def doLater (s : State) (l : Later) : State :=
  match l with
  | .config id => applyConfigId s id
  | .shelf id => match inFlight s id with
    | some x => applyShelf s x
    | none => s
  | .policy id => match inFlight s id with
    | some x => applyPolicy s x
    | none => s
  | .engineMove p cause frame => rehome s p cause frame
  | .linkState l cause => linkEvent s l cause
  | .applied id => completeId s id Status.done
  | .segState id => s.atFrame (.segState id)
  | .wakeSeg p => if (s.seg p).st = 4 then resumeSeg s p else s
  | .deliver f => deliverTo s f

/-- Do what waited for the frame boundary, in the order accepted. -/
def doLaters (s : State) : State := s.later.foldl doLater { s with later := [] }

/-! ## Segments -/

/-- A sweep of an early burst falls due; after the tenth the interval is 100 ms again (R140). -/
def burstSweep (s : State) (p : Nat) : State :=
  let x := s.seg p
  if x.burst = 0 || decide (s.fc.frameNo < x.sweepNext) || !segRuns s p then s
  else
    let s1 := s.modSeg p fun x => { x with
      sweepDue := true, burstRun := true, burst := x.burst - 1, sweepNext := s.fc.frameNo + 10 }
    if x.burst = 1 then setInterval (s1.modSeg p fun x => { x with empty := 0 }) p 100 else s1

/-- Held configuration of a node is judged against its GET_ENDPOINTS entries as its service begins: what changes takes the
interval of its class, and counts once (R54, R139). -/
def judgeHeld (s : State) (p node : Nat) : State :=
  let ks := (List.range 32).map fun e => epKey p node e
  let s1 := forEach ks s fun s k => if judgeEp (s.ep k) = s.ep k then s else s.modEp k judgeEp
  let hit := ks.filter fun k => decide (s1.ep k ≠ s.ep k)
  (forEach hit s1 fun s k => s.modEp k fun c =>
    if c.periodic then { c with intervalUs := raiseInterval s1 p c.cls c.intervalUs } else c).clampIf (!hit.isEmpty)

/-- Nodes are in service from the frame boundary after their ATTACH, or after GET_ENDPOINTS was read again (R138, R139,
R146). -/
def serveNodes (s : State) : State :=
  let due := s.nodes.filter fun kv => decide (kv.2.phase = .ready) && decide (kv.2.serveAt ≤ s.fc.frameNo)
  forEach due s fun s kv =>
    judgeHeld (s.modNode kv.1 fun n => { n with phase := .served }) (kv.1 / 256) (kv.1 % 256)

/-- Stranger frames counted since the last event of their port are reported when a second has passed (R154). -/
def foreignRest (s : State) (p : Nat) : State :=
  let x := s.seg p
  if x.foreign ≠ 0 && decide (x.foreignAt.getD 0 + 1000000000 ≤ s.fc.now) then
    sysEvent (s.setSeg p { x with foreign := 0, foreignAt := some s.fc.now }) 4 (portTea s p)
      (leBytes 1 Stranger.foreign ++ leBytes 3 0 ++ leBytes 4 x.foreign ++ leBytes 8 0)
  else s

/-- A secured node whose counters near their end is authenticated again (R153) (DESIGN CHOICE, log entry 8). -/
def renewKeys (s : State) : State :=
  forEach (s.nodes.filter fun kv => kv.2.authed && decide (kv.2.phase = .served) &&
      (decide (0xFFFFF000 ≤ kv.2.rxCtr) || decide (0xFFFFF000 ≤ kv.2.txCtr))) s fun s kv =>
    authAgain s (kv.1 / 256) (kv.1 % 256)

/-- The segments at a frame boundary: states, resume groups, bursts, nodes (R140, R146, R153, R154, R162). -/
def segBoundary (s : State) : State :=
  let s1 := resumeGroup (forEach (List.range 48) s segStep)
  let s2 := forEach (List.range 48) s1 fun s p => foreignRest (burstSweep s p) p
  renewKeys (serveNodes (forEach (List.range 64) s2 distSettle))

/-- Gust at a frame boundary: shares, conditions of rules, changes of rule state (R31, R265, R266). -/
def gustBoundary (s : State) : State := applyRuleReqs (refreshRules (reshare (dropIneligible s)) true)

/-- A frame begins on every port that runs. -/
def frameStarts (s : State) : State :=
  forEach ((List.range 64).filter fun p => segRuns s p) s frameWindow

/-! ## The boundaries -/

/-- The frame that ends, on every port that runs. -/
def frameEnds (s : State) : State := forEach ((List.range 64).filter fun p => segRuns s p) s endFrame

/-- A frame boundary of a hub whose management core runs. -/
def frameWork (s : State) : State :=
  let s1 := segBoundary (doLaters (takeFrameShadows (evalReport s)))
  policyCheck (timeTokens (governorTick (evalHubEps (watchSofs (frameStarts (gustBoundary s1))))))

/-- The frame boundary: without REFCLK_SYS only the count goes on (R393) (DEDUCED, log entry 7). -/
def frameBoundary (s : State) : State :=
  if !framing s then (if s.pw.off || s.pw.recovery != 0 then s else startSteps s)
  else if s.pw.clocksStopped then tick s
  else
    let s1 := startSteps (tick (if s.booted then frameEnds s else s))
    if s1.booted then frameWork s1 else timeBoundary s1 (timeSource s1)

/-- Does a gust slot begin: 1 to 7 of a hub that frames and whose management core runs (R20). -/
def slotBegins (s : State) : Bool := awake s && framing s && s.booted && s.fc.slot != 7

/-- The frame clock at a gust slot: the next slot of the frame (R20) (DEDUCED, log entry 5). -/
def slotClock (s : State) : FrameClock := if slotBegins s then { s.fc with slot := s.fc.slot + 1 } else s.fc

/-- Gust slots 1 to 7: SLOT shadows, changes of rule state, Gale polls on VFP-3 (R20, R48, R181, R265). -/
def slotBoundary (s : State) : State :=
  if !slotBegins s then s
  else
    let s1 := { s with fc := slotClock s }
    let s2 := applyRuleReqs (refreshRules (applyShadows s1 .slot) false)
    forEach ((List.range 48).filter fun p => segRuns s2 p && segGen s2 p == 3) s2 slotWindow

/-- Is a placement epoch boundary at hand: a frame boundary whose number is a multiple of LIB_EPOCH.MS, once, before the
first gust slot after it (R238). -/
def epochBegins (s : State) : Bool :=
  framing s && s.booted && s.fc.slot == 0 && s.fc.frameNo % Nat.max 1 (s.fld Reg.LIB_EPOCH Fld.LIB_EPOCH_MS) == 0 &&
    s.epochFrame != some s.fc.frameNo

/-- A placement epoch boundary (R238); a held LIB block takes its shadows and starts no work (R51, R59) (DEDUCED, log entry
17). -/
def epochBoundary (s : State) : State :=
  if epochBegins s then
    let s1 := applyShadows s .epoch
    { (if isHeld s1 6 then s1 else epochWork s1) with epochFrame := some s.fc.frameNo }
  else s

/-- The instant of the next gust slot (DEDUCED, log entry 5). -/
def nextSlot (s : State) : Nat := s.fc.frameStart + (s.fc.slot + 1) * 125000

end Sys2Proof.Machine
end

