-- ==== Sys2Proof/Machine/BoundaryRows.lean ====
section
/-! DEFINITION. Commands of the frame clock: the frame boundary, the gust slot, the placement epoch. -/
namespace Sys2Proof.Machine
open Sys2Proof.WellFormed

/-- FRAME_BOUNDARY: the frame number advances by 1, and the work of the boundary is done (R20, R21). It comes 1 ms after
the one before; a command with a later instant finds the hub at that instant. -/
def execFrameBoundary (t : Nat) (s : State) : Host.Outcome State Fault Refusal :=
  whenWf (wf (.frameBoundary t)) t s <|
    tickEffect (if framing s then Nat.max t (nextFrame s) else t) s boundaryClock fun s => settle (frameBoundary s)

/-- GUST_SLOT_BOUNDARY: gust slots 1 to 7 of the frame (R20). -/
def execGustSlotBoundary (t : Nat) (s : State) : Host.Outcome State Fault Refusal :=
  whenWf (wf (.gustSlotBoundary t)) t s <|
    tickEffect (if framing s && s.fc.slot != 7 then Nat.max t (nextSlot s) else t) s slotClock fun s =>
      if awake s then settle (slotBoundary s) else s

/-- EPOCH_BOUNDARY: the Librarian's work of a placement epoch (R238). -/
def execEpochBoundary (t : Nat) (s : State) : Host.Outcome State Fault Refusal :=
  whenWf (wf (.epochBoundary t)) t s <| effect t s fun s => settle (epochBoundary s)

end Sys2Proof.Machine
end

