-- ==== Sys2Proof/Machine/FaultRows.lean ====
section
/-! DEFINITION. Commands of register protection and SRAM health (R58, R59, R394 to R396). -/
namespace Sys2Proof.Machine
open Sys2Proof.WellFormed

/-- VOTE_SCRUB: all /T fields are voted and scrubbed (R58). -/
def execVoteScrub (t : Nat) (upsets : List Upset) (s : State) : Host.Outcome State Fault Refusal :=
  whenWf (wf (.voteScrub t upsets)) t s <| effect t s fun s =>
    voteScrub s upsets

/-- PARITY_FAULT: a register fails its check: its block holds (R59). -/
def execParityFault (t : Nat) (addr : BitVec 24) (threeWay : Bool) (s : State) : Host.Outcome State Fault Refusal :=
  whenWf (wf (.parityFault t addr threeWay)) t s <| effect t s fun s =>
    checkFails s addr.toNat threeWay

/-- SRAM_PATROL_SCRUB: one pass of the patrol scrubber with the words it corrected (R394). -/
def execSramPatrolScrub (t : Nat) (corrected : List Nat) (s : State) : Host.Outcome State Fault Refusal :=
  whenWf (wf (.sramPatrolScrub t corrected)) t s <| effect t s fun s =>
    patrolPass s corrected

/-- SRAM_UNCORRECTABLE: an uncorrectable error poisons its page (R395, R396). -/
def execSramUncorrectable (t : Nat) (region : SramRegion) (page off : Nat) (items : List Nat) (s : State) : Host.Outcome State Fault Refusal :=
  whenWf (wf (.sramUncorrectable t region page off items)) t s <| effect t s fun s =>
    settle (pagePoisoned s region page off items)

end Sys2Proof.Machine
end

