-- ==== Sys2Proof/Machine/FieldRows.lean ====
section
/-! DEFINITION. Commands of the field segments: replies, reply windows and limits, sweeps, line signals. -/
namespace Sys2Proof.Machine
open Sys2Proof.WellFormed

/-- NODE_KEEPALIVE: an attached node is addressed (R136). -/
def execNodeKeepalive (t port : Nat) (node : Byte) (s : State) : Host.Outcome State Fault Refusal :=
  whenWf (wf (.nodeKeepalive t port node)) t s <| effect t s fun s =>
    settle (if nodeThere s port node.toNat then keepalive s port node.toNat else s)

/-- DISCOVER_SWEEP: the sweep interval has passed on a resumed segment (R140). The regular sweeps go on while an early burst
runs (DESIGN CHOICE, log entry 88). -/
def execDiscoverSweep (t port : Nat) (s : State) : Host.Outcome State Fault Refusal :=
  whenWf (wf (.discoverSweep t port)) t s <| effect t s fun s =>
    settle (if segRuns s port then s.modSeg port fun x => { x with sweepDue := true } else s)

/-- DISCOVER_REPEAT: 2 frames after a sweep with corrupt slots (R142). -/
def execDiscoverRepeat (t port : Nat) (s : State) : Host.Outcome State Fault Refusal :=
  whenWf (wf (.discoverRepeat t port)) t s <| effect t s fun s =>
    settle (match (s.seg port).repeatAt with
      | some f => if f ≤ s.fc.frameNo ∧ segRuns s port then
          s.modSeg port fun x => { x with sweepDue := true, repeatAt := none } else s
      | none => s)

/-- REPLY_WINDOW_EXPIRY: the attempt on the wire has failed (R133). -/
def execReplyWindowExpiry (t port : Nat) (s : State) : Host.Outcome State Fault Refusal :=
  whenWf (wf (.replyWindowExpiry t port)) t s <| effect t s fun s => settle (windowExpired s port)

/-- CONTROL_TIMEOUT: a control transfer 500 ms after its SETUP completes NO_RESPONSE (R131). -/
def execControlTimeout (t port : Nat) (node : Byte) (s : State) : Host.Outcome State Fault Refusal :=
  whenWf (wf (.controlTimeout t port node)) t s <| effect t s fun s =>
    settle (match runningCtl s port node.toNat with
      | some c => match c.started with
        | some b => if b + 500000000 ≤ s.fc.now then ctlFailed s port c Status.noResponse else s
        | none => s
      | none => s)

/-- BULK_NAK_TIMEOUT: bulk transactions still answered NAK 5 s after their first attempt complete NO_RESPONSE (R131). -/
def execBulkNakTimeout (t port : Nat) (s : State) : Host.Outcome State Fault Refusal :=
  whenWf (wf (.bulkNakTimeout t port)) t s <| effect t s fun s =>
    settle (forEach ((s.seg port).bulks.filter fun b => match b.first with
        | some f => b.naked && decide (f + 5000000000 ≤ s.fc.now)
        | none => false) s fun s b => completeId (dropBulk s port b.desc) b.desc Status.noResponse)

/-- RESUME_END: the 2 ms of RESUME tokens have passed; service follows at the frame boundary (R157) (DEDUCED, log
entry 23). -/
def execResumeEnd (t port : Nat) (s : State) : Host.Outcome State Fault Refusal :=
  whenWf (wf (.resumeEnd t port)) t s <| effect t s fun s =>
    match (s.seg port).resumeBegun with
    | some b => if (s.seg port).st = 2 ∧ b + 2000000 ≤ s.fc.now then s.modSeg port fun x => { x with resumeOver := true }
        else s
    | none => s

/-- COV: samples, by toggle (R119 to R123). -/
def execCov (t port : Nat) (f : RxFrame) (s : State) : Host.Outcome State Fault Refusal :=
  whenWf (wf (.cov t port f)) t s <| effect t s fun s => settle (frameIn s port f 1)

/-- The verdict on an AUTH_RESPONSE: 0 passed, 1 failed, 3 an input rejected, the key or the signature (R151, R374). -/
def authVerdict (authOk keyEdge sigEdge : Bool) : Nat := if keyEdge || sigEdge then 3 else if !authOk then 1 else 0

/-- DATA answers an IN (R128, R130) (DESIGN CHOICE, log entry 82). -/
def execData (t port : Nat) (f : RxFrame) (authOk keyEdge sigEdge : Bool) (s : State) : Host.Outcome State Fault Refusal :=
  whenWf (wf (.data t port f authOk keyEdge sigEdge)) t s <| effect t s fun s =>
    settle (frameIn s port f (authVerdict authOk keyEdge sigEdge))

/-- ACK (R124). -/
def execAck (t port : Nat) (f : RxFrame) (s : State) : Host.Outcome State Fault Refusal :=
  whenWf (wf (.ack t port f)) t s <| effect t s fun s => settle (frameIn s port f 1)

/-- NYET: a PROBE comes before the next OUT (R125). -/
def execNyet (t port : Nat) (f : RxFrame) (s : State) : Host.Outcome State Fault Refusal :=
  whenWf (wf (.nyet t port f)) t s <| effect t s fun s => settle (frameIn s port f 1)

/-- NAK (R120, R124, R128). -/
def execNak (t port : Nat) (f : RxFrame) (s : State) : Host.Outcome State Fault Refusal :=
  whenWf (wf (.nak t port f)) t s <| effect t s fun s => settle (frameIn s port f 1)

/-- STALL (R129, R135). -/
def execStall (t port : Nat) (f : RxFrame) (s : State) : Host.Outcome State Fault Refusal :=
  whenWf (wf (.stall t port f)) t s <| effect t s fun s => settle (frameIn s port f 1)

/-- HELLO, or a corrupt frame in its slot (R142, R144, R159). -/
def execHello (t port : Nat) (slot : BitVec 4) (f : RxFrame) (s : State) : Host.Outcome State Fault Refusal :=
  whenWf (wf (.hello t port slot f)) t s <| effect t s fun s =>
    settle (helloIn s port slot.toNat f)

/-- FOREIGN_FRAME; a DISABLED segment ignores its inputs (R154, R167) (DESIGN CHOICE, log entry 84). -/
def execForeignFrame (t port : Nat) (s : State) : Host.Outcome State Fault Refusal :=
  whenWf (wf (.foreignFrame t port)) t s <| effect t s fun s =>
    if (s.seg port).st = 0 then s else foreignFrame s port

/-- CURRENT_STEP arms an early burst, after a RESUME in progress; no step is seen while the segment is suspect (R140,
R159, R302). -/
def execCurrentStep (t port : Nat) (s : State) : Host.Outcome State Fault Refusal :=
  whenWf (wf (.currentStep t port)) t s <| effect t s fun s =>
    stepSeen s port

/-- CURRENT_DROP: every attached node is addressed (R136). -/
def execCurrentDrop (t port : Nat) (s : State) : Host.Outcome State Fault Refusal :=
  whenWf (wf (.currentDrop t port)) t s <| effect t s fun s =>
    settle (dropSeen s port)

/-- REMOTE_WAKE on a suspended segment: RESUME from the next boundary, and the end of Lull; discarded while a RESET to
the waking node or to 255 waits, which is sent (R158, R159, R319). -/
def execRemoteWake (t port : Nat) (s : State) : Host.Outcome State Fault Refusal :=
  whenWf (wf (.remoteWake t port)) t s <| effect t s fun s => wakeSignal s port

/-- LINE_FAULT of a JVR-P3: reported, and the attempts during it fail; a DISABLED segment ignores its inputs (R167,
R178). -/
def execLineFault (t port : Nat) (s : State) : Host.Outcome State Fault Refusal :=
  whenWf (wf (.lineFault t port)) t s <| effect t s fun s =>
    if (s.seg port).st = 0 ∨ segGen s port ≠ 3 then s
    else settle (endWindow (segInt (s.modSeg port fun x => { x with faulted := true }) port 3) port)

/-- LINE_FAULT_END: the JVR-P3 reports no line fault any more (R178). -/
def execLineFaultEnd (t port : Nat) (s : State) : Host.Outcome State Fault Refusal :=
  whenWf (segPort port) t s <| effect t s fun s =>
    s.modSeg port fun x => { x with faulted := false }

end Sys2Proof.Machine
end

