-- ==== Sys2Proof/Machine/FlashRows.lean ====
section
/-! DEFINITION. Commands of images, the Folio and the flash, and of the TRNG. -/
namespace Sys2Proof.Machine
open Sys2Proof.WellFormed

/-- IMAGE_PIECE with KIND MANIFEST (R362) (DESIGN CHOICE, log entry 82). -/
def execImageManifest (t : Nat) (d : SqEntry) (keyOk sigOk : Bool) (s : State) : Host.Outcome State Fault Refusal :=
  whenWf (wf (.imageManifest t d keyOk sigOk)) t s <| effect t s fun s =>
    fetched s d ruleImagePiece (opImagePiece keyOk sigOk sigOk)

/-- IMAGE_PIECE with KIND PIECE (R363) (DESIGN CHOICE, log entry 82). -/
def execImagePiece (t : Nat) (d : SqEntry) (tagOk : Bool) (s : State) : Host.Outcome State Fault Refusal :=
  whenWf (wf (.imagePiece t d tagOk)) t s <| effect t s fun s => fetched s d ruleImagePiece (opImagePiece tagOk tagOk tagOk)

/-- IMAGE_PIECE with KIND ABANDON (R364). -/
def execImageAbandon (t : Nat) (d : SqEntry) (s : State) : Host.Outcome State Fault Refusal :=
  whenWf (wf (.imageAbandon t d)) t s <| effect t s fun s => fetched s d ruleImagePiece (opImagePiece false false false)

/-- IMAGE_SCHEDULE ARM (R366). -/
def execImageScheduleArm (t : Nat) (d : SqEntry) (hubs : List HubReport) (s : State) : Host.Outcome State Fault Refusal :=
  whenWf (wf (.imageScheduleArm t d hubs)) t s <| effect t s fun s => fetched s d ruleSchedule (opSchedule hubs)

/-- IMAGE_SCHEDULE CANCEL (R366). -/
def execImageScheduleCancel (t : Nat) (d : SqEntry) (s : State) : Host.Outcome State Fault Refusal :=
  whenWf (wf (.imageScheduleCancel t d)) t s <| effect t s fun s => fetched s d ruleSchedule (opSchedule [])

/-- IMAGE_STATUS (IMAGE_STATUS data table). -/
def execImageStatus (t : Nat) (d : SqEntry) (s : State) : Host.Outcome State Fault Refusal :=
  whenWf (wf (.imageStatus t d)) t s <| effect t s fun s => fetched s d ruleImageStatus opImageStatus

/-- FOLIO_READ (R386). -/
def execFolioRead (t : Nat) (d : SqEntry) (s : State) : Host.Outcome State Fault Refusal :=
  whenWf (wf (.folioRead t d)) t s <| effect t s fun s => fetched s d ruleFolioRead opFolioRead

/-- FOLIO_PROGRAM: one program of up to 4 entries (R380, R382). -/
def execFolioProgram (t : Nat) (s : State) : Host.Outcome State Fault Refusal :=
  whenWf (wf (.folioProgram t)) t s <| effect t s folProgram

/-- The sector whose erase ahead Bank C works on. -/
def aheadSector (n : Nvm) : Option Nat :=
  match headJob n 2 with
  | some (.folioAhead k) => some k
  | _ => none

/-- FOLIO_ERASE_AHEAD_DONE: the sector ahead is erased and staging may go on (R376). The row gives no length: it is a
free value (DESIGN CHOICE, log entry 45). -/
def execFolioEraseAheadDone (t : Nat) (s : State) : Host.Outcome State Fault Refusal :=
  whenWf (wf (.folioEraseAheadDone t)) t s <| effect t s fun s =>
    if squallOn s || s.pw.off then s
    else match aheadSector s.nvm with
      | some k =>
        let z := s.fresh
        flashKick (folioEraseEnd (showErase z.2 (Config.eraseUs z.1).toNat) (.folioAhead k) k true)
      | none => s

/-- SEAL_COMPLETE: the seal's last program is done (R383, R384). -/
def execSealComplete (t : Nat) (s : State) : Host.Outcome State Fault Refusal :=
  whenWf (wf (.sealComplete t)) t s <| aoEffect t s fun s =>
    match s.folio.sealing with
    | some test => sendWaiting (portSealed (sealEnd s test))
    | none => s

/-- FLASH_OPERATION_COMPLETE (R350 to R355, R362, R363). -/
def execFlashOperationComplete (t : Nat) (r : FlashResult) (s : State) : Host.Outcome State Fault Refusal :=
  whenWf (wf (.flashOperationComplete t r)) t s <| effect t s fun s => flashEnd s r

/-- A scan of every programmed word begins (R347). -/
def beginScan (s : State) : State := s.setFlag Reg.NVM_STATUS Fld.NVM_STATUS_SCANNING true

/-- NVM_SCRUB_SCAN: with SCRUB_EN a scan starts once every 24 h (NVM_CTRL). -/
def execNvmScrubScan (t : Nat) (s : State) : Host.Outcome State Fault Refusal :=
  whenWf (wf (.nvmScrubScan t)) t s <| effect t s fun s =>
    if s.flag Reg.NVM_CTRL Fld.NVM_CTRL_SCRUB_EN then beginScan s else s

/-- NVM_SCAN_END: the words with one corrected bit are shown (NVM_CORR_WORDS). -/
def execNvmScanEnd (t words : Nat) (s : State) : Host.Outcome State Fault Refusal :=
  whenWf (wf (.nvmScanEnd t words)) t s <| effect t s fun s =>
    if s.flag Reg.NVM_STATUS Fld.NVM_STATUS_SCANNING then
      (s.setFlag Reg.NVM_STATUS Fld.NVM_STATUS_SCANNING false).wr Reg.NVM_CORR_WORDS (BitVec.ofNat 32 words)
    else s

/-- BOOT_SYNC_COMPLETE: the pending BOOT value stands in the settings slot in use (R50, R371); a Squall holds the write. -/
def execBootSyncComplete (t : Nat) (s : State) : Host.Outcome State Fault Refusal :=
  whenWf (wf (.bootSyncComplete t)) t s <| effect t s fun s =>
    if squallOn s then s
    else match s.nvm.pendingMode with
      | some m => s.modNvm fun n => { n with storedMode := some m, pendingMode := none }
      | none => s

/-- ACTIVATING: an armed hub stops fetching 100 ms before T and says so (R367); canFetch and arrived test the instant. -/
def execActivating (t : Nat) (s : State) : Host.Outcome State Fault Refusal :=
  whenWf (wf (.activating t)) t s <| effect t s fun s =>
    if isActivating s then imageEvent s 3 s.nvm.sessionVol 0 else s

/-- TRNG_HEALTH_FAILURE (R373). -/
def execTrngHealthFailure (t : Nat) (adaptive : Bool) (s : State) : Host.Outcome State Fault Refusal :=
  whenWf (wf (.trngHealthFailure t adaptive)) t s <| effect t s fun s =>
    let fails := Nat.min 0xFFFF (s.fld Reg.SEC_TRNG_STATUS Fld.SEC_TRNG_STATUS_FAILS + 1)
    let s1 := { s with trngBad := true }.setFlag Reg.SEC_STATUS Fld.SEC_STATUS_TRNG_FAIL true
    secInt ((s1.wr Reg.SEC_TRNG_STATUS (BitVec.ofNat 32 (fails * 65536 + (if adaptive then 2 else 1)))).bump
      (Reg.SEC_CNT 7) 1) 2

/-- TRNG_RECOVERY: 1,024 consecutive samples passed (R373). -/
def execTrngRecovery (t : Nat) (s : State) : Host.Outcome State Fault Refusal :=
  whenWf (wf (.trngRecovery t)) t s <| effect t s fun s =>
    { s with trngBad := false }.setFlag Reg.SEC_STATUS Fld.SEC_STATUS_TRNG_FAIL false

end Sys2Proof.Machine
end

