-- ==== Sys2Proof/Machine/HifRows.lean ====
section
/-! DEFINITION. Commands of the host interface (R71 to R107). -/
namespace Sys2Proof.Machine
open Sys2Proof.WellFormed

/-- LEASE_RENEW: renews the lease (R90, R103). -/
def execLeaseRenew (t : Nat) (d : SqEntry) (s : State) : Host.Outcome State Fault Refusal :=
  whenWf (wf (.leaseRenew t d)) t s <| effect t s fun s =>
    fetched s d ruleLeaseRenew opLeaseRenew

/-- ROLE_TAKE: takes the lease (R103 to R107). -/
def execRoleTake (t : Nat) (d : SqEntry) (other : OtherRings) (s : State) : Host.Outcome State Fault Refusal :=
  whenWf (wf (.roleTake t d other)) t s <| effect t s fun s =>
    fetched s d ruleRoleTake (opRoleTake other.left other.heads)

/-- LEASE_EXPIRY: the lease expires without renewal (R105). -/
def execLeaseExpiry (t : Nat) (s : State) : Host.Outcome State Fault Refusal :=
  whenWf (wf (.leaseExpiry t)) t s <| effect t s fun s =>
    leaseExpires s

/-- RING_ENABLE: a bit of HIF_RING_ENABLE goes from 0 to 1 (R72, R73, R100, R101). -/
def execRingEnable (t : Nat) (fn : Fn) (ring : BitVec 11) (ctx : CtxIn) (s : State) : Host.Outcome State Fault Refusal :=
  whenWf (wf (.ringEnable t fn ring ctx)) t s <| effect t s fun s =>
    if hostWrites s fn then enableRing (lullWake s 2) fn ring.toNat ctx else s

/-- RING_DISABLE: a bit of HIF_RING_ENABLE goes from 1 to 0 (R100, R102). -/
def execRingDisable (t : Nat) (fn : Fn) (ring : BitVec 11) (s : State) : Host.Outcome State Fault Refusal :=
  whenWf (wf (.ringDisable t fn ring)) t s <| effect t s fun s =>
    if hostWrites s fn then disableRing (lullWake s 2) fn ring.toNat else s

/-- KICK: a write to the kick page: one full doorbell read (R78); in Lull it ends Lull, and the read follows (R319). -/
def execKick (t : Nat) (fn : Fn) (slots : List Doorbell) (s : State) : Host.Outcome State Fault Refusal :=
  whenWf (wf (.kick t fn slots)) t s <| effect t s fun s =>
    kick (lullWake s 2) fn slots

/-- DOORBELL_SWEEP: one sweep of the doorbells in sweep mode (R76), and a full read that is due in either mode (R78). -/
def execDoorbellSweep (t : Nat) (fn : Fn) (d : SweepIn) (s : State) : Host.Outcome State Fault Refusal :=
  whenWf (wf (.doorbellSweep t fn d)) t s <| effect t s fun s =>
    if readsDoorbells s fn then doorbells s fn d.words d.slots else s

/-- INTERRUPT_MODERATION_TIMEOUT: TIME_US of the ring's profile passes (R99). -/
def execInterruptModerationTimeout (t : Nat) (fn : Fn) (ring : BitVec 11) (s : State) : Host.Outcome State Fault Refusal :=
  whenWf (wf (.interruptModerationTimeout t fn ring)) t s <| effect t s fun s =>
    moderationDue s fn ring.toNat

/-- HOST_DMA_ERROR: a host memory access completes with an error (R102, R250). -/
def execHostDmaError (t : Nat) (fn : Fn) (w : DmaWhere) (s : State) : Host.Outcome State Fault Refusal :=
  whenWf (wf (.hostDmaError t fn w)) t s <| effect t s fun s =>
    if hostThere s fn && (s.fnS fn).bme then hostAccessFails s fn w else s

/-- ATOMIC_FAIL: an AtomicOp Swap completes with an error (R79). -/
def execAtomicFail (t : Nat) (fn : Fn) (s : State) : Host.Outcome State Fault Refusal :=
  whenWf (wf (.atomicFail t fn)) t s <| effect t s fun s =>
    if readsDoorbells s fn && !kickMode s fn then atomicFails s fn else s

/-- BUS_MASTER_ENABLE: Bus Master Enable returns to 1 (R71). -/
def execBusMasterEnable (t : Nat) (fn : Fn) (slots : List Doorbell) (s : State) : Host.Outcome State Fault Refusal :=
  whenWf (wf (.busMasterEnable t fn slots)) t s <| effect t s fun s =>
    if hostThere s fn && !(s.fnS fn).bme then busMasterOn s fn slots else s

/-- BUS_MASTER_ENABLE_CLEAR: Bus Master Enable is cleared (R71). -/
def execBusMasterEnableClear (t : Nat) (fn : Fn) (s : State) : Host.Outcome State Fault Refusal :=
  whenWf (true) t s <| effect t s fun s =>
    if hostThere s fn then s.modFn fn fun x => { x with bme := false } else s

/-- ATOMICOP_REQUESTER_ENABLE: AtomicOp Requester Enable changes (R79). -/
def execAtomicopRequesterEnable (t : Nat) (fn : Fn) (on : Bool) (s : State) : Host.Outcome State Fault Refusal :=
  whenWf (true) t s <| effect t s fun s =>
    if hostThere s fn then s.modFn fn fun x => { x with atomicEn := on } else s

/-- MSIX_UNMASK: a vector is unmasked (R99). -/
def execMsixUnmask (t : Nat) (fn : Fn) (vec : BitVec 11) (s : State) : Host.Outcome State Fault Refusal :=
  whenWf (true) t s <| effect t s fun s =>
    if hostThere s fn then unmask s fn vec.toNat else s

end Sys2Proof.Machine
end

