-- ==== Sys2Proof/Machine/LinkRows.lean ====
section
/-! DEFINITION. Commands of the Craora links: bring-up, link layer, time, stream nodes, and messages between root and
branch. -/
namespace Sys2Proof.Machine
open Sys2Proof.WellFormed

/-- An event of a link, after what a marker has brought since: only a branch has an upstream link. -/
def onLink (s : State) (link : BitVec 5) (f : State → Nat → State) : State :=
  if link.toNat = upLink && !isBranch s then s else f (markersDue s link.toNat) link.toNat

/-- The drain after a GOODBYE has ended: everything is acknowledged, or 1 ms has passed (R227). -/
def drainEnds (s : State) (l : Nat) : State :=
  let k := s.link l
  if k.draining && (k.replay.isEmpty || (match k.downAt with | some t => decide (t ≤ s.fc.now) | none => true)) then
    drainOver s l
  else s

/-- LINK_PRESENCE: a partner is detected, with the rates that CMIS finds its module to support (R197, R198, R403) (DESIGN
CHOICE, log entry 84). -/
def execLinkPresence (t : Nat) (p : PresenceIn) (s : State) : Host.Outcome State Fault Refusal :=
  whenWf (wf (.linkPresence t p)) t s <| effect t s fun s =>
    onLink s p.link fun s l => quadWake (presenceSeen s l p.rates.toNat) l

/-- AUTONEG_COMPLETE: rate and width are resolved (R198). -/
def execAutonegComplete (t : Nat) (link : BitVec 5) (lp : Byte) (s : State) : Host.Outcome State Fault Refusal :=
  whenWf (wf (.autonegComplete t link lp)) t s <| effect t s fun s =>
    onLink s link fun s l => autonegDone s l lp.toNat

/-- C2M_RATE_TRIAL_TIMEOUT: 100 ms pass without lock (R198). -/
def execC2mRateTrialTimeout (t : Nat) (link : BitVec 5) (s : State) : Host.Outcome State Fault Refusal :=
  whenWf (wf (.c2mRateTrialTimeout t link)) t s <| effect t s fun s =>
    onLink s link fun s l => trialOver s l

/-- TRAINING_TIMEOUT: 25 ms pass without training complete (R199). -/
def execTrainingTimeout (t : Nat) (link : BitVec 5) (s : State) : Host.Outcome State Fault Refusal :=
  whenWf (wf (.trainingTimeout t link)) t s <| effect t s fun s =>
    onLink s link fun s l => if (s.link l).st = 4 then toNegotiate s l else s

/-- MARKER_LOCK: a lane locks (R203, R204) (DESIGN CHOICE, log entry 84). -/
def execMarkerLock (t : Nat) (link : BitVec 5) (m : MarkerIn) (s : State) : Host.Outcome State Fault Refusal :=
  whenWf (wf (.markerLock t link m)) t s <| effect t s fun s =>
    onLink s link fun s l => settle (laneLocked s l m)

/-- LANE_FAIL: a lane fails (R224) (DESIGN CHOICE, log entry 84). -/
def execLaneFail (t : Nat) (link : BitVec 5) (lane : BitVec 2) (los : Bool) (s : State) : Host.Outcome State Fault Refusal :=
  whenWf (wf (.laneFail t link lane los)) t s <| effect t s fun s =>
    onLink s link fun s l => settle (laneFailed s l lane.toNat los)

/-- REPLAY_TIMEOUT: ACK has not advanced (R212). -/
def execReplayTimeout (t : Nat) (link : BitVec 5) (s : State) : Host.Outcome State Fault Refusal :=
  whenWf (wf (.replayTimeout t link)) t s <| effect t s fun s =>
    onLink s link fun s l => replayTimeout s l

/-- NO_FLITS_TIMEOUT: no good flit for 100 µs (R226). -/
def execNoFlitsTimeout (t : Nat) (link : BitVec 5) (s : State) : Host.Outcome State Fault Refusal :=
  whenWf (wf (.noFlitsTimeout t link)) t s <| effect t s fun s =>
    onLink s link fun s l =>
      if (s.link l).st = 8 ∧ (s.link l).lastFlit + 100000 ≤ s.fc.now then settle (linkDown s l 3) else s

/-- PRESENCE_LOST: MODPRS_N goes high (R226). -/
def execPresenceLost (t : Nat) (link : BitVec 5) (s : State) : Host.Outcome State Fault Refusal :=
  whenWf (wf (.presenceLost t link)) t s <| effect t s fun s =>
    onLink s link fun s l => settle (presenceGone s l)

/-- RATE_CHANGE_TIMEOUT: a rate change has not relocked within 10 ms (R222, log entry 56). -/
def execRateChangeTimeout (t : Nat) (link : BitVec 5) (s : State) : Host.Outcome State Fault Refusal :=
  whenWf (wf (.rateChangeTimeout t link)) t s <| effect t s fun s =>
    onLink s link fun s l =>
      if (s.link l).st = 9 ∧ ((s.link l).downAt.map fun t => decide (t ≤ s.fc.now)) = some true then settle (linkDown s l 4) else s

/-- GOODBYE_DRAIN_END: the drain after GOODBYE ends (R227). -/
def execGoodbyeDrainEnd (t : Nat) (link : BitVec 5) (s : State) : Host.Outcome State Fault Refusal :=
  whenWf (wf (.goodbyeDrainEnd t link)) t s <| effect t s fun s =>
    onLink s link fun s l => settle (drainEnds s l)

/-- LLCTL_NAK: a NAK is received (R212, R214). -/
def execLlctlNak (t : Nat) (link : BitVec 5) (seq : BitVec 12) (s : State) : Host.Outcome State Fault Refusal :=
  whenWf (wf (.llctlNak t link seq)) t s <| effect t s fun s =>
    onLink s link fun s l => settle (takeNakFlit s l seq.toNat)

/-- CREDIT_INIT: the partner's initial credits (R209). -/
def execCreditInit (t : Nat) (link : BitVec 5) (c0 c1 c2 c3 : BitVec 12) (s : State) : Host.Outcome State Fault Refusal :=
  whenWf (wf (.creditInit t link c0 c1 c2 c3)) t s <| effect t s fun s =>
    onLink s link fun s l =>
      settle (takeCreditInit s l [c0.toNat, c1.toNat, c2.toNat, c3.toNat])

/-- RATE_STEP: the partner starts a fast rate change (R222). -/
def execRateStep (t : Nat) (link : BitVec 5) (rate : BitVec 3) (marker : Word) (s : State) : Host.Outcome State Fault Refusal :=
  whenWf (wf (.rateStep t link rate marker)) t s <| effect t s fun s =>
    onLink s link fun s l =>
      if (s.link l).st = 8 then rateChange s l rate.toNat marker.toNat else s

/-- LANE_DROP: the partner drops lanes (R224). -/
def execLaneDrop (t : Nat) (link : BitVec 5) (lanes : BitVec 4) (s : State) : Host.Outcome State Fault Refusal :=
  whenWf (wf (.laneDrop t link lanes)) t s <| effect t s fun s =>
    onLink s link fun s l => lanesDropped s l lanes.toNat

/-- LANE_REJOIN: striping over the full width resumes (R225). -/
def execLaneRejoin (t : Nat) (link : BitVec 5) (lanes : BitVec 4) (marker : Word) (s : State) : Host.Outcome State Fault Refusal :=
  whenWf (wf (.laneRejoin t link lanes marker)) t s <| effect t s fun s =>
    onLink s link fun s l =>
      if (s.link l).st = 8 ∧ (s.link l).failed ≠ 0 ∧ lanes.toNat = laneMask (s.link l).width then lanesRejoin s l marker.toNat else s

/-- GOODBYE: the partner disables the link; its CAUSE byte has no code (R226, R227). -/
def execGoodbye (t : Nat) (link : BitVec 5) (cause : Byte) (s : State) : Host.Outcome State Fault Refusal :=
  whenWf (wf (.goodbye t link cause)) t s <| effect t s fun s =>
    onLink s link fun s l =>
      if (s.link l).st = 8 ∨ (s.link l).st = 9 then settle (linkDown s l 5) else s

/-- LID: the partner's identity (R217, R218). -/
def execLid (t : Nat) (link : BitVec 5) (b : LidBody) (s : State) : Host.Outcome State Fault Refusal :=
  whenWf (wf (.lid t link b)) t s <| effect t s fun s =>
    onLink s link fun s l => takeLid s l b

/-- LAUTH: the partner's proof (R217, R218) (DESIGN CHOICE, log entry 82). -/
def execLauth (t : Nat) (link : BitVec 5) (b : LauthBody) (s : State) : Host.Outcome State Fault Refusal :=
  whenWf (wf (.lauth t link b)) t s <| effect t s fun s =>
    onLink s link fun s l => takeLauth s l b

/-- FLIT_RECEIVED: a flit arrives (R205 to R212) (DESIGN CHOICE, log entry 84). -/
def execFlitReceived (t : Nat) (link : BitVec 5) (f : Flit) (s : State) : Host.Outcome State Fault Refusal :=
  whenWf (wf (.flitReceived t link f)) t s <| effect t s fun s =>
    onLink s link fun s l => settle (flitIn s l f)

/-- CALIBRATION_COMPLETE: TX PLL calibration ends (R200, R222). -/
def execCalibrationComplete (t : Nat) (link : BitVec 5) (s : State) : Host.Outcome State Fault Refusal :=
  whenWf (wf (.calibrationComplete t link)) t s <| effect t s fun s =>
    onLink s link fun s l => calibrated s l

/-- LINK_HOLD_TIMEOUT: a held descriptor ends (R223). -/
def execLinkHoldTimeout (t : Nat) (link : BitVec 4) (fn : Fn) (sq : BitVec 8) (tag : Word) (s : State) : Host.Outcome State Fault Refusal :=
  whenWf (wf (.linkHoldTimeout t link fn sq tag)) t s <| effect t s fun s =>
    settle (holdTimeout s link.toNat fn sq.toNat tag.toNat)

/-- CPL_HOLD_EXPIRY: the descriptors of a lost branch end (R228). -/
def execCplHoldExpiry (t : Nat) (link : BitVec 4) (s : State) : Host.Outcome State Fault Refusal :=
  whenWf (wf (.cplHoldExpiry t link)) t s <| effect t s fun s =>
    settle (cplHoldOver s link.toNat)

/-- CPL: a completion of a branch (R216, R228). -/
def execCpl (t : Nat) (link : BitVec 4) (fn : Fn) (sq : BitVec 8) (b : CplBody) (s : State) : Host.Outcome State Fault Refusal :=
  whenWf (wf (.cpl t link fn sq b)) t s <| effect t s fun s =>
    settle (takeCpl s link.toNat fn sq.toNat b.entry b.bytes)

/-- RECORD: records of a branch (R216, R418). -/
def execRecord (t : Nat) (link : BitVec 4) (gen : BitVec 2) (rs : List EqRecord) (s : State) : Host.Outcome State Fault Refusal :=
  whenWf (wf (.record t link gen rs)) t s <| effect t s fun s =>
    if fromBranch s link.toNat then forEach rs s fun s r => takeRecord s gen.toNat r else s

/-- FAULT: a late fault of a branch (R92, R216). -/
def execFault (t : Nat) (link : BitVec 4) (fn : Fn) (r : FqRecord) (s : State) : Host.Outcome State Fault Refusal :=
  whenWf (wf (.fault t link fn r)) t s <| effect t s fun s =>
    if fromBranch s link.toNat then takeFault s fn r else s

/-- GUST_SENSE: a sample the root has subscribed to (R269). -/
def execGustSense (t : Nat) (link : BitVec 4) (tea : BitVec 24) (cap : Nat) (bytes : List Byte) (s : State) : Host.Outcome State Fault Refusal :=
  whenWf (wf (.gustSense t link tea cap bytes)) t s <| effect t s fun s =>
    settle (takeSense s link.toNat tea.toNat cap bytes)

/-- GUST_ACT: a root rule acts on an endpoint of this branch (R269). -/
def execGustAct (t : Nat) (tea : BitVec 24) (ra : BitVec 21) (gale : Bool) (cap : Nat) (bytesMask : Byte) (bytes : List Byte) (s : State) : Host.Outcome State Fault Refusal :=
  whenWf (wf (.gustAct t tea ra gale cap bytesMask bytes)) t s <| effect t s fun s =>
    settle (takeAct s tea.toNat ra.toNat gale cap bytesMask.toNat bytes)

/-- GUST_SUBSCRIBE: the branch sends SENSE for an endpoint from now on (R269). -/
def execGustSubscribe (t : Nat) (tea : BitVec 24) (gale : Bool) (s : State) : Host.Outcome State Fault Refusal :=
  whenWf (wf (.gustSubscribe t tea gale)) t s <| effect t s fun s =>
    if isBranch s then gustShow { s with subs := s.subs.insert tea.toNat gale } else s

/-- GUST_UNSUBSCRIBE: the branch sends no SENSE for an endpoint any more (R269). -/
def execGustUnsubscribe (t : Nat) (tea : BitVec 24) (s : State) : Host.Outcome State Fault Refusal :=
  whenWf (wf (.gustUnsubscribe t tea)) t s <| effect t s fun s =>
    if isBranch s then gustShow { s with subs := s.subs.erase tea.toNat } else s

/-- GUST_DEPOSIT: a FIRE rule is kept for the case of an orphan (R272). -/
def execGustDeposit (t : Nat) (ra : BitVec 21) (rule : BitVec 256) (s : State) : Host.Outcome State Fault Refusal :=
  whenWf (wf (.gustDeposit t ra rule)) t s <| effect t s fun s =>
    if isBranch s && teaHub (leAt (leBytes 32 rule.toNat) 20 3) == hubOf s && (s.deposits.length < 4096 || (s.deposits.find ra.toNat).isSome) then
      gustShow { s with deposits := s.deposits.insert ra.toNat (leBytes 32 rule.toNat) }
    else s

/-- GUST_WITHDRAW: a deposit is discarded (R272). -/
def execGustWithdraw (t : Nat) (ra : BitVec 21) (s : State) : Host.Outcome State Fault Refusal :=
  whenWf (wf (.gustWithdraw t ra)) t s <| effect t s fun s =>
    if isBranch s then gustShow { s with deposits := s.deposits.erase ra.toNat } else s

/-- GUST_RESULT: the outcome of an ACT (R269). -/
def execGustResult (t : Nat) (link : BitVec 4) (tea : BitVec 24) (ra : BitVec 21) (outcome : Byte) (at_ : Nat) (s : State) : Host.Outcome State Fault Refusal :=
  whenWf (wf (.gustResult t link tea ra outcome at_)) t s <| effect t s fun s =>
    takeResult s link.toNat tea.toNat ra.toNat outcome.toNat at_

/-- CONFIG: the upstream parameter set (R221). -/
def execConfig (t : Nat) (p : UpParams) (s : State) : Host.Outcome State Fault Refusal :=
  whenWf (wf (.config t p)) t s <| effect t s fun s =>
    if isBranch s then storeParams s p else s

/-- ROLE_ACK: the partner's acceptance (R219). -/
def execRoleAck (t : Nat) (link : BitVec 4) (accepted : Bool) (s : State) : Host.Outcome State Fault Refusal :=
  whenWf (wf (.roleAck t link accepted)) t s <| effect t s fun s =>
    settle (takeRoleAck s link.toNat accepted)

/-- TIME_SYNC_SEND: TIME_SYNC to a child (R220). -/
def execTimeSyncSend (t : Nat) (link : BitVec 4) (s : State) : Host.Outcome State Fault Refusal :=
  whenWf (wf (.timeSyncSend t link)) t s <| effect t s fun s =>
    sendSync s link.toNat

/-- TIME_REPLY: delay and RTT of an exchange (R221). -/
def execTimeReply (t : Nat) (link : BitVec 4) (m : ReplyMsg) (s : State) : Host.Outcome State Fault Refusal :=
  whenWf (wf (.timeReply t link m)) t s <| effect t s fun s =>
    settle (takeReply s link.toNat m)

/-- TIME_SYNC_LOSS: no valid TIME_SYNC for 5 ms (time states table). -/
def execTimeSyncLoss (t : Nat) (s : State) : Host.Outcome State Fault Refusal :=
  whenWf (wf (.timeSyncLoss t)) t s <| effect t s fun s =>
    match s.tt.syncSeen with
    | some t0 => if isBranch s && decide (t0 + 5000000 ≤ s.fc.now) && (decide (s.tt.own = .acquiring) || decide (s.tt.own = .locked)) then
        toHoldover s else s
    | none => s

/-- VFP_MESSAGE: a VFP frame of a stream node (R231). -/
def execVfpMessage (t : Nat) (link : BitVec 4) (f : RxFrame) (s : State) : Host.Outcome State Fault Refusal :=
  whenWf (wf (.vfpMessage t link f)) t s <| effect t s fun s =>
    if (s.link link.toNat).cls = 3 ∧ (s.link link.toNat).st = 8 then settle (anyReply s (48 + link.toNat) f 1) else s

/-- STREAM: stream data under a grant (R233). -/
def execStream (t : Nat) (link : BitVec 4) (tag : BitVec 16) (ep : BitVec 5) (bytes : List Byte) (s : State) : Host.Outcome State Fault Refusal :=
  whenWf (wf (.stream t link tag ep bytes)) t s <| effect t s fun s =>
    settle (streamIn s link.toNat tag.toNat bytes)

/-- STREAM_ACK: the answer to a STREAM of the hub (R233). -/
def execStreamAck (t : Nat) (link : BitVec 4) (tag : BitVec 16) (stalled : Bool) (s : State) : Host.Outcome State Fault Refusal :=
  whenWf (wf (.streamAck t link tag stalled)) t s <| effect t s fun s =>
    settle (streamEnds s link.toNat tag.toNat (if stalled then Status.stalled else Status.done))

/-- GRANT_TIMEOUT: a grant was not used within 10 s (R233). -/
def execGrantTimeout (t : Nat) (link : BitVec 4) (tag : BitVec 16) (s : State) : Host.Outcome State Fault Refusal :=
  whenWf (wf (.grantTimeout t link tag)) t s <| effect t s fun s =>
    settle (grantOver s link.toNat tag.toNat)

/-- STREAM_ACK_TIMEOUT: no STREAM_ACK within 100 ms (R233). -/
def execStreamAckTimeout (t : Nat) (link : BitVec 4) (tag : BitVec 16) (s : State) : Host.Outcome State Fault Refusal :=
  whenWf (wf (.streamAckTimeout t link tag)) t s <| effect t s fun s =>
    settle (streamEnds s link.toNat tag.toNat Status.noResponse)

/-- TRAINING_COMPLETE: the equalizer settings that training found stand in LNK_LANE_TXEQ (R199). -/
def execTrainingComplete (t : Nat) (link : BitVec 5) (txeq : List Word) (s : State) : Host.Outcome State Fault Refusal :=
  whenWf (wf (.trainingComplete t link txeq)) t s <| effect t s fun s =>
    onLink s link fun s l =>
      if (s.link l).st = 4 then
        let s1 := if l = upLink then s else forEach ((List.range (s.link l).width).zip txeq) s fun s x => s.wr (Reg.LNK_LANE_TXEQ l x.1) x.2
        linkTo s1 l 5
      else s

/-- NO_PARTNER_TIMEOUT: 5 s without UP are reported once; bring-up restarts then and every 1 s (R201). -/
def execNoPartnerTimeout (t : Nat) (link : BitVec 5) (s : State) : Host.Outcome State Fault Refusal :=
  whenWf (wf (.noPartnerTimeout t link)) t s <| effect t s fun s =>
    onLink s link fun s l =>
      let k := s.link l
      let again := fun (s : State) => startLink (s.modLink l fun k => { k with noPartner := true, downAt := some s.fc.now }) l
      match k.presentAt with
      | some p =>
        if !k.presence || decide (k.st < 2) || decide (7 < k.st) then s
        else if !k.noPartner then
          (if p + 5000000000 ≤ s.fc.now then again (linkEvent s l 0x0F) else s)
        else if (k.downAt.getD 0) + 1000000000 ≤ s.fc.now then again s else s
      | none => s

/-- LANE_REJOIN_ATTEMPT: training frames go out on the failed lanes; lanes that both sides hold rejoin (R225). -/
def execLaneRejoinAttempt (t : Nat) (link : BitVec 5) (s : State) : Host.Outcome State Fault Refusal :=
  whenWf (wf (.laneRejoinAttempt t link)) t s <| effect t s fun s =>
    onLink s link fun s l =>
      if (s.link l).st = 8 ∧ (s.link l).failed ≠ 0 then lanesBack (s.emit (.train l (s.link l).failed)) l else s

/-- ROLE at a branch (R219); one that has never framed takes the frame number too. -/
def execRole (t : Nat) (hub : BitVec 5) (frame : Word) (ftime : Nat) (p : UpParams) (s : State) :
    Host.Outcome State Fault Refusal :=
  whenWf (wf (.role t hub frame ftime p)) t s <| tickEffect t s (roleClock frame.toNat) fun s =>
    if awake s then takeRole s hub.toNat frame.toNat p else s

/-- TIME_SYNC at a branch (R220, R284); one that has never framed takes frame number and phase with the link's UP. -/
def execTimeSync (t : Nat) (m : SyncMsg) (s : State) : Host.Outcome State Fault Refusal :=
  whenWf (wf (.timeSync t m)) t s <| tickEffect t s (syncClock m) fun s => if awake s then takeSync s m else s

/-- Has a branch that has never framed waited 2 s after reset release for time sync (R15). -/
def orphanStarts (s : State) : Bool :=
  awake s && s.neverFramed && isBranch s && (s.link upLink).st != 8 && decide (s.bootAt + 1850000000 ≤ s.fc.now)

/-- ORPHAN_START_TIMEOUT: 2 s after reset release without time sync, a branch frames by itself from frame 0 and runs
orphaned (R15). -/
def execOrphanStartTimeout (t : Nat) (s : State) : Host.Outcome State Fault Refusal :=
  whenWf (wf (.orphanStartTimeout t)) t s <| resetEffect t s orphanStarts fun s =>
    if orphanStarts s then
      { s with neverFramed := false, fc := coldClock s }.modLink upLink fun k => { k with orphanSince := some s.fc.now }
    else s

end Sys2Proof.Machine
end

