-- ==== Sys2Proof/Machine/SpwRows.lean ====
section
/-! DEFINITION. Commands of segment power: SEG_POWER (R299), ramps, samples, trips, backoffs, tests (R292 to R302). -/
namespace Sys2Proof.Machine
open Sys2Proof.WellFormed

def ruleSegPower : OpRule := { opcode := 0x18, standby := false, len := .zero }

/-- Does a TEA name a segment port: h.port.0.0 with port 0 to 47. -/
def segTea (tea : Nat) : Bool := decide (teaPort tea < 48) && teaNode tea == 0 && teaEp tea == 0

/-- Set SPW_CTRL.ON. -/
def setOn (s : State) (p : Nat) (on : Bool) : State := s.setFlag (Reg.SPW_CTRL p) Fld.SPW_CTRL_ON on

/-- SEG_POWER OFF. -/
def opPowerOff (x : Desc) (s : State) : State :=
  let p := teaPort x.tea
  complete (powerOff (setOn s p false) p) x Status.done 0

/-- SEG_POWER ON: DONE once queued; with WAIT once the segment is ON. -/
def opPowerOn (x : Desc) (s : State) : State :=
  let p := teaPort x.tea
  let s1 := setOn s p true
  if !bitOf (byteAt x.args 1) 0 then complete (powerOn s1 p) x Status.done 0
  else if powerSt s1 p = 3 then complete s1 x Status.done 0
  else if powerSt s1 p = 6 then complete s1 x Status.stalled 0
  else powerOn (s1.modSpw p fun w => { w with waiters := w.waiters ++ [x.id] }) p

/-- SEG_POWER QUERY: EFF_LEN holds SPW_STATUS. -/
def opPowerQuery (x : Desc) (s : State) : State := complete s x Status.done (s.rd (Reg.SPW_STATUS (teaPort x.tea))).toNat

/-- What a SEG_POWER does, by its ACTION. -/
def opSegPower (x : Desc) (s : State) : State :=
  if !segTea x.tea then complete s x Status.denied
  else match byteAt x.args 0 with
    | 0 => opPowerOff x s
    | 1 => opPowerOn x s
    | 2 => opPowerQuery x s
    | _ => complete s x Status.denied

/-- SEG_POWER OFF (R299). -/
def execSegPowerOff (t : Nat) (d : SqEntry) (s : State) : Host.Outcome State Fault Refusal :=
  whenWf (wf (.segPowerOff t d)) t s <| effect t s fun s => settle (fetched s d ruleSegPower opSegPower)

/-- SEG_POWER ON (R299). -/
def execSegPowerOn (t : Nat) (d : SqEntry) (s : State) : Host.Outcome State Fault Refusal :=
  whenWf (wf (.segPowerOn t d)) t s <| effect t s fun s => fetched s d ruleSegPower opSegPower

/-- SEG_POWER QUERY (R299). -/
def execSegPowerQuery (t : Nat) (d : SqEntry) (s : State) : Host.Outcome State Fault Refusal :=
  whenWf (wf (.segPowerQuery t d)) t s <| effect t s fun s => fetched s d ruleSegPower opSegPower

/-- BACKOFF_EXPIRY: the segment joins the power queue (R297). -/
def execBackoffExpiry (t : Nat) (port : Nat) (s : State) : Host.Outcome State Fault Refusal :=
  whenWf (wf (.backoffExpiry t port)) t s <| effect t s fun s =>
    if powerSt s port = 4 ∧ (s.spw port).backoffUntil ≤ s.fc.now then enqueueAll (spwCnt s 4) [port] else s

/-- RETRY_COUNT_RESET: 60 s in ON without a trip (R297). -/
def execRetryCountReset (t : Nat) (port : Nat) (s : State) : Host.Outcome State Fault Refusal :=
  whenWf (wf (.retryCountReset t port)) t s <| effect t s fun s =>
    if powerSt s port = 3 ∧ (s.spw port).onAt + 60000000000 ≤ s.fc.now then
      s.setFld (Reg.SPW_STATUS port) Fld.SPW_STATUS_RETRIES 0
    else s

/-- RAMP_COMPLETE (R293, R294). -/
def execRampComplete (t : Nat) (port : Nat) (s : State) : Host.Outcome State Fault Refusal :=
  whenWf (wf (.rampComplete t port)) t s <| timeEffect t s fun s =>
    if powerSt s port = 2 ∧ rampEnd s port ≤ s.fc.now then reachOn s port else s

/-- BREAKER_TRIP: a test trips a segment whose SPW_EN is high; the curves of a suspect segment are suspended (R296,
R302). -/
def execBreakerTrip (t : Nat) (port : Nat) (test : TripTest) (point : BitVec 3) (s : State) :
    Host.Outcome State Fault Refusal :=
  whenWf (wf (.breakerTrip t port test point)) t s <| timeEffect t s fun s =>
    if !enHigh s port || (decide (test ≠ .instant) && s.flag (Reg.SPW_STATUS port) Fld.SPW_STATUS_SUSPECT) then s
    else settle (match test with
      | .curve => tripSeg s port 1 point.toNat
      | .inrush => tripSeg s port 2 point.toNat
      | .instant => tripSeg s port 3 0xFF)

/-- OPEN_SENSE_TEST of a bank while TEST_EN is 1 (R301). -/
def execOpenSenseTest (t : Nat) (bank : Nat) (shifts : List Int) (s : State) : Host.Outcome State Fault Refusal :=
  whenWf (wf (.openSenseTest t bank shifts)) t s <| effect t s fun s =>
    if s.flag Reg.SPW_SENSE_CFG Fld.SPW_SENSE_CFG_TEST_EN && !s.pw.off then settle (senseTest s bank shifts) else s

/-- SENSE_SAMPLE (R293, R296) (DESIGN CHOICE, log entry 85). -/
def execSenseSample (t : Nat) (port : Nat) (ma10 : BitVec 12) (s : State) : Host.Outcome State Fault Refusal :=
  whenWf (segPort port) t s <| timeEffect t s fun s =>
    if s.pw.off then s else settle (sampleSeg s port ma10.toNat)

/-- SOFT_START_END: SPW_SLEW falls when RAMP has passed (R292). -/
def execSoftStartEnd (t : Nat) (port : Nat) (s : State) : Host.Outcome State Fault Refusal :=
  whenWf (segPort port) t s <| timeEffect t s fun s =>
    if (s.spw port).enAt + s.fld (Reg.SPW_CTRL port) Fld.SPW_CTRL_RAMP * 500000 ≤ s.fc.now then slewLow s port else s

end Sys2Proof.Machine
end

