-- ==== Sys2Proof/Machine/TimeRows.lean ====
section
/-! DEFINITION. Commands of tree time: TIME_SET, TIME_ADJ (R283), the sources of the root (R280, R281), holdover, slews,
PPS_OUT (R287). -/
namespace Sys2Proof.Machine
open Sys2Proof.WellFormed

def ruleTimeSet : OpRule := { opcode := 0x20, standby := false, len := .zero, here := true }
def ruleTimeAdj : OpRule := { opcode := 0x21, standby := false, len := .zero, here := true }

/-- May TIME_SET or TIME_ADJ act (R283). -/
def timeAllowed (s : State) (x : Desc) : Bool := x.tea == 0 && !isBranch s && timeSource s == 2

/-- TIME_SET: the offset of TIME_NS to the boundary of FRAME_AT, in the base that the corrections before it leave
(R283). A frame number ahead of the present one is taken as the present one. -/
def opTimeSet (x : Desc) (s : State) : State :=
  if !timeAllowed s x then complete s x Status.denied
  else
    let back := (s.fc.frameNo + 2 ^ 32 - leAt x.args 10 4) % 2 ^ 32
    let ahead := decide (2 ^ 31 < back)
    let ago := (s.fc.now - s.fc.frameStart) + (if ahead then 0 else back) * 1000000
    let want : Int := (leAt x.args 0 8 * 65536 + leAt x.args 8 2 : Nat) + (ago * 65536 : Nat)
    let delta := want - ((s.tt.time : Int) + stepsWaiting s)
    let s1 := clampDesc s x ahead
    let s2 := s1.modTt fun t => { t with hostAbsolute := bitOf (byteAt x.args 14) 0, hostLock := true, everMeasured := true }
    let s3 := correct s2 delta 2 (some x.id)
    if s3.tt.steps.isEmpty then hostLocks (refreshTime s3) else refreshTime s3

/-- TIME_ADJ: a correction on top of what is pending, and the frequency trim (R283). -/
def opTimeAdj (x : Desc) (s : State) : State :=
  if !timeAllowed s x then complete s x Status.denied
  else
    let ppb := toSigned 32 (leAt x.args 8 4)
    let trim : Int := if ppb < -100000 then -100000 else if 100000 < ppb then 100000 else ppb
    let s1 := (clampDesc s x (trim != ppb)).modTt fun t => { t with trimPpb := trim }
    correct s1 (toSigned 64 (leAt x.args 0 8) * 65536 + s.tt.slewLeft) 3 (some x.id)

/-- TIME_SET. -/
def execTimeSet (t : Nat) (d : SqEntry) (s : State) : Host.Outcome State Fault Refusal :=
  whenWf (wf (.timeSet t d)) t s <| effect t s fun s => fetched s d ruleTimeSet opTimeSet

/-- TIME_ADJ. -/
def execTimeAdj (t : Nat) (d : SqEntry) (s : State) : Host.Outcome State Fault Refusal :=
  whenWf (wf (.timeAdj t d)) t s <| effect t s fun s => fetched s d ruleTimeAdj opTimeAdj

/-- PTM_EXCHANGE of the active function (root sources table, R281). -/
def execPtmExchange (t : Nat) (fn : Fn) (offset : Option Int) (s : State) : Host.Outcome State Fault Refusal :=
  whenWf (wf (.ptmExchange t fn offset)) t s <| timeEffect t s fun s =>
    if isBranch s || timeSource s != 1 || !decide (activeFn s = some fn) then s
    else match offset with
      | some o => measure (s.modTt fun x => { x with ptmFails := 0 }) (o * 65536)
      | none =>
        let n := s.tt.ptmFails + 1
        let s1 := s.modTt fun x => { x with ptmFails := n }
        if 3 ≤ n && (decide (s.tt.own = .acquiring) || decide (s.tt.own = .locked)) then toHoldover s1 else s1

/-- A pulse marks a second: the count of seconds and the agreement of sentences go on with it (R281). -/
def pulseTaken (s : State) : State :=
  s.modTt fun x => { x with lastPulse := some s.fc.now, second := x.second.map (· + 1), zdaSecond := x.zdaSecond.map (· + 1) }

/-- Does a pulse fall within 1 ms of an edge expected after the last one. -/
def pulseExpected (s : State) : Bool := match s.tt.lastPulse with
  | some p =>
    let r := (s.fc.now - p) % 1000000000
    decide (r ≤ 1000000) && decide (1000000 < s.fc.now - p) || decide (999000000 ≤ r)
  | none => true

/-- PPS_IN_EDGE: the configured edge is measured once the count of seconds is known (R281). -/
def execPpsInEdge (t : Nat) (falling : Bool) (s : State) : Host.Outcome State Fault Refusal :=
  whenWf (wf (.ppsInEdge t falling)) t s <| timeEffect t s fun s =>
    if isBranch s || timeSource s != 0 || falling != s.flag Reg.TIM_CTRL Fld.TIM_CTRL_PPS_IN_FALLING then s
    else if !pulseExpected s then s
    else
      let s1 := pulseTaken s
      match s1.tt.second with
      | some sec => measure s1 ((sec * 1000000000 * 65536 : Nat) - (s1.tt.time : Int))
      | none => s1

/-- PPS_LOSS: no pulse for 1.5 s (root sources table). -/
def execPpsLoss (t : Nat) (s : State) : Host.Outcome State Fault Refusal :=
  whenWf (wf (.ppsLoss t)) t s <| timeEffect t s fun s =>
    match s.tt.lastPulse with
    | some p => if !isBranch s && timeSource s == 0 && decide (p + 1500000000 ≤ s.fc.now) then
        (if s.tt.everMeasured && (decide (s.tt.own = .acquiring) || decide (s.tt.own = .locked)) then toHoldover s
         else s.modTt fun x => { x with second := none, lastPulse := none, zdaAgree := 0, zdaSecond := none }) else s
    | none => s

/-- ZDA_SENTENCE: two agreeing ones give the count of seconds; a later one that disagrees is reported (R281). -/
def execZdaSentence (t : Nat) (utc : Nat) (checksumOk : Bool) (sincePulseMs : Nat) (s : State) :
    Host.Outcome State Fault Refusal :=
  whenWf (wf (.zdaSentence t utc checksumOk sincePulseMs)) t s <| timeEffect t s fun s =>
    if isBranch s || timeSource s != 0 || !checksumOk || decide (sincePulseMs < 100) || decide (900 < sincePulseMs) ||
        s.tt.lastPulse.isNone then s
    else
      let tai := ((utc : Int) + toSigned 16 (s.fld Reg.TIM_LEAP Fld.TIM_LEAP_TAI_UTC)).toNat
      match s.tt.second with
      | some sec => if sec = tai then s else timInt s 2
      | none =>
        let agree := if s.tt.zdaSecond = some tai then s.tt.zdaAgree + 1 else 1
        s.modTt fun x => { x with
          zdaSecond := some tai, zdaAgree := agree, second := if 2 ≤ agree then some tai else none }

/-- HOLDOVER_EXPIRY (time states table). -/
def execHoldoverExpiry (t : Nat) (s : State) : Host.Outcome State Fault Refusal :=
  whenWf (wf (.holdoverExpiry t)) t s <| timeEffect t s fun s =>
    match s.tt.holdSince with
    | some b => if decide (s.tt.own = .holdover) &&
          decide (b + s.fld Reg.TIM_LIMITS Fld.TIM_LIMITS_HOLDOVER_S * 1000000000 ≤ s.fc.now) then setOwn s .expired else s
    | none => s

/-- SLEW_COMPLETE: a slew has used up its correction (TIM_INT_STATUS.SLEW_DONE). -/
def execSlewComplete (t : Nat) (s : State) : Host.Outcome State Fault Refusal :=
  whenWf (wf (.slewComplete t)) t s <| timeEffect t s fun s =>
    if s.tt.slewing && s.tt.slewLeft == 0 then timInt (s.modTt fun x => { x with slewing := false }) 3 else s

/-- PPS_OUT_PULSE: tree time crosses a whole second, and 500 ms have passed since the last rise; the ZDA that follows
names the pulse's UTC second (R287). -/
def execPpsOutPulse (t : Nat) (s : State) : Host.Outcome State Fault Refusal :=
  whenWf (wf (.ppsOutPulse t)) t s <| timeEffect t s fun s =>
    let near := match s.tt.ppsRise with
      | some r => decide (s.fc.now < r + 500000000)
      | none => false
    if near || !s.flag Reg.TIM_CTRL Fld.TIM_CTRL_PPS_OUT_EN || decide (2 ≤ treeNs s % 1000000000) then s
    else
      let s1 := drive (s.modTt fun x => { x with ppsRise := some s.fc.now, ppsHigh := true }) .ppsOut true
      if s.flag Reg.TIM_CTRL Fld.TIM_CTRL_TOD_TX_EN && s.tt.absolute then
        s1.emit (.zda ((treeNs s / 1000000000 : Nat) - toSigned 16 (s.fld Reg.TIM_LEAP Fld.TIM_LEAP_TAI_UTC)).toNat)
      else s1

/-- PPS_OUT_FALL: PPS_OUT has been high for TIM_CTRL.PPS_WIDTH_MS (R287). -/
def execPpsOutFall (t : Nat) (s : State) : Host.Outcome State Fault Refusal :=
  whenWf true t s <| timeEffect t s fun s =>
    match s.tt.ppsRise with
    | some r => if s.tt.ppsHigh && decide (r + s.fld Reg.TIM_CTRL Fld.TIM_CTRL_PPS_WIDTH_MS * 1000000 ≤ s.fc.now) then
        drive (s.modTt fun x => { x with ppsHigh := false }) .ppsOut false else s
    | none => s

end Sys2Proof.Machine
end

