-- ==== Sys2Proof/Machine/RegOps.lean ====
section
/-! DEFINITION. Register-access requests (R108), the debug window (R62), the maintenance function's commands (R341 to
R343), and the descriptors a branch runs (R216). -/
namespace Sys2Proof.Machine

/-! ## Words that rows write -/

/-- NVM_CMD with an OP. -/
def withOp (v : Word) (op : Nat) : Word := putField v ⟨28, 4⟩ op

/-- PWR_CTRL with a TARGET. -/
def withTarget (v : Word) (t : Nat) : Word := putField v Fld.PWR_CTRL_TARGET t

/-- LNK_CTRL with ENABLE as it stands or is pending, and no action. -/
def linkCtrl (s : State) (l : Nat) : Word := pendingWord s (Reg.LNK_CTRL l) &&& 1

/-- An access to the debug SRAM window: one that is not secure counts and reads 0; what a secure one finds is a free
value (R62) (DESIGN CHOICE, log entry 13). -/
def bar4Access (s : State) (ini : Initiator) (addr : Nat) (isWrite : Bool) : State :=
  if isSecure s ini then
    if isWrite then s
    else
      let z := s.fresh
      z.2.emit (.readData (Config.debugWord z.1))
  else
    let s1 := secFault s ini addr true
    if isWrite then s1 else s1.emit (.readData 0)

/-! ## Register-access requests (R108) -/

/-- Registers from an address on, read by an initiator: their words, lowest address first; those not assigned or not
reached read 0 (DEDUCED, log entry 61). -/
def readRun (s : State) (ini : Initiator) (there : Nat → Bool) (a : Nat) : Nat → State × List Byte
  | 0 => (s, [])
  | n + 1 =>
    let z := if (Reg.at a).isSome && reaches s ini a && there a then readReg s ini a true else (s, 0)
    let r := readRun z.1 ini there (a + 4) n
    (r.1, leBytes 4 z.2.toNat ++ r.2)

/-- Registers from an address on, written by an initiator, each in turn (DEDUCED, log entry 61). -/
def writeRun (s : State) (ini : Initiator) (there : Nat → Bool) (a : Nat) (data : List Byte) : Nat → State
  | 0 => s
  | n + 1 =>
    let s1 := if there a then writeOne WriteIn.plain s ini a (BitVec.ofNat 32 (leAt data 0 4)) else s
    writeRun s1 ini there (a + 4) (data.drop 4) n

/-- The clamps of the registers that a descriptor wrote count once, with its own (R53). b is the state before. -/
def clampOnce (s b : State) (x : Desc) : State :=
  let k := Reg.GLB_CNT 0
  if s.rd k = b.rd k then s else clampDesc (s.wr k (b.rd k)) x true

/-- Registers of a register-access request: COUNT, 1 to 64. -/
def accessCount (args : List Byte) : Nat := clampNat 1 64 (byteAt args 1)

/-- A register-access request: COUNT registers; without a host buffer no data moves and nothing is accessed (R108)
(DEDUCED, log entry 61). -/
def opRegAccess (x : Desc) (s : State) : State :=
  let req := byteAt x.args 0
  let n := if x.addr = 0 then 0 else accessCount x.args
  let a := leAt x.args 2 3 / 4 * 4
  let clamp := accessCount x.args != byteAt x.args 1
  let s1 := clampDesc s x clamp
  let ini := Initiator.branchCtl x.fn
  if req = 0xE1 then
    let z := readRun s1 ini (fun _ => true) a n
    complete (hostWrite z.1 x z.2) x Status.done (4 * n)
  else if req = 0xE2 then
    complete (clampOnce (writeRun s1 ini (fun _ => true) a x.data n) s1 (x.noted clamp)) x Status.done (4 * n)
  else complete s x Status.denied

/-- CONTROL_XFER by its address: a register-access request moves 4 bytes for each register, whatever LENGTH says (R108). -/
def controlRule (d : SqEntry) : OpRule :=
  if hubForm d.tea.toNat then { ruleControl with len := { ruleControl.len with moves := some (4 * accessCount d.args) } }
  else ruleControl

/-- CONTROL_XFER: to h.0.0.0 a register-access request, else a control transfer with a node (R108, R127). -/
def opControl (x : Desc) (s : State) : State := if hubForm x.tea then opRegAccess x s else opControlNode x s

/-! ## The maintenance function (R341 to R343) -/

/-- Does the maintenance function run: the USB device is configured, and the chip is not off nor without its clock. -/
def maintUp (s : State) : Bool :=
  s.flag Reg.PDP_USB_STATUS Fld.PDP_USB_STATUS_CONFIGURED && (!s.pw.off && (!s.pw.clocksStopped || s.pw.recovery == 3))

/-- A command reaches the maintenance function once the USB device is configured. -/
def maintCmd (s : State) (f : State → State) : State := if maintUp s then f s else s

/-- Does the table serve a command: in Recovery without a management core only IDENTIFY, RESTART and some reads; those that
write need PORT_WRITE outside Recovery. -/
def maintServed (s : State) (writes : Bool) : Bool :=
  if s.pw.recovery = 0 then !writes || s.flag Reg.PDP_CTRL Fld.PDP_CTRL_PORT_WRITE else s.pw.recovery != 3

/-- Is the block of a register powered for the maintenance function: in Recovery only AO and the management domain are
(R340, log entry 62). -/
def maintThere (s : State) (a : Nat) : Bool :=
  s.pw.recovery == 0 || decide (a < 0x5000) || (decide (0x8000 ≤ a) && decide (a < 0x9000))

/-- Do the AO core's reads reach a register: GLB, PWR and PDP (DEDUCED, log entry 62). -/
def aoThere (a : Nat) : Bool :=
  decide (a < 0x1000) || (decide (0x4000 ≤ a) && decide (a < 0x5000)) || (decide (0x8000 ≤ a) && decide (a < 0x9000))

/-- Answer a command with data, no longer than it wants. -/
def maintData (s : State) (op : Nat) (c : MaintCmd) (data : List Byte) : State :=
  maintReply s op Status.done c.tag.toNat (data.take c.len.toNat)

/-- IDENTIFY. -/
def maintIdentify (s : State) (c : MaintCmd) : State :=
  let word := fun a => leBytes 4 (shownWord s .maint a).toNat
  maintData s 1 c (word Reg.GLB_ID ++ word Reg.GLB_ROLE ++ word Reg.GLB_BUILD ++ word Reg.GLB_BOOT_COUNT ++
    word Reg.PDP_RECOVERY ++ word Reg.PDP_STATUS ++ leBytes 8 s.nvm.identity)

/-- REG_READ: ARG1 registers, 1 to 64, from ARG0 (DEDUCED, log entry 62). -/
def maintRead (s : State) (c : MaintCmd) : State :=
  let a := c.arg0.toNat / 4 * 4
  if s.pw.recovery = 3 ∧ !aoThere a then maintDenied s 2 c.tag.toNat
  else
    let z := readRun s .maint (fun a => if s.pw.recovery = 3 then aoThere a else maintThere s a) a (clampNat 1 64 c.arg1.toNat)
    maintData z.1 2 c z.2

/-- REG_WRITE: 1 to 64 words from ARG0 (DEDUCED, log entry 62; DEDUCED, log entry 80). -/
def maintWrite (s : State) (c : MaintCmd) : State :=
  let n := c.data.length / 4
  if !maintServed s true || n == 0 || decide (64 < n) then maintDenied s 3 c.tag.toNat
  else
    maintReply (writeRun s .maint (maintThere s) (c.arg0.toNat / 4 * 4) c.data n) 3 Status.done c.tag.toNat []

/-- FOLIO_READ: ARG1 entries from ARG0. -/
def maintFolio (s : State) (c : MaintCmd) : State :=
  if maintServed s false then
    maintData s 4 c (((folFrom s.folio c.arg0.toNat 0).take (Nat.min 1024 (Nat.min c.arg1.toNat (c.len.toNat / 64)))).flatMap folBytes)
  else maintDenied s 4 c.tag.toNat

/-- IMAGE_PIECE: the ARGS of the ring opcode, then its data (DEDUCED, log entry 44). -/
def maintImage (s : State) (c : MaintCmd) (tagOk : Bool) : State :=
  let args := fitBytes 40 c.data
  let data := c.data.drop 40
  if !maintServed s true then maintDenied s 5 c.tag.toNat
  else match byteAt args 0 with
    | 0 => manifestDelivered s args data data.length tagOk tagOk none (some c.tag.toNat)
    | 1 => pieceDelivered s args tagOk none (some c.tag.toNat)
    | 2 => abandonDelivered s args none (some c.tag.toNat)
    | _ => maintReply s 5 Status.denied c.tag.toNat []

/-- IMAGE_STATUS. -/
def maintStatus (s : State) (c : MaintCmd) : State :=
  if maintServed s false then maintData s 6 c (imageStatus s) else maintDenied s 6 c.tag.toNat

/-- RESTART: out of Recovery by a power-on reset of every domain except AO, with the main rail present (R341). -/
def maintRestart (s : State) (c : MaintCmd) (b : BootIn) : State :=
  if s.pw.recovery = 0 ∨ !s.port.aoRail then maintDenied s 7 c.tag.toNat
  else resetButAo (maintReply s 7 Status.done c.tag.toNat []) b 1

/-! ## Descriptors at a branch (R216) -/

/-- A descriptor of the root runs on this branch by its opcode; ok is the verdict of the checks of an image. -/
def descIn (s : State) (opcode : Nat) (d : SqEntry) (ok : Bool) (age : Option Nat) : State :=
  if !isBranch s then s
  else match opcode with
    | 0x01 => arrived s d age ruleWriteEp opWriteEp
    | 0x02 => arrived s d age ruleWriteConfirmed opWriteEpConfirmed
    | 0x03 => arrived s d age (ruleReadEp false) opReadEp
    | 0x04 => arrived s d age (configRule d) opConfigAny
    | 0x05 => arrived s d age (controlRule d) opControl
    | 0x06 => arrived s d age ruleBulk opBulk
    | 0x07 => arrived s d age ruleStream opStream
    | 0x12 => arrived s d age ruleGustLoad opGustLoad
    | 0x13 => arrived s d age ruleGustSwitch opGustSwitch
    | 0x18 => arrived s d age ruleSegPower opSegPower
    | 0x19 => arrived s d age ruleSegState opSegState
    | 0x1A => arrived s d age ruleApprove opNodeApprove
    | 0x1B => arrived s d age ruleDist opDistAny
    | 0x28 => arrived s d age ruleImagePiece (opImagePiece ok ok ok)
    | 0x29 => arrived s d age ruleSchedule (opSchedule [])
    | 0x2A => arrived s d age ruleImageStatus opImageStatus
    | 0x30 => arrived s d age ruleFolioRead opFolioRead
    | 0x38 => arrived s d age rulePdSend (opPdSend (if ok then 0 else 3))
    | _ => arrived s d age (ruleUnknown opcode) opUnknown

end Sys2Proof.Machine
end

