-- ==== Sys2Proof/Machine/MaintRows.lean ====
section
/-! DEFINITION. Commands of the maintenance function (R341 to R343), and descriptors that arrive at a branch (R216). -/
namespace Sys2Proof.Machine
open Sys2Proof.WellFormed

/-- IDENTIFY: who the hub is. -/
def execIdentify (t : Nat) (c : MaintCmd) (s : State) : Host.Outcome State Fault Refusal :=
  whenWf (wf (.identify t c)) t s <| aoEffect t s fun s =>
    maintCmd s (fun s => maintIdentify s c)

/-- REG_READ: registers, as a non-secure initiator. -/
def execRegRead (t : Nat) (c : MaintCmd) (s : State) : Host.Outcome State Fault Refusal :=
  whenWf (wf (.regRead t c)) t s <| aoEffect t s fun s =>
    maintCmd s (fun s => maintRead s c)

/-- REG_WRITE: registers, with PORT_WRITE or in Recovery. -/
def execRegWrite (t : Nat) (c : MaintCmd) (s : State) : Host.Outcome State Fault Refusal :=
  whenWf (wf (.regWrite t c)) t s <| effect t s fun s =>
    settle (maintCmd s (fun s => maintWrite s c))

/-- MAINT_FOLIO_READ: Folio entries. -/
def execMaintFolioRead (t : Nat) (c : MaintCmd) (s : State) : Host.Outcome State Fault Refusal :=
  whenWf (wf (.maintFolioRead t c)) t s <| effect t s fun s =>
    maintCmd s (fun s => maintFolio s c)

/-- MAINT_IMAGE_PIECE: a manifest, a piece or the end of a session. -/
def execMaintImagePiece (t : Nat) (c : MaintCmd) (tagOk : Bool) (s : State) : Host.Outcome State Fault Refusal :=
  whenWf (wf (.maintImagePiece t c tagOk)) t s <| effect t s fun s =>
    maintCmd s (fun s => maintImage s c tagOk)

/-- MAINT_IMAGE_STATUS: the data of IMAGE_STATUS. -/
def execMaintImageStatus (t : Nat) (c : MaintCmd) (s : State) : Host.Outcome State Fault Refusal :=
  whenWf (wf (.maintImageStatus t c)) t s <| effect t s fun s =>
    maintCmd s (fun s => maintStatus s c)

/-- RESTART: leaves Recovery by a power-on reset (R341). -/
def execRestart (t : Nat) (c : MaintCmd) (b : BootIn) (s : State) : Host.Outcome State Fault Refusal :=
  whenWf (wf (.restart t c b)) t s <| resetEffect t s (fun s => maintUp s && s.pw.recovery != 0 && s.port.aoRail) fun s =>
    maintCmd s (fun s => maintRestart s c b)

/-- MAINT_UNKNOWN_OP: an unknown OP is INERT (R343). -/
def execMaintUnknownOp (t : Nat) (c : MaintCmd) (op : Byte) (s : State) : Host.Outcome State Fault Refusal :=
  whenWf (wf (.maintUnknownOp t c op)) t s <| effect t s fun s =>
    maintCmd s (fun s => maintReply s op.toNat Status.inert c.tag.toNat [])

/-- DESC: a descriptor of the root runs on this branch (R216). -/
def execDesc (t : Nat) (opcode : Byte) (d : DescBody) (ok : Bool) (s : State) : Host.Outcome State Fault Refusal :=
  whenWf (wf (.desc t opcode d ok)) t s <| effect t s fun s =>
    settle (descIn s opcode.toNat d.entry ok d.age)

end Sys2Proof.Machine
end

