-- ==== Sys2Proof/Machine/PortRows.lean ====
section
/-! DEFINITION. Commands of the service port (R326 to R341, R344). -/
namespace Sys2Proof.Machine
open Sys2Proof.WellFormed

/-- PD_MSG_SEND: a PD message from the host (R331, R335). -/
def execPdMsgSend (t : Nat) (d : PdSendIn) (s : State) : Host.Outcome State Fault Refusal :=
  whenWf (wf (.pdMsgSend t d)) t s <| effect t s fun s =>
    fetched s d.entry rulePdSend (opPdSend d.misses.toNat)

/-- Does an attach wake the hub from Vault (R320). -/
def attachWakes (s : State) : Bool :=
  s.pw.off && s.port.aoRail && s.flag Reg.PWR_VAULT_CFG Fld.PWR_VAULT_CFG_WAKE_SERVICE_PORT

/-- TYPEC_ATTACH: a partner attaches; it wakes the hub from Vault, and ends Lull (R319, R320, R326). -/
def execTypecAttach (t : Nat) (source : Bool) (orient : Bool) (rp : BitVec 2) (b : BootIn) (s : State) : Host.Outcome State Fault Refusal :=
  whenWf (wf (.typecAttach t source orient rp b)) t s <| resetEffect t s attachWakes fun s =>
    if attachWakes s then wakeReset (portAttach s source orient rp.toNat) b 3
    else if s.pw.off && s.port.aoRail then portAttach s source orient rp.toNat
    else if s.pw.off then s
    else lullWake (portAttach s source orient rp.toNat) 7

/-- TYPEC_DETACH: the partner detaches (R336). -/
def execTypecDetach (t : Nat) (s : State) : Host.Outcome State Fault Refusal :=
  whenWf (wf (.typecDetach t)) t s <| aoEffect t s fun s =>
    portDetach s

/-- PD_MESSAGE: a PD message is received (R333, R334, R336). -/
def execPdMessage (t : Nat) (m : PdBlock) (s : State) : Host.Outcome State Fault Refusal :=
  whenWf (wf (.pdMessage t m)) t s <| aoEffect t s fun s =>
    if s.port.st = 0 ∨ s.port.st = 3 then s else pdReceived s m

/-- HARD_RESET: Hard Reset signalling is received (R331, R344). -/
def execHardReset (t : Nat) (s : State) : Host.Outcome State Fault Refusal :=
  whenWf (wf (.hardReset t)) t s <| aoEffect t s fun s =>
    if s.port.st = 0 ∨ s.port.st = 3 then s else hardResetEnds ((dropWaitSend s).bump (Reg.PDP_CNT 8) 1) true

/-- SENDER_RESPONSE_TIMEOUT: SenderResponseTimer expires (R331, R339). -/
def execSenderResponseTimeout (t : Nat) (s : State) : Host.Outcome State Fault Refusal :=
  whenWf (wf (.senderResponseTimeout t)) t s <| aoEffect t s fun s =>
    let due := s.port.sentAt + s.fld Reg.PDP_TIMER Fld.PDP_TIMER_SENDER_RESP_MS * 1000000
    if (s.port.ownReq = 0 ∧ s.port.resetOut = false) ∨ s.fc.now < due then s
    else if s.port.frsBusy then frsFails s 3 else senderTimeout s

/-- HOST_RESPONSE_TIMEOUT: the host has not answered in time; while a seal runs the answer waits (R334, R338). -/
def execHostResponseTimeout (t : Nat) (s : State) : Host.Outcome State Fault Refusal :=
  whenWf (wf (.hostResponseTimeout t)) t s <| aoEffect t s fun s =>
    let due := s.port.askedAt + s.fld Reg.PDP_TIMER Fld.PDP_TIMER_HOST_RESP_MS * 1000000
    match s.port.asked with
    | some m => if due ≤ s.fc.now ∧ portWaits s = false then autoAnswer s m else s
    | none => s

/-- ERROR_RECOVERY_END: 25 ms of ErrorRecovery are over (R331). -/
def execErrorRecoveryEnd (t : Nat) (s : State) : Host.Outcome State Fault Refusal :=
  whenWf (wf (.errorRecoveryEnd t)) t s <| aoEffect t s fun s =>
    if s.port.st = 3 ∧ s.port.recoveryEnd ≤ s.fc.now then portDetach s else s

/-- FRS_VBUS_CHECK: VBUS at T + 1 ms of a fast role swap (R339). -/
def execFrsVbusCheck (t : Nat) (mv : BitVec 16) (s : State) : Host.Outcome State Fault Refusal :=
  whenWf (wf (.frsVbusCheck t mv)) t s <| aoEffect t s fun s =>
    frsCheck s mv.toNat

/-- VBUS_REMOVED: VBUS is removed: a sink detaches, Recovery ends (R341). -/
def execVbusRemoved (t : Nat) (b : BootIn) (s : State) : Host.Outcome State Fault Refusal :=
  whenWf (wf (.vbusRemoved t b)) t s <| resetEffect t s (fun s => s.port.aoRail && s.pw.recovery != 0) fun s =>
    vbusGone s b

/-- DEAD_BATTERY_START: the AO domain powers up from VBUS alone (R327, R340). -/
def execDeadBatteryStart (t : Nat) (s : State) : Host.Outcome State Fault Refusal :=
  whenWf (wf (.deadBatteryStart t)) t s <| aoEffect t s fun s =>
    if s.port.aoRail then s else deadBattery s

/-- MAINT_CONFIGURED: the USB host configures the maintenance function, at high speed or at full speed (R342). -/
def execMaintConfigured (c : Configured) (s : State) : Host.Outcome State Fault Refusal :=
  whenWf (true) c.instant s <| aoEffect c.instant s fun s =>
    if s.flag Reg.PDP_USB_STATUS Fld.PDP_USB_STATUS_CONNECTED then
      pdpInt ((s.setFlag Reg.PDP_USB_STATUS Fld.PDP_USB_STATUS_CONFIGURED true).setFlag Reg.PDP_USB_STATUS
        Fld.PDP_USB_STATUS_HIGH_SPEED c.highSpeed) 6 else s

end Sys2Proof.Machine
end

