-- ==== Sys2Proof/Machine/PowerRows.lean ====
section
/-! DEFINITION. Commands of the hub's own supply: the Squall, chip states, Lull, heat, domains, reference clocks (R306 to R322, R393). -/
namespace Sys2Proof.Machine
open Sys2Proof.WellFormed

/-- SQUALL_LATCH: VIN_SENSE is below THRESHOLD_MV for 2 µs; a second crossing has no effect (R306, R309) (DESIGN
CHOICE, log entry 85). -/
def execSquallLatch (t : Nat) (s : State) : Host.Outcome State Fault Refusal :=
  whenWf (wf (.squallLatch t)) t s <| aoEffect t s fun s =>
    if s.flag Reg.PWR_SQUALL_CFG Fld.PWR_SQUALL_CFG_ENABLE && s.pw.squallAt.isNone then squallLatches s else s

/-- SQUALL_SHED: 200 µs after the crossing the segments of SPW_SHED are switched off (R306). -/
def execSquallShed (t : Nat) (s : State) : Host.Outcome State Fault Refusal :=
  whenWf (wf (.squallShed t)) t s <| aoEffect t s fun s =>
    if squallOn s && decide (s.pw.squallAt.getD 0 + 200000 ≤ s.fc.now) then squallSheds s else s

/-- SQUALL_RECOVERY: VIN_SENSE has been above THRESHOLD_MV + HYST_MV for RECOVER × 10 ms (R310). -/
def execSquallRecovery (t : Nat) (s : State) : Host.Outcome State Fault Refusal :=
  whenWf (wf (.squallRecovery t)) t s <| aoEffect t s fun s =>
    let limit := s.pw.squallAt.getD s.fc.now + s.fld Reg.PWR_SQUALL_CFG Fld.PWR_SQUALL_CFG_RECOVER * 10000000
    if s.pw.squallAt.isSome && decide (limit ≤ s.fc.now) && !decide (s.folio.sealing = some false) then settle (squallEnds s) else s

/-- WATCH_CYCLE: one watch cycle of a bank in Lull (R318, R319). -/
def execWatchCycle (t : Nat) (bank : Nat) (samples : List WatchSample) (s : State) : Host.Outcome State Fault Refusal :=
  whenWf (wf (.watchCycle t bank samples)) t s <| effect t s fun s =>
    if chipState s = 2 then watchCycle s bank samples else s

/-- THERMAL_READING: the 8 sensors, in 0.1 °C (R321) (DESIGN CHOICE, log entry 85). -/
def execThermalReading (t : Nat) (temps : List Int) (s : State) : Host.Outcome State Fault Refusal :=
  whenWf (wf (.thermalReading t temps)) t s <| aoEffect t s fun s =>
    if s.pw.recovery = 0 then thermalReading s temps else s

/-- Has the chip cooled for 10 s after a thermal shutdown, with AUTO_RESTART (R322). -/
def thermalRestarts (s : State) : Bool :=
  let cool := match s.pw.coolSince with
    | some t0 => decide (t0 + 10000000000 ≤ s.fc.now)
    | none => false
  s.pw.off && cool && s.flag Reg.PWR_THERMAL Fld.PWR_THERMAL_AUTO_RESTART && s.flag Reg.PWR_THERMAL Fld.PWR_THERMAL_THERMAL_SEEN

/-- THERMAL_AUTO_RESTART: at or below 95 °C for 10 s with AUTO_RESTART (R322). -/
def execThermalAutoRestart (t : Nat) (b : BootIn) (s : State) : Host.Outcome State Fault Refusal :=
  whenWf (wf (.thermalAutoRestart t b)) t s <| resetEffect t s thermalRestarts fun s =>
    if thermalRestarts s then wakeReset s b 5 else s

/-- Has TIMER_S run out in Vault (R320). -/
def vaultTimerOver (s : State) : Bool :=
  let secs := s.fld Reg.PWR_VAULT_CFG Fld.PWR_VAULT_CFG_TIMER_S
  s.pw.off && s.port.aoRail && secs != 0 && decide (s.pw.vaultAt + secs * 1000000000 ≤ s.fc.now)

/-- VAULT_TIMER_EXPIRY: TIMER_S expires in Vault (R320). -/
def execVaultTimerExpiry (t : Nat) (b : BootIn) (s : State) : Host.Outcome State Fault Refusal :=
  whenWf (wf (.vaultTimerExpiry t b)) t s <| resetEffect t s vaultTimerOver fun s =>
    if vaultTimerOver s then wakeReset s b 4 else s

/-- DOMAIN_WAKE_STEP_TIMEOUT: a wake step is late by 4 times its maximum (R314). -/
def execDomainWakeStepTimeout (t : Nat) (dom : BitVec 4) (wakeStep : BitVec 2) (s : State) : Host.Outcome State Fault Refusal :=
  whenWf (wf (.domainWakeStepTimeout t dom wakeStep)) t s <| effect t s fun s =>
    domainLate s dom.toNat wakeStep.toNat

/-- POWER_TRANSITION_COMPLETE: the transition in progress ends (R312). -/
def execPowerTransitionComplete (t : Nat) (s : State) : Host.Outcome State Fault Refusal :=
  whenWf (wf (.powerTransitionComplete t)) t s <| effect t s fun s =>
    settle (transitionEnd s)

/-- TIME_REF_LOSS: TIME_REF is missing for 5 µs (R393). -/
def execTimeRefLoss (t : Nat) (s : State) : Host.Outcome State Fault Refusal :=
  whenWf (wf (.timeRefLoss t)) t s <| timeEffect t s fun s =>
    if s.pw.timeRefLostAt.isSome then s else timeRefLost s

/-- TIME_REF_RESTORE: TIME_REF has been present for 10 ms (R393). -/
def execTimeRefRestore (t : Nat) (s : State) : Host.Outcome State Fault Refusal :=
  whenWf (wf (.timeRefRestore t)) t s <| timeEffect t s fun s =>
    timeRefBack s

/-- REFCLK_SYS_LOSS: REFCLK_SYS is missing for 5 µs: every domain but AO and TIME stops (R393) (DEDUCED, log entry 7).
-/
def execRefclkSysLoss (t : Nat) (s : State) : Host.Outcome State Fault Refusal :=
  whenWf (wf (.refclkSysLoss t)) t s <| aoEffect t s fun s =>
    if s.pw.off || s.pw.clocksStopped then s else s.modPw fun w => { w with clocksStopped := true, refLostAt := some s.fc.now }

/-- REFCLK_SYS_RESTORE: REFCLK_SYS has been present for 10 ms: an unplanned restart (R393). -/
def execRefclkSysRestore (t : Nat) (b : BootIn) (s : State) : Host.Outcome State Fault Refusal :=
  whenWf (wf (.refclkSysRestore t b)) t s <| aoEffect t s fun s =>
    refclkBack s b

/-- HOST_TLP_IN_LULL: any host TLP ends Lull with cause HOST (R319). -/
def execHostTlpInLull (t : Nat) (_fn : Fn) (s : State) : Host.Outcome State Fault Refusal :=
  whenWf (true) t s <| effect t s fun s =>
    lullWake s 2

/-- AO_RAIL_CHANGE: the 3.3 V AO rail arrives or fails (R341, R408) (DESIGN CHOICE, log entry 85). -/
def execAoRailChange (t : Nat) (present : Bool) (s : State) : Host.Outcome State Fault Refusal :=
  whenWf (true) t s <| aoEffect t s fun s =>
    railChange s present

end Sys2Proof.Machine
end

