-- ==== Sys2Proof/Machine/RegRows.lean ====
section
/-! DEFINITION. Commands that are register accesses (R39 to R63, and the rules of the fields they write). -/
namespace Sys2Proof.Machine
open Sys2Proof.WellFormed

/-- REGISTER_WRITE: a write of BAR0 (R40, R45 to R55). -/
def execRegisterWrite (t : Nat) (a : Access) (s : State) : Host.Outcome State Fault Refusal :=
  whenWf (wf (.registerWrite t a)) t s <| effect t s fun s =>
    settle (writeAccess WriteIn.plain s a)

/-- LOWER_WORD_READ: a read of BAR0; the lower word of a pair latches its upper words (R41). -/
def execLowerWordRead (t : Nat) (a : Access) (s : State) : Host.Outcome State Fault Refusal :=
  whenWf (wf (.lowerWordRead t a)) t s <| effect t s fun s =>
    readAccess s a

/-- RC_FIELD_READ: a read of BAR0; all four bytes of a read-clear field clear it (R42). -/
def execRcFieldRead (t : Nat) (a : Access) (s : State) : Host.Outcome State Fault Refusal :=
  whenWf (wf (.rcFieldRead t a)) t s <| effect t s fun s =>
    readAccess s a

/-- GLB_FRAME_READ: a read of GLB_FRAME latches phase and tree time (R41). -/
def execGlbFrameRead (t : Nat) (a : Access) (s : State) : Host.Outcome State Fault Refusal :=
  whenWf (wf (.glbFrameRead t a)) t s <| effect t s fun s =>
    readAccess s a

/-- CEN_WINDOW_READ: a read of the CEN window returns the census taken last (R66). -/
def execCenWindowRead (t : Nat) (a : Access) (s : State) : Host.Outcome State Fault Refusal :=
  whenWf (wf (.cenWindowRead t a)) t s <| effect t s fun s =>
    readAccess s a

/-- GLB_CENSUS_TAKE: GLB_CENSUS.TAKE (R64, R66). -/
def execGlbCensusTake (t : Nat) (ini : Initiator) (s : State) : Host.Outcome State Fault Refusal :=
  whenWf (wf (.glbCensusTake t ini)) t s <| effect t s fun s =>
    settle (writeWord WriteIn.plain s ini (Reg.GLB_CENSUS) (1))

/-- WARM_RESET: GLB_CTRL with the KEY of v: a planned warm reset (R399). -/
def execWarmReset (t : Nat) (ini : Initiator) (v : Word) (b : BootIn) (s : State) : Host.Outcome State Fault Refusal :=
  whenWf (wf (.warmReset t ini v b)) t s <| effect t s fun s =>
    settle (writeWord ⟨some b, none⟩ s ini (Reg.GLB_CTRL) (v ||| 1))

/-- PROT_HOLD_RELEASE: a write to GLB_PROT_HOLD (R59). -/
def execProtHoldRelease (t : Nat) (ini : Initiator) (v : Word) (s : State) : Host.Outcome State Fault Refusal :=
  whenWf (wf (.protHoldRelease t ini v)) t s <| effect t s fun s =>
    settle (writeWord WriteIn.plain s ini (Reg.GLB_PROT_HOLD) (v))

/-- BAR4_ACCESS: an access to the debug SRAM window (R62). -/
def execBar4Access (t : Nat) (ini : Initiator) (addr : BitVec 20) (isWrite : Bool) (s : State) : Host.Outcome State Fault Refusal :=
  whenWf (wf (.bar4Access t ini addr isWrite)) t s <| effect t s fun s =>
    bar4Access s ini addr.toNat isWrite

/-- SEC_LOCK: SEC_LOCK.LOCK (R61). -/
def execSecLock (t : Nat) (ini : Initiator) (s : State) : Host.Outcome State Fault Refusal :=
  whenWf (wf (.secLock t ini)) t s <| effect t s fun s =>
    settle (writeWord WriteIn.plain s ini (Reg.SEC_LOCK) (1))

/-- HOST_APPROVE: NVM_CONFIRM.HOST_APPROVE (R369). -/
def execHostApprove (t : Nat) (ini : Initiator) (s : State) : Host.Outcome State Fault Refusal :=
  whenWf (wf (.hostApprove t ini)) t s <| effect t s fun s =>
    settle (writeWord WriteIn.plain s ini (Reg.NVM_CONFIRM) (pendingWord s Reg.NVM_CONFIRM ||| 2))

/-- HEALTH_CONFIRM: NVM_CONFIRM.HEALTH_CONFIRM (R369). -/
def execHealthConfirm (t : Nat) (ini : Initiator) (s : State) : Host.Outcome State Fault Refusal :=
  whenWf (wf (.healthConfirm t ini)) t s <| effect t s fun s =>
    settle (writeWord WriteIn.plain s ini (Reg.NVM_CONFIRM) (pendingWord s Reg.NVM_CONFIRM &&& 4 ||| 1))

/-- NVM_CMD_ERASE: NVM_CMD ERASE with the KEY of v (R350, R356) (DEDUCED, log entry 42). -/
def execNvmCmdErase (t : Nat) (ini : Initiator) (v : Word) (s : State) : Host.Outcome State Fault Refusal :=
  whenWf (wf (.nvmCmdErase t ini v)) t s <| effect t s fun s =>
    settle (writeWord WriteIn.plain s ini (Reg.NVM_CMD) (withOp v 1))

/-- NVM_CMD_BLANK_CHECK: NVM_CMD BLANK_CHECK with the KEY of v (DEDUCED, log entry 42). -/
def execNvmCmdBlankCheck (t : Nat) (ini : Initiator) (v : Word) (blank : Bool) (s : State) : Host.Outcome State Fault Refusal :=
  whenWf (wf (.nvmCmdBlankCheck t ini v blank)) t s <| effect t s fun s =>
    settle (writeWord ⟨none, some (if blank then 0 else 1)⟩ s ini (Reg.NVM_CMD) (withOp v 2))

/-- NVM_CMD_VERIFY: NVM_CMD VERIFY with the KEY of v (DEDUCED, log entry 42). -/
def execNvmCmdVerify (t : Nat) (ini : Initiator) (v : Word) (worst : BitVec 2) (s : State) : Host.Outcome State Fault Refusal :=
  whenWf (wf (.nvmCmdVerify t ini v worst)) t s <| effect t s fun s =>
    settle (writeWord ⟨none, some worst⟩ s ini (Reg.NVM_CMD) (withOp v 3))

/-- NVM_SCAN: NVM_CTRL.SCAN (R347). -/
def execNvmScan (t : Nat) (ini : Initiator) (s : State) : Host.Outcome State Fault Refusal :=
  whenWf (wf (.nvmScan t ini)) t s <| effect t s fun s =>
    settle (writeWord WriteIn.plain s ini (Reg.NVM_CTRL) (pendingWord s Reg.NVM_CTRL ||| 2))

/-- SPW_STORE: SPW_STORE.STORE (R305). -/
def execSpwStore (t : Nat) (ini : Initiator) (s : State) : Host.Outcome State Fault Refusal :=
  whenWf (wf (.spwStore t ini)) t s <| effect t s fun s =>
    settle (writeWord WriteIn.plain s ini (Reg.SPW_STORE) (1))

/-- SPW_CTRL_ON_WRITE: a write to SPW_CTRL of a segment (R299). -/
def execSpwCtrlOnWrite (t : Nat) (ini : Initiator) (port : Nat) (v : Word) (s : State) : Host.Outcome State Fault Refusal :=
  whenWf (wf (.spwCtrlOnWrite t ini port v)) t s <| effect t s fun s =>
    settle (writeWord WriteIn.plain s ini (Reg.SPW_CTRL port) (v))

/-- LNK_ENABLE: LNK_CTRL.ENABLE = 1 (R198). -/
def execLnkEnable (t : Nat) (ini : Initiator) (link : BitVec 4) (s : State) : Host.Outcome State Fault Refusal :=
  whenWf (wf (.lnkEnable t ini link)) t s <| effect t s fun s =>
    settle (writeWord WriteIn.plain s ini (Reg.LNK_CTRL link.toNat) (1))

/-- LNK_DISABLE: LNK_CTRL.ENABLE = 0 (R227). -/
def execLnkDisable (t : Nat) (ini : Initiator) (link : BitVec 4) (s : State) : Host.Outcome State Fault Refusal :=
  whenWf (wf (.lnkDisable t ini link)) t s <| effect t s fun s =>
    settle (writeWord WriteIn.plain s ini (Reg.LNK_CTRL link.toNat) (0))

/-- RATE_UP: LNK_CTRL.RATE_UP (R222). -/
def execRateUp (t : Nat) (ini : Initiator) (link : BitVec 4) (s : State) : Host.Outcome State Fault Refusal :=
  whenWf (wf (.rateUp t ini link)) t s <| effect t s fun s =>
    settle (writeWord WriteIn.plain s ini (Reg.LNK_CTRL link.toNat) (linkCtrl s link.toNat ||| 8))

/-- RATE_DOWN: LNK_CTRL.RATE_DOWN (R222). -/
def execRateDown (t : Nat) (ini : Initiator) (link : BitVec 4) (s : State) : Host.Outcome State Fault Refusal :=
  whenWf (wf (.rateDown t ini link)) t s <| effect t s fun s =>
    settle (writeWord WriteIn.plain s ini (Reg.LNK_CTRL link.toNat) (linkCtrl s link.toNat ||| 4))

/-- RETRAIN: LNK_CTRL.RETRAIN (R226). -/
def execRetrain (t : Nat) (ini : Initiator) (link : BitVec 4) (s : State) : Host.Outcome State Fault Refusal :=
  whenWf (wf (.retrain t ini link)) t s <| effect t s fun s =>
    settle (writeWord WriteIn.plain s ini (Reg.LNK_CTRL link.toNat) (linkCtrl s link.toNat ||| 2))

/-- LNK_POLICY_APPROVE: LNK_POLICY.APPROVE (R232). -/
def execLnkPolicyApprove (t : Nat) (ini : Initiator) (link : BitVec 4) (s : State) : Host.Outcome State Fault Refusal :=
  whenWf (wf (.lnkPolicyApprove t ini link)) t s <| effect t s fun s =>
    settle (writeWord WriteIn.plain s ini (Reg.LNK_POLICY link.toNat) (pendingWord s (Reg.LNK_POLICY link.toNat) ||| 0x100))

/-- LNK_POLICY_DENY: LNK_POLICY.DENY (R232). -/
def execLnkPolicyDeny (t : Nat) (ini : Initiator) (link : BitVec 4) (s : State) : Host.Outcome State Fault Refusal :=
  whenWf (wf (.lnkPolicyDeny t ini link)) t s <| effect t s fun s =>
    settle (writeWord WriteIn.plain s ini (Reg.LNK_POLICY link.toNat) (pendingWord s (Reg.LNK_POLICY link.toNat) ||| 0x200))

/-- LIB_ENGINE_MOVE: LIB_ENGINE_MOVE (R257). -/
def execLibEngineMove (t : Nat) (ini : Initiator) (v : Word) (s : State) : Host.Outcome State Fault Refusal :=
  whenWf (wf (.libEngineMove t ini v)) t s <| effect t s fun s =>
    settle (writeWord WriteIn.plain s ini (Reg.LIB_ENGINE_MOVE) (v))

/-- VACATED_CLEAR: LIB_FWD_STATUS (R255). -/
def execVacatedClear (t : Nat) (ini : Initiator) (v : Word) (s : State) : Host.Outcome State Fault Refusal :=
  whenWf (wf (.vacatedClear t ini v)) t s <| effect t s fun s =>
    settle (writeWord WriteIn.plain s ini (Reg.LIB_FWD_STATUS) (v))

/-- RSV_FAULT_CLEAR: LIB_STATUS.RSV_FAULTn (R250). -/
def execRsvFaultClear (t : Nat) (ini : Initiator) (v : Word) (s : State) : Host.Outcome State Fault Refusal :=
  whenWf (wf (.rsvFaultClear t ini v)) t s <| effect t s fun s =>
    settle (writeWord WriteIn.plain s ini (Reg.LIB_STATUS) (v &&& 6))

/-- PWR_TARGET_A0: PWR_CTRL.TARGET 0 (R312, R313). -/
def execPwrTargetA0 (t : Nat) (ini : Initiator) (v : Word) (s : State) : Host.Outcome State Fault Refusal :=
  whenWf (wf (.pwrTargetA0 t ini v)) t s <| effect t s fun s =>
    settle (writeWord WriteIn.plain s ini (Reg.PWR_CTRL) (withTarget v 0))

/-- PWR_TARGET_A1: PWR_CTRL.TARGET 1 (R312, R313). -/
def execPwrTargetA1 (t : Nat) (ini : Initiator) (v : Word) (s : State) : Host.Outcome State Fault Refusal :=
  whenWf (wf (.pwrTargetA1 t ini v)) t s <| effect t s fun s =>
    settle (writeWord WriteIn.plain s ini (Reg.PWR_CTRL) (withTarget v 1))

/-- PWR_TARGET_LULL: PWR_CTRL.TARGET 2 (R312, R316). -/
def execPwrTargetLull (t : Nat) (ini : Initiator) (v : Word) (s : State) : Host.Outcome State Fault Refusal :=
  whenWf (wf (.pwrTargetLull t ini v)) t s <| effect t s fun s =>
    settle (writeWord WriteIn.plain s ini (Reg.PWR_CTRL) (withTarget v 2))

/-- PWR_TARGET_VAULT: PWR_CTRL.TARGET 3 with the KEY of v (R312, R320). -/
def execPwrTargetVault (t : Nat) (ini : Initiator) (v : Word) (s : State) : Host.Outcome State Fault Refusal :=
  whenWf (wf (.pwrTargetVault t ini v)) t s <| effect t s fun s =>
    settle (writeWord WriteIn.plain s ini (Reg.PWR_CTRL) (withTarget v 3))

/-- WATCH_STORE: PWR_WATCH_INDEX with WRITE (R317). -/
def execWatchStore (t : Nat) (ini : Initiator) (v : Word) (s : State) : Host.Outcome State Fault Refusal :=
  whenWf (wf (.watchStore t ini v)) t s <| effect t s fun s =>
    settle (writeWord WriteIn.plain s ini (Reg.PWR_WATCH_INDEX) (v ||| 0x80000000))

/-- WATCH_LOAD: PWR_WATCH_INDEX without WRITE (R317). -/
def execWatchLoad (t : Nat) (ini : Initiator) (v : Word) (s : State) : Host.Outcome State Fault Refusal :=
  whenWf (wf (.watchLoad t ini v)) t s <| effect t s fun s =>
    settle (writeWord WriteIn.plain s ini (Reg.PWR_WATCH_INDEX) (v &&& 0x7FFFFFFF))

/-- SEAL_TEST: FOL_CTRL.SEAL_TEST (R383). -/
def execSealTest (t : Nat) (ini : Initiator) (s : State) : Host.Outcome State Fault Refusal :=
  whenWf (wf (.sealTest t ini)) t s <| effect t s fun s =>
    settle (writeWord WriteIn.plain s ini (Reg.FOL_CTRL) (2))

/-- FLUSH: FOL_CTRL.FLUSH. -/
def execFlush (t : Nat) (ini : Initiator) (s : State) : Host.Outcome State Fault Refusal :=
  whenWf (wf (.flush t ini)) t s <| effect t s fun s =>
    settle (writeWord WriteIn.plain s ini (Reg.FOL_CTRL) (1))

/-- FOLIO_ERASE: FOL_ERASE with the KEY of v (R387). -/
def execFolioErase (t : Nat) (ini : Initiator) (v : Word) (s : State) : Host.Outcome State Fault Refusal :=
  whenWf (wf (.folioErase t ini v)) t s <| effect t s fun s =>
    settle (writeWord WriteIn.plain s ini (Reg.FOL_ERASE) (v ||| 1))

/-- DISCONNECT: PDP_CTRL.DISCONNECT (R331). -/
def execDisconnect (t : Nat) (ini : Initiator) (s : State) : Host.Outcome State Fault Refusal :=
  whenWf (wf (.disconnect t ini)) t s <| effect t s fun s =>
    settle (writeWord WriteIn.plain s ini (Reg.PDP_CTRL) (pendingWord s Reg.PDP_CTRL ||| 2))

/-- PD_POLICY_WRITE: PDP_CTRL (R333). -/
def execPdPolicyWrite (t : Nat) (ini : Initiator) (v : Word) (s : State) : Host.Outcome State Fault Refusal :=
  whenWf (wf (.pdPolicyWrite t ini v)) t s <| effect t s fun s =>
    settle (writeWord WriteIn.plain s ini (Reg.PDP_CTRL) (v))

/-- CONTROL_XFER: a control transfer with a node, or a register-access request (R108, R127). -/
def execControlXfer (t : Nat) (d : SqEntry) (s : State) : Host.Outcome State Fault Refusal :=
  whenWf (wf (.controlXfer t d)) t s <| effect t s fun s =>
    settle (fetched s d (controlRule d) opControl)

/-- REG_ACCESS_READ: CONTROL_XFER to h.0.0.0 with REQ 0xE1 (R108). -/
def execRegAccessRead (t : Nat) (d : SqEntry) (s : State) : Host.Outcome State Fault Refusal :=
  whenWf (wf (.regAccessRead t d)) t s <| effect t s fun s =>
    settle (fetched s d (controlRule d) opControl)

/-- REG_ACCESS_WRITE: CONTROL_XFER to h.0.0.0 with REQ 0xE2 (R108). -/
def execRegAccessWrite (t : Nat) (d : SqEntry) (s : State) : Host.Outcome State Fault Refusal :=
  whenWf (wf (.regAccessWrite t d)) t s <| effect t s fun s =>
    settle (fetched s d (controlRule d) opControl)

end Sys2Proof.Machine
end

