-- ==== Sys2Proof/Machine/ResetRows.lean ====
section
/-! DEFINITION. Commands of resets, starts and the failures that lead to them (R257 to R260, R359 to R370, R398, R412 to R416). -/
namespace Sys2Proof.Machine
open Sys2Proof.WellFormed

/-- POWER_ON_RESET: RST_N, or the return of a rail (R412, R415). -/
def execPowerOnReset (t : Nat) (b : BootIn) (s : State) : Host.Outcome State Fault Refusal :=
  whenWf (wf (.powerOnReset t b)) t s <| resetEffect t s (fun _ => true) fun s =>
    powerOnReset s b

/-- Does PERST reset the hub: not a branch, and not while it is off or in Recovery (R413, R415). -/
def takesPerst (s : State) : Bool := !(isBranch s || s.pw.off || s.pw.recovery != 0)

/-- PERST: PERST of the host link, of both links in role 01; ignored in role 10 (R413, R415). -/
def execPerst (t : Nat) (b : BootIn) (s : State) : Host.Outcome State Fault Refusal :=
  whenWf (wf (.perst t b)) t s <| resetEffect t s takesPerst fun s =>
    if takesPerst s then perstReset s b else s

/-- SINGLE_PERST: one PERST_N in role 01 (R413). -/
def execSinglePerst (t : Nat) (fn : Fn) (s : State) : Host.Outcome State Fault Refusal :=
  whenWf (wf (.singlePerst t fn)) t s <| effect t s fun s =>
    if isDual s then linkReset s fn else s

/-- Does the release of a PERST_N wake the hub from Vault (R320). -/
def perstWakes (fn : Fn) (s : State) : Bool :=
  s.pw.off && s.port.aoRail && s.flag Reg.PWR_VAULT_CFG Fld.PWR_VAULT_CFG_WAKE_PERST && (decide (fn = .pf0) || s.role == 1)

/-- PERST_N_RELEASE: PERST_N is deasserted: with WAKE_PERST the hub leaves Vault; else PCIe training starts (R320, R415). -/
def execPerstNRelease (t : Nat) (fn : Fn) (b : BootIn) (s : State) : Host.Outcome State Fault Refusal :=
  whenWf (wf (.perstNRelease t fn b)) t s <| resetEffect t s (perstWakes fn) fun s =>
    if perstWakes fn s then wakeReset s b 2 else s

/-- PCIE_LINK_UP: PCIe training of a function ends (R415). -/
def execPcieLinkUp (t : Nat) (fn : Fn) (width : BitVec 5) (speed : BitVec 4) (s : State) : Host.Outcome State Fault Refusal :=
  whenWf (wf (.pcieLinkUp t fn width speed)) t s <| effect t s fun s =>
    if isBranch s || s.pw.recovery != 0 then s
    else (s.setFld (Reg.HIF_STATUS (fnIx fn)) Fld.HIF_STATUS_WIDTH width.toNat).setFld
      (Reg.HIF_STATUS (fnIx fn)) Fld.HIF_STATUS_SPEED speed.toNat

/-- CONFIRM_WINDOW_EXPIRY: the confirm window expires unconfirmed: the watchdog resets the chip (R370). -/
def execConfirmWindowExpiry (t : Nat) (b : BootIn) (s : State) : Host.Outcome State Fault Refusal :=
  whenWf (wf (.confirmWindowExpiry t b)) t s <| effect t s fun s =>
    let ended := match s.nvm.windowEnd with
      | some e => decide (e ≤ s.fc.now)
      | none => false
    if trialRuns s.nvm && ended then unplanned s b 8 1 1 else s

/-- SCHEDULED_ACTIVATION: the armed hub activates at its first frame boundary at or after T (R367). -/
def execScheduledActivation (t : Nat) (b : BootIn) (s : State) : Host.Outcome State Fault Refusal :=
  whenWf (wf (.scheduledActivation t b)) t s <| effect t s fun s =>
    let due := match s.nvm.armedT with
      | some t0 => decide (t0 ≤ treeNs s)
      | none => false
    if due then hubRestart s b 16 true true 2 else s

/-- SERVICE_CORE_FAILURE: a service core fails (R259, R260). -/
def execServiceCoreFailure (t : Nat) (core : BitVec 3) (cause : CoreFault) (b : BootIn) (s : State) : Host.Outcome State Fault Refusal :=
  whenWf (wf (.serviceCoreFailure t core cause b)) t s <| effect t s fun s =>
    settle (coreFails s core.toNat (coreCause cause) b)

/-- ENGINE_FAILURE: a segment engine fails in this frame: the port is re-homed at the next boundary (R257). -/
def execEngineFailure (t : Nat) (port : Nat) (cause : EngineFault) (s : State) : Host.Outcome State Fault Refusal :=
  whenWf (wf (.engineFailure t port cause)) t s <| effect t s fun s =>
    s.atFrame (.engineMove port (engineCause cause) s.fc.frameNo)

/-- LOCKSTEP_MISMATCH: the management pair disagrees (R398). -/
def execLockstepMismatch (t : Nat) (b : BootIn) (s : State) : Host.Outcome State Fault Refusal :=
  whenWf (wf (.lockstepMismatch t b)) t s <| effect t s fun s =>
    if s.pw.recovery != 0 then s else unplanned (s.glb 7 1) b 0x24 2 2

/-- WATCHDOG_EXPIRY: the watchdog expires (R399). -/
def execWatchdogExpiry (t : Nat) (b : BootIn) (s : State) : Host.Outcome State Fault Refusal :=
  whenWf (wf (.watchdogExpiry t b)) t s <| effect t s fun s =>
    unplanned s b 8 1 2

end Sys2Proof.Machine
end

