-- ==== Sys2Proof/Machine/Dispatch.lean ====
section
/-! DEFINITION. Dispatch: one arm for each command of spec/opcode_table.json. -/
namespace Sys2Proof.Machine

/-- What a command does, in the order of spec/opcode_table.json. -/
def exec (i : Instr) (s : State) : Host.Outcome State Fault Refusal :=
  match i with
  | .nop t d => Sys2Proof.Machine.execNop t d s
  | .writeEp t d => Sys2Proof.Machine.execWriteEp t d s
  | .writeEpConfirmed t d => Sys2Proof.Machine.execWriteEpConfirmed t d s
  | .readEp t d => Sys2Proof.Machine.execReadEp t d s
  | .configEp t d => Sys2Proof.Machine.execConfigEp t d s
  | .configEpQuery t d => Sys2Proof.Machine.execConfigEpQuery t d s
  | .controlXfer t d => Sys2Proof.Machine.execControlXfer t d s
  | .regAccessRead t d => Sys2Proof.Machine.execRegAccessRead t d s
  | .regAccessWrite t d => Sys2Proof.Machine.execRegAccessWrite t d s
  | .bulkXferOut t d => Sys2Proof.Machine.execBulkXferOut t d s
  | .bulkXferIn t d => Sys2Proof.Machine.execBulkXferIn t d s
  | .streamXferIn t d => Sys2Proof.Machine.execStreamXferIn t d s
  | .streamXferOut t d => Sys2Proof.Machine.execStreamXferOut t d s
  | .shelfDefine t d => Sys2Proof.Machine.execShelfDefine t d s
  | .shelfDelete t d => Sys2Proof.Machine.execShelfDelete t d s
  | .shelfQuery t d => Sys2Proof.Machine.execShelfQuery t d s
  | .placeHintClear t d => Sys2Proof.Machine.execPlaceHintClear t d s
  | .pinRing t d => Sys2Proof.Machine.execPinRing t d s
  | .pinStacks t d => Sys2Proof.Machine.execPinStacks t d s
  | .affinity t d => Sys2Proof.Machine.execAffinity t d s
  | .preferReserve t d => Sys2Proof.Machine.execPreferReserve t d s
  | .gustLoad t d => Sys2Proof.Machine.execGustLoad t d s
  | .gustEnable t d => Sys2Proof.Machine.execGustEnable t d s
  | .gustDisable t d => Sys2Proof.Machine.execGustDisable t d s
  | .segPowerOff t d => Sys2Proof.Machine.execSegPowerOff t d s
  | .segPowerOn t d => Sys2Proof.Machine.execSegPowerOn t d s
  | .segPowerQuery t d => Sys2Proof.Machine.execSegPowerQuery t d s
  | .segStateDisable t d => Sys2Proof.Machine.execSegStateDisable t d s
  | .segStateEnable t d => Sys2Proof.Machine.execSegStateEnable t d s
  | .segStateSuspend t d => Sys2Proof.Machine.execSegStateSuspend t d s
  | .segStateResume t d => Sys2Proof.Machine.execSegStateResume t d s
  | .segStateSetGen t d => Sys2Proof.Machine.execSegStateSetGen t d s
  | .approve t d => Sys2Proof.Machine.execApprove t d s
  | .deny t d => Sys2Proof.Machine.execDeny t d s
  | .forget t d => Sys2Proof.Machine.execForget t d s
  | .nodePolicy t d => Sys2Proof.Machine.execNodePolicy t d s
  | .pinKey t d => Sys2Proof.Machine.execPinKey t d s
  | .nodeFwDistribute t d => Sys2Proof.Machine.execNodeFwDistribute t d s
  | .distAbort t d => Sys2Proof.Machine.execDistAbort t d s
  | .distQuery t d => Sys2Proof.Machine.execDistQuery t d s
  | .timeSet t d => Sys2Proof.Machine.execTimeSet t d s
  | .timeAdj t d => Sys2Proof.Machine.execTimeAdj t d s
  | .imageManifest t d keyOk sigOk => Sys2Proof.Machine.execImageManifest t d keyOk sigOk s
  | .imagePiece t d tagOk => Sys2Proof.Machine.execImagePiece t d tagOk s
  | .imageAbandon t d => Sys2Proof.Machine.execImageAbandon t d s
  | .imageScheduleArm t d hubs => Sys2Proof.Machine.execImageScheduleArm t d hubs s
  | .imageScheduleCancel t d => Sys2Proof.Machine.execImageScheduleCancel t d s
  | .imageStatus t d => Sys2Proof.Machine.execImageStatus t d s
  | .folioRead t d => Sys2Proof.Machine.execFolioRead t d s
  | .censusTake t d => Sys2Proof.Machine.execCensusTake t d s
  | .pdMsgSend t d => Sys2Proof.Machine.execPdMsgSend t d s
  | .leaseRenew t d => Sys2Proof.Machine.execLeaseRenew t d s
  | .roleTake t d other => Sys2Proof.Machine.execRoleTake t d other s
  | .unknownOpcode t d opcode => Sys2Proof.Machine.execUnknownOpcode t d opcode s
  | .registerWrite t a => Sys2Proof.Machine.execRegisterWrite t a s
  | .lowerWordRead t a => Sys2Proof.Machine.execLowerWordRead t a s
  | .rcFieldRead t a => Sys2Proof.Machine.execRcFieldRead t a s
  | .glbFrameRead t a => Sys2Proof.Machine.execGlbFrameRead t a s
  | .cenWindowRead t a => Sys2Proof.Machine.execCenWindowRead t a s
  | .glbCensusTake t ini => Sys2Proof.Machine.execGlbCensusTake t ini s
  | .warmReset t ini v b => Sys2Proof.Machine.execWarmReset t ini v b s
  | .protHoldRelease t ini v => Sys2Proof.Machine.execProtHoldRelease t ini v s
  | .ringEnable t fn ring ctx => Sys2Proof.Machine.execRingEnable t fn ring ctx s
  | .ringDisable t fn ring => Sys2Proof.Machine.execRingDisable t fn ring s
  | .kick t fn slots => Sys2Proof.Machine.execKick t fn slots s
  | .bar4Access t ini addr isWrite => Sys2Proof.Machine.execBar4Access t ini addr isWrite s
  | .secLock t ini => Sys2Proof.Machine.execSecLock t ini s
  | .hostApprove t ini => Sys2Proof.Machine.execHostApprove t ini s
  | .healthConfirm t ini => Sys2Proof.Machine.execHealthConfirm t ini s
  | .nvmCmdErase t ini v => Sys2Proof.Machine.execNvmCmdErase t ini v s
  | .nvmCmdBlankCheck t ini v blank => Sys2Proof.Machine.execNvmCmdBlankCheck t ini v blank s
  | .nvmCmdVerify t ini v worst => Sys2Proof.Machine.execNvmCmdVerify t ini v worst s
  | .nvmScan t ini => Sys2Proof.Machine.execNvmScan t ini s
  | .spwStore t ini => Sys2Proof.Machine.execSpwStore t ini s
  | .spwCtrlOnWrite t ini port v => Sys2Proof.Machine.execSpwCtrlOnWrite t ini port v s
  | .lnkEnable t ini link => Sys2Proof.Machine.execLnkEnable t ini link s
  | .lnkDisable t ini link => Sys2Proof.Machine.execLnkDisable t ini link s
  | .rateUp t ini link => Sys2Proof.Machine.execRateUp t ini link s
  | .rateDown t ini link => Sys2Proof.Machine.execRateDown t ini link s
  | .retrain t ini link => Sys2Proof.Machine.execRetrain t ini link s
  | .lnkPolicyApprove t ini link => Sys2Proof.Machine.execLnkPolicyApprove t ini link s
  | .lnkPolicyDeny t ini link => Sys2Proof.Machine.execLnkPolicyDeny t ini link s
  | .libEngineMove t ini v => Sys2Proof.Machine.execLibEngineMove t ini v s
  | .vacatedClear t ini v => Sys2Proof.Machine.execVacatedClear t ini v s
  | .rsvFaultClear t ini v => Sys2Proof.Machine.execRsvFaultClear t ini v s
  | .pwrTargetA0 t ini v => Sys2Proof.Machine.execPwrTargetA0 t ini v s
  | .pwrTargetA1 t ini v => Sys2Proof.Machine.execPwrTargetA1 t ini v s
  | .pwrTargetLull t ini v => Sys2Proof.Machine.execPwrTargetLull t ini v s
  | .pwrTargetVault t ini v => Sys2Proof.Machine.execPwrTargetVault t ini v s
  | .watchStore t ini v => Sys2Proof.Machine.execWatchStore t ini v s
  | .watchLoad t ini v => Sys2Proof.Machine.execWatchLoad t ini v s
  | .sealTest t ini => Sys2Proof.Machine.execSealTest t ini s
  | .flush t ini => Sys2Proof.Machine.execFlush t ini s
  | .folioErase t ini v => Sys2Proof.Machine.execFolioErase t ini v s
  | .disconnect t ini => Sys2Proof.Machine.execDisconnect t ini s
  | .pdPolicyWrite t ini v => Sys2Proof.Machine.execPdPolicyWrite t ini v s
  | .identify t c => Sys2Proof.Machine.execIdentify t c s
  | .regRead t c => Sys2Proof.Machine.execRegRead t c s
  | .regWrite t c => Sys2Proof.Machine.execRegWrite t c s
  | .maintFolioRead t c => Sys2Proof.Machine.execMaintFolioRead t c s
  | .maintImagePiece t c tagOk => Sys2Proof.Machine.execMaintImagePiece t c tagOk s
  | .maintImageStatus t c => Sys2Proof.Machine.execMaintImageStatus t c s
  | .restart t c b => Sys2Proof.Machine.execRestart t c b s
  | .maintUnknownOp t c op => Sys2Proof.Machine.execMaintUnknownOp t c op s
  | .frameBoundary t => Sys2Proof.Machine.execFrameBoundary t s
  | .gustSlotBoundary t => Sys2Proof.Machine.execGustSlotBoundary t s
  | .epochBoundary t => Sys2Proof.Machine.execEpochBoundary t s
  | .doorbellSweep t fn d => Sys2Proof.Machine.execDoorbellSweep t fn d s
  | .voteScrub t upsets => Sys2Proof.Machine.execVoteScrub t upsets s
  | .parityFault t addr threeWay => Sys2Proof.Machine.execParityFault t addr threeWay s
  | .sramPatrolScrub t corrected => Sys2Proof.Machine.execSramPatrolScrub t corrected s
  | .sramUncorrectable t region page off items => Sys2Proof.Machine.execSramUncorrectable t region page off items s
  | .leaseExpiry t => Sys2Proof.Machine.execLeaseExpiry t s
  | .orphanStartTimeout t => Sys2Proof.Machine.execOrphanStartTimeout t s
  | .interruptModerationTimeout t fn ring => Sys2Proof.Machine.execInterruptModerationTimeout t fn ring s
  | .nodeKeepalive t port node => Sys2Proof.Machine.execNodeKeepalive t port node s
  | .discoverSweep t port => Sys2Proof.Machine.execDiscoverSweep t port s
  | .discoverRepeat t port => Sys2Proof.Machine.execDiscoverRepeat t port s
  | .replyWindowExpiry t port => Sys2Proof.Machine.execReplyWindowExpiry t port s
  | .controlTimeout t port node => Sys2Proof.Machine.execControlTimeout t port node s
  | .bulkNakTimeout t port => Sys2Proof.Machine.execBulkNakTimeout t port s
  | .resumeEnd t port => Sys2Proof.Machine.execResumeEnd t port s
  | .cov t port f => Sys2Proof.Machine.execCov t port f s
  | .data t port f authOk keyEdge sigEdge => Sys2Proof.Machine.execData t port f authOk keyEdge sigEdge s
  | .ack t port f => Sys2Proof.Machine.execAck t port f s
  | .nyet t port f => Sys2Proof.Machine.execNyet t port f s
  | .nak t port f => Sys2Proof.Machine.execNak t port f s
  | .stall t port f => Sys2Proof.Machine.execStall t port f s
  | .hello t port slot f => Sys2Proof.Machine.execHello t port slot f s
  | .foreignFrame t port => Sys2Proof.Machine.execForeignFrame t port s
  | .currentStep t port => Sys2Proof.Machine.execCurrentStep t port s
  | .currentDrop t port => Sys2Proof.Machine.execCurrentDrop t port s
  | .remoteWake t port => Sys2Proof.Machine.execRemoteWake t port s
  | .lineFault t port => Sys2Proof.Machine.execLineFault t port s
  | .linkPresence t p => Sys2Proof.Machine.execLinkPresence t p s
  | .autonegComplete t link lp => Sys2Proof.Machine.execAutonegComplete t link lp s
  | .c2mRateTrialTimeout t link => Sys2Proof.Machine.execC2mRateTrialTimeout t link s
  | .trainingComplete t link txeq => Sys2Proof.Machine.execTrainingComplete t link txeq s
  | .trainingTimeout t link => Sys2Proof.Machine.execTrainingTimeout t link s
  | .markerLock t link m => Sys2Proof.Machine.execMarkerLock t link m s
  | .noPartnerTimeout t link => Sys2Proof.Machine.execNoPartnerTimeout t link s
  | .laneFail t link lane los => Sys2Proof.Machine.execLaneFail t link lane los s
  | .laneRejoinAttempt t link => Sys2Proof.Machine.execLaneRejoinAttempt t link s
  | .replayTimeout t link => Sys2Proof.Machine.execReplayTimeout t link s
  | .noFlitsTimeout t link => Sys2Proof.Machine.execNoFlitsTimeout t link s
  | .presenceLost t link => Sys2Proof.Machine.execPresenceLost t link s
  | .rateChangeTimeout t link => Sys2Proof.Machine.execRateChangeTimeout t link s
  | .linkHoldTimeout t link fn sq tag => Sys2Proof.Machine.execLinkHoldTimeout t link fn sq tag s
  | .cplHoldExpiry t link => Sys2Proof.Machine.execCplHoldExpiry t link s
  | .goodbyeDrainEnd t link => Sys2Proof.Machine.execGoodbyeDrainEnd t link s
  | .llctlNak t link seq => Sys2Proof.Machine.execLlctlNak t link seq s
  | .creditInit t link c0 c1 c2 c3 => Sys2Proof.Machine.execCreditInit t link c0 c1 c2 c3 s
  | .rateStep t link rate marker => Sys2Proof.Machine.execRateStep t link rate marker s
  | .laneDrop t link lanes => Sys2Proof.Machine.execLaneDrop t link lanes s
  | .laneRejoin t link lanes marker => Sys2Proof.Machine.execLaneRejoin t link lanes marker s
  | .goodbye t link cause => Sys2Proof.Machine.execGoodbye t link cause s
  | .desc t opcode d ok => Sys2Proof.Machine.execDesc t opcode d ok s
  | .cpl t link fn sq b => Sys2Proof.Machine.execCpl t link fn sq b s
  | .record t link gen rs => Sys2Proof.Machine.execRecord t link gen rs s
  | .fault t link fn r => Sys2Proof.Machine.execFault t link fn r s
  | .gustSense t link tea cap bytes => Sys2Proof.Machine.execGustSense t link tea cap bytes s
  | .gustAct t tea ra gale cap bytesMask bytes => Sys2Proof.Machine.execGustAct t tea ra gale cap bytesMask bytes s
  | .gustSubscribe t tea gale => Sys2Proof.Machine.execGustSubscribe t tea gale s
  | .gustUnsubscribe t tea => Sys2Proof.Machine.execGustUnsubscribe t tea s
  | .gustDeposit t ra rule => Sys2Proof.Machine.execGustDeposit t ra rule s
  | .gustWithdraw t ra => Sys2Proof.Machine.execGustWithdraw t ra s
  | .gustResult t link tea ra outcome at_ => Sys2Proof.Machine.execGustResult t link tea ra outcome at_ s
  | .config t p => Sys2Proof.Machine.execConfig t p s
  | .lid t link b => Sys2Proof.Machine.execLid t link b s
  | .lauth t link b => Sys2Proof.Machine.execLauth t link b s
  | .role t hub frame ftime p => Sys2Proof.Machine.execRole t hub frame ftime p s
  | .roleAck t link accepted => Sys2Proof.Machine.execRoleAck t link accepted s
  | .timeSyncSend t link => Sys2Proof.Machine.execTimeSyncSend t link s
  | .timeSync t m => Sys2Proof.Machine.execTimeSync t m s
  | .timeReply t link m => Sys2Proof.Machine.execTimeReply t link m s
  | .timeSyncLoss t => Sys2Proof.Machine.execTimeSyncLoss t s
  | .vfpMessage t link f => Sys2Proof.Machine.execVfpMessage t link f s
  | .stream t link tag ep bytes => Sys2Proof.Machine.execStream t link tag ep bytes s
  | .streamAck t link tag stalled => Sys2Proof.Machine.execStreamAck t link tag stalled s
  | .grantTimeout t link tag => Sys2Proof.Machine.execGrantTimeout t link tag s
  | .streamAckTimeout t link tag => Sys2Proof.Machine.execStreamAckTimeout t link tag s
  | .ptmExchange t fn offset => Sys2Proof.Machine.execPtmExchange t fn offset s
  | .ppsInEdge t falling => Sys2Proof.Machine.execPpsInEdge t falling s
  | .ppsLoss t => Sys2Proof.Machine.execPpsLoss t s
  | .zdaSentence t utc checksumOk sincePulseMs => Sys2Proof.Machine.execZdaSentence t utc checksumOk sincePulseMs s
  | .holdoverExpiry t => Sys2Proof.Machine.execHoldoverExpiry t s
  | .slewComplete t => Sys2Proof.Machine.execSlewComplete t s
  | .ppsOutPulse t => Sys2Proof.Machine.execPpsOutPulse t s
  | .timeRefLoss t => Sys2Proof.Machine.execTimeRefLoss t s
  | .timeRefRestore t => Sys2Proof.Machine.execTimeRefRestore t s
  | .refclkSysLoss t => Sys2Proof.Machine.execRefclkSysLoss t s
  | .refclkSysRestore t b => Sys2Proof.Machine.execRefclkSysRestore t b s
  | .confirmWindowExpiry t b => Sys2Proof.Machine.execConfirmWindowExpiry t b s
  | .activating t => Sys2Proof.Machine.execActivating t s
  | .scheduledActivation t b => Sys2Proof.Machine.execScheduledActivation t b s
  | .backoffExpiry t port => Sys2Proof.Machine.execBackoffExpiry t port s
  | .retryCountReset t port => Sys2Proof.Machine.execRetryCountReset t port s
  | .rampComplete t port => Sys2Proof.Machine.execRampComplete t port s
  | .breakerTrip t port test point => Sys2Proof.Machine.execBreakerTrip t port test point s
  | .openSenseTest t bank shifts => Sys2Proof.Machine.execOpenSenseTest t bank shifts s
  | .squallLatch t => Sys2Proof.Machine.execSquallLatch t s
  | .squallShed t => Sys2Proof.Machine.execSquallShed t s
  | .sealComplete t => Sys2Proof.Machine.execSealComplete t s
  | .squallRecovery t => Sys2Proof.Machine.execSquallRecovery t s
  | .watchCycle t bank samples => Sys2Proof.Machine.execWatchCycle t bank samples s
  | .thermalReading t temps => Sys2Proof.Machine.execThermalReading t temps s
  | .thermalAutoRestart t b => Sys2Proof.Machine.execThermalAutoRestart t b s
  | .vaultTimerExpiry t b => Sys2Proof.Machine.execVaultTimerExpiry t b s
  | .domainWakeStepTimeout t dom wakeStep => Sys2Proof.Machine.execDomainWakeStepTimeout t dom wakeStep s
  | .serviceCoreFailure t core cause b => Sys2Proof.Machine.execServiceCoreFailure t core cause b s
  | .engineFailure t port cause => Sys2Proof.Machine.execEngineFailure t port cause s
  | .lockstepMismatch t b => Sys2Proof.Machine.execLockstepMismatch t b s
  | .watchdogExpiry t b => Sys2Proof.Machine.execWatchdogExpiry t b s
  | .bootSyncComplete t => Sys2Proof.Machine.execBootSyncComplete t s
  | .censusCopyComplete t => Sys2Proof.Machine.execCensusCopyComplete t s
  | .folioProgram t => Sys2Proof.Machine.execFolioProgram t s
  | .folioEraseAheadDone t => Sys2Proof.Machine.execFolioEraseAheadDone t s
  | .hostDmaError t fn w => Sys2Proof.Machine.execHostDmaError t fn w s
  | .atomicFail t fn => Sys2Proof.Machine.execAtomicFail t fn s
  | .busMasterEnable t fn slots => Sys2Proof.Machine.execBusMasterEnable t fn slots s
  | .powerOnReset t b => Sys2Proof.Machine.execPowerOnReset t b s
  | .perst t b => Sys2Proof.Machine.execPerst t b s
  | .singlePerst t fn => Sys2Proof.Machine.execSinglePerst t fn s
  | .typecAttach t source orient rp b => Sys2Proof.Machine.execTypecAttach t source orient rp b s
  | .typecDetach t => Sys2Proof.Machine.execTypecDetach t s
  | .pdMessage t m => Sys2Proof.Machine.execPdMessage t m s
  | .hardReset t => Sys2Proof.Machine.execHardReset t s
  | .senderResponseTimeout t => Sys2Proof.Machine.execSenderResponseTimeout t s
  | .hostResponseTimeout t => Sys2Proof.Machine.execHostResponseTimeout t s
  | .errorRecoveryEnd t => Sys2Proof.Machine.execErrorRecoveryEnd t s
  | .frsVbusCheck t mv => Sys2Proof.Machine.execFrsVbusCheck t mv s
  | .vbusRemoved t b => Sys2Proof.Machine.execVbusRemoved t b s
  | .deadBatteryStart t => Sys2Proof.Machine.execDeadBatteryStart t s
  | .flitReceived t link f => Sys2Proof.Machine.execFlitReceived t link f s
  | .flashOperationComplete t r => Sys2Proof.Machine.execFlashOperationComplete t r s
  | .nvmScrubScan t => Sys2Proof.Machine.execNvmScrubScan t s
  | .nvmScanEnd t words => Sys2Proof.Machine.execNvmScanEnd t words s
  | .trngHealthFailure t adaptive => Sys2Proof.Machine.execTrngHealthFailure t adaptive s
  | .trngRecovery t => Sys2Proof.Machine.execTrngRecovery t s
  | .powerTransitionComplete t => Sys2Proof.Machine.execPowerTransitionComplete t s
  | .calibrationComplete t link => Sys2Proof.Machine.execCalibrationComplete t link s
  | .pcieLinkUp t fn width speed => Sys2Proof.Machine.execPcieLinkUp t fn width speed s
  | .perstNRelease t fn b => Sys2Proof.Machine.execPerstNRelease t fn b s
  | .busMasterEnableClear t fn => Sys2Proof.Machine.execBusMasterEnableClear t fn s
  | .atomicopRequesterEnable t fn on => Sys2Proof.Machine.execAtomicopRequesterEnable t fn on s
  | .msixUnmask t fn vec => Sys2Proof.Machine.execMsixUnmask t fn vec s
  | .hostTlpInLull t fn => Sys2Proof.Machine.execHostTlpInLull t fn s
  | .aoRailChange t present => Sys2Proof.Machine.execAoRailChange t present s
  | .senseSample t port ma10 => Sys2Proof.Machine.execSenseSample t port ma10 s
  | .softStartEnd t port => Sys2Proof.Machine.execSoftStartEnd t port s
  | .ppsOutFall t => Sys2Proof.Machine.execPpsOutFall t s
  | .lineFaultEnd t port => Sys2Proof.Machine.execLineFaultEnd t port s
  | .maintConfigured c => Sys2Proof.Machine.execMaintConfigured c s

end Sys2Proof.Machine
end

