-- ==== Sys2Proof/Safety.lean ====
section
/-! DEFINITION. Safety: the terms the statements are written in. What a command leaves alone, the conditions under which a
descriptor or a register write has its own effect, the invariant of the frame clock, and encoders of the frames that nodes
send. -/
namespace Sys2Proof.Safety
open Sys2Proof.Machine Sys2Proof.WellFormed

/-! ## A command's outcome -/

/-- The state u after a command at instant t that leaves the count of frames and the queue alone. -/
def ended (t : Nat) (s u : State) : State := { u with fc := (start t s).fc, pending := s.pending }

/-- The commands whose effect may move the frame clock otherwise than to their instant: the boundaries, the cold resets,
and those with which a branch that has never framed begins to frame (R15, R20, R21, R415). -/
def movesClock : Instr → Bool
  | .frameBoundary _ | .gustSlotBoundary _ | .powerOnReset _ _ | .perst _ _ | .perstNRelease _ _ _
  | .thermalAutoRestart _ _ | .vaultTimerExpiry _ _ | .typecAttach _ _ _ _ _ | .vbusRemoved _ _ | .restart _ _ _
  | .orphanStartTimeout _ | .role _ _ _ _ _ | .timeSync _ _ => true
  | _ => false

/-- The frame clock is sound: a slot of the frame, a 32-bit frame number, and neither the frame nor the slot begins in the
future (R20, R21). -/
def ClockSound (c : FrameClock) : Prop :=
  c.slot ≤ 7 ∧ c.frameNo < 2 ^ 32 ∧ c.frameStart + c.slot * 125000 ≤ c.now

/-- Every table of the state is in canonical form. -/
def Canonical (s : State) : Bool :=
  s.regs.wf && s.shadows.wf && s.latches.wf && s.intFn.wf && s.cen.wf && s.rings.wf && s.seqs.wf && s.nodes.wf && s.eps.wf &&
    s.segs.wf && s.links.wf && s.shelves0.wf && s.shelves1.wf && s.rules.wf && s.deposits.wf && s.subs.wf && s.mirror.wf &&
    s.spws.wf

/-- The parts of the state that no register read touches: contexts of endpoints, nodes, segments, links, rules, rings and
descriptors in flight. -/
def SameContexts (a b : State) : Prop :=
  a.eps = b.eps ∧ a.nodes = b.nodes ∧ a.segs = b.segs ∧ a.links = b.links ∧ a.rules = b.rules ∧ a.rings = b.rings ∧
    a.flight = b.flight ∧ a.spws = b.spws ∧ a.shadows = b.shadows ∧ a.folio = b.folio ∧ a.nvm = b.nvm ∧ a.tt = b.tt

/-! ## Replies -/

/-- A reply of an authenticated node that carries a payload has been heard: its counter is kept (R152, R153). -/
def heard (s : State) (p : Nat) (x : Txn) (v : Vfp) : State :=
  let n := s.node (nodeKey p x.node)
  if n.authed && !v.payload.isEmpty then s.setNode (nodeKey p x.node) { n with rxCtr := beAt v.trailer 0 4 } else s

/-! ## Descriptors -/

/-- What a descriptor row runs: its instant, its submission entry, the rule of its opcode, its meaning, and whether bus and
links are served after it. -/
structure SqCmd where
  t : Nat
  d : SqEntry
  rule : State → OpRule
  op : Desc → State → State
  settles : Bool

/-- The descriptor rows of the table. -/
def sqCmd : Instr → Option SqCmd
  | .nop t d => some ⟨t, d, fun _ => ruleNop, opNop, false⟩
  | .writeEp t d => some ⟨t, d, fun _ => ruleWriteEp, opWriteEp, true⟩
  | .writeEpConfirmed t d => some ⟨t, d, fun _ => ruleWriteConfirmed, opWriteEpConfirmed, true⟩
  | .readEp t d => some ⟨t, d, fun s => ruleReadEp (readHere s d), opReadEp, false⟩
  | .configEp t d => some ⟨t, d, fun _ => configRule d, opConfigAny, false⟩
  | .configEpQuery t d => some ⟨t, d, fun _ => configRule d, opConfigAny, false⟩
  | .controlXfer t d => some ⟨t, d, fun _ => controlRule d, opControl, true⟩
  | .regAccessRead t d => some ⟨t, d, fun _ => controlRule d, opControl, true⟩
  | .regAccessWrite t d => some ⟨t, d, fun _ => controlRule d, opControl, true⟩
  | .bulkXferOut t d => some ⟨t, d, fun _ => ruleBulk, opBulk, true⟩
  | .bulkXferIn t d => some ⟨t, d, fun _ => ruleBulk, opBulk, true⟩
  | .streamXferIn t d => some ⟨t, d, fun _ => ruleStream, opStream, false⟩
  | .streamXferOut t d => some ⟨t, d, fun _ => ruleStream, opStream, false⟩
  | .shelfDefine t d => some ⟨t, d, fun _ => shelfRule d, opShelf, false⟩
  | .shelfDelete t d => some ⟨t, d, fun _ => shelfRule d, opShelf, false⟩
  | .shelfQuery t d => some ⟨t, d, fun _ => shelfRule d, opShelf, false⟩
  | .placeHintClear t d => some ⟨t, d, fun _ => ruleHint, opHint, false⟩
  | .pinRing t d => some ⟨t, d, fun _ => ruleHint, opHint, false⟩
  | .pinStacks t d => some ⟨t, d, fun _ => ruleHint, opHint, false⟩
  | .affinity t d => some ⟨t, d, fun _ => ruleHint, opHint, false⟩
  | .preferReserve t d => some ⟨t, d, fun _ => ruleHint, opHint, false⟩
  | .gustLoad t d => some ⟨t, d, fun _ => ruleGustLoad, opGustLoad, false⟩
  | .gustEnable t d => some ⟨t, d, fun _ => ruleGustSwitch, opGustSwitch, false⟩
  | .gustDisable t d => some ⟨t, d, fun _ => ruleGustSwitch, opGustSwitch, false⟩
  | .segPowerOff t d => some ⟨t, d, fun _ => ruleSegPower, opSegPower, true⟩
  | .segPowerOn t d => some ⟨t, d, fun _ => ruleSegPower, opSegPower, false⟩
  | .segPowerQuery t d => some ⟨t, d, fun _ => ruleSegPower, opSegPower, false⟩
  | .segStateDisable t d => some ⟨t, d, fun _ => ruleSegState, opSegState, false⟩
  | .segStateEnable t d => some ⟨t, d, fun _ => ruleSegState, opSegState, false⟩
  | .segStateSuspend t d => some ⟨t, d, fun _ => ruleSegState, opSegState, false⟩
  | .segStateResume t d => some ⟨t, d, fun _ => ruleSegState, opSegState, false⟩
  | .segStateSetGen t d => some ⟨t, d, fun _ => ruleSegState, opSegState, false⟩
  | .approve t d => some ⟨t, d, fun _ => ruleApprove, opNodeApprove, true⟩
  | .deny t d => some ⟨t, d, fun _ => ruleApprove, opNodeApprove, true⟩
  | .forget t d => some ⟨t, d, fun _ => ruleApprove, opNodeApprove, true⟩
  | .nodePolicy t d => some ⟨t, d, fun _ => ruleApprove, opNodeApprove, true⟩
  | .pinKey t d => some ⟨t, d, fun _ => ruleApprove, opNodeApprove, true⟩
  | .nodeFwDistribute t d => some ⟨t, d, fun _ => ruleDist, opDistAny, true⟩
  | .distAbort t d => some ⟨t, d, fun _ => ruleDist, opDistAny, true⟩
  | .distQuery t d => some ⟨t, d, fun _ => ruleDist, opDistAny, true⟩
  | .timeSet t d => some ⟨t, d, fun _ => ruleTimeSet, opTimeSet, false⟩
  | .timeAdj t d => some ⟨t, d, fun _ => ruleTimeAdj, opTimeAdj, false⟩
  | .imageManifest t d keyOk sigOk => some ⟨t, d, fun _ => ruleImagePiece, opImagePiece keyOk sigOk sigOk, false⟩
  | .imagePiece t d tagOk => some ⟨t, d, fun _ => ruleImagePiece, opImagePiece tagOk tagOk tagOk, false⟩
  | .imageAbandon t d => some ⟨t, d, fun _ => ruleImagePiece, opImagePiece false false false, false⟩
  | .imageScheduleArm t d hubs => some ⟨t, d, fun _ => ruleSchedule, opSchedule hubs, false⟩
  | .imageScheduleCancel t d => some ⟨t, d, fun _ => ruleSchedule, opSchedule [], false⟩
  | .imageStatus t d => some ⟨t, d, fun _ => ruleImageStatus, opImageStatus, false⟩
  | .folioRead t d => some ⟨t, d, fun _ => ruleFolioRead, opFolioRead, false⟩
  | .censusTake t d => some ⟨t, d, fun _ => ruleCensus, opCensus, false⟩
  | .pdMsgSend t d => some ⟨t, d.entry, fun _ => rulePdSend, opPdSend d.misses.toNat, false⟩
  | .leaseRenew t d => some ⟨t, d, fun _ => ruleLeaseRenew, opLeaseRenew, false⟩
  | .roleTake t d other => some ⟨t, d, fun _ => ruleRoleTake, opRoleTake other.left other.heads, false⟩
  | .unknownOpcode t d opcode => some ⟨t, d, fun _ => ruleUnknown opcode.toNat, opUnknown, false⟩
  | _ => none

/-- The state in which the fetched descriptor runs. -/
def SqCmd.taken (q : SqCmd) (b : State) : State :=
  takeDesc b (mkDesc b (q.rule b).opcode q.d (q.rule b).len (issueOf b q.d.fn q.d.sq.toNat))

/-- The fetched descriptor. -/
def SqCmd.desc (q : SqCmd) (b : State) : Desc :=
  mkDesc b (q.rule b).opcode q.d (q.rule b).len (issueOf b q.d.fn q.d.sq.toNat)

/-- The descriptor is fetched now and starts: its SQ is the next of the round, and no FENCE holds it (R80, R81, R83). -/
def SqCmd.Fetches (q : SqCmd) (b : State) : Prop :=
  fencedOf b q.d.fn q.d.sq.toNat = none ∧ canFetch b q.d = true ∧
    (q.d.fence = true → fenceOpen b q.d.fn q.d.sq.toNat b.nextId = true)

/-- The descriptor runs at this hub: its function may execute it, R18 rejects nothing, no hub number was vacated, its SQ
takes it, and it names this hub (R18, R81, R104, R105, R166, R254). -/
def SqCmd.Runs (q : SqCmd) (b : State) : Prop :=
  ((q.rule b).standby = true ∨ mayExecute (q.taken b) q.d.fn = true) ∧
    addrStatus (q.taken b) (q.rule b).opcode q.d.tea.toNat = none ∧
    vacatedOf (q.taken b) (teaHub q.d.tea.toNat) = none ∧ galeSqOk (q.taken b) (q.desc b) = true ∧
    (teaHub q.d.tea.toNat = hubOf b ∨ (q.rule b).here = true) ∧
    ((q.rule b).mgmt = true → hubForm q.d.tea.toNat = true)

/-! ## Register writes -/

/-- What a row that writes one register writes: its instant, what it finds, who writes, where, and the word, which for some
rows keeps fields as they stand. -/
structure RegCmd where
  t : Nat
  found : WriteIn
  ini : Initiator
  addr : Nat
  word : State → Word

/-- The rows of the table that write one register. -/
def regCmd : Instr → Option RegCmd
  | .glbCensusTake t ini => some ⟨t, WriteIn.plain, ini, Reg.GLB_CENSUS, fun _ => 1⟩
  | .warmReset t ini v b => some ⟨t, ⟨some b, none⟩, ini, Reg.GLB_CTRL, fun _ => v ||| 1⟩
  | .protHoldRelease t ini v => some ⟨t, WriteIn.plain, ini, Reg.GLB_PROT_HOLD, fun _ => v⟩
  | .secLock t ini => some ⟨t, WriteIn.plain, ini, Reg.SEC_LOCK, fun _ => 1⟩
  | .hostApprove t ini => some ⟨t, WriteIn.plain, ini, Reg.NVM_CONFIRM, fun s => pendingWord s Reg.NVM_CONFIRM ||| 2⟩
  | .healthConfirm t ini => some ⟨t, WriteIn.plain, ini, Reg.NVM_CONFIRM, fun s => pendingWord s Reg.NVM_CONFIRM &&& 4 ||| 1⟩
  | .nvmCmdErase t ini v => some ⟨t, WriteIn.plain, ini, Reg.NVM_CMD, fun _ => withOp v 1⟩
  | .nvmCmdBlankCheck t ini v blank => some ⟨t, ⟨none, some (if blank then 0 else 1)⟩, ini, Reg.NVM_CMD, fun _ => withOp v 2⟩
  | .nvmCmdVerify t ini v worst => some ⟨t, ⟨none, some worst⟩, ini, Reg.NVM_CMD, fun _ => withOp v 3⟩
  | .nvmScan t ini => some ⟨t, WriteIn.plain, ini, Reg.NVM_CTRL, fun s => pendingWord s Reg.NVM_CTRL ||| 2⟩
  | .spwStore t ini => some ⟨t, WriteIn.plain, ini, Reg.SPW_STORE, fun _ => 1⟩
  | .spwCtrlOnWrite t ini port v => some ⟨t, WriteIn.plain, ini, Reg.SPW_CTRL port, fun _ => v⟩
  | .lnkEnable t ini link => some ⟨t, WriteIn.plain, ini, Reg.LNK_CTRL link.toNat, fun _ => 1⟩
  | .lnkDisable t ini link => some ⟨t, WriteIn.plain, ini, Reg.LNK_CTRL link.toNat, fun _ => 0⟩
  | .rateUp t ini link => some ⟨t, WriteIn.plain, ini, Reg.LNK_CTRL link.toNat, fun s => linkCtrl s link.toNat ||| 8⟩
  | .rateDown t ini link => some ⟨t, WriteIn.plain, ini, Reg.LNK_CTRL link.toNat, fun s => linkCtrl s link.toNat ||| 4⟩
  | .retrain t ini link => some ⟨t, WriteIn.plain, ini, Reg.LNK_CTRL link.toNat, fun s => linkCtrl s link.toNat ||| 2⟩
  | .lnkPolicyApprove t ini link => some ⟨t, WriteIn.plain, ini, Reg.LNK_POLICY link.toNat, fun s => pendingWord s (Reg.LNK_POLICY link.toNat) ||| 0x100⟩
  | .lnkPolicyDeny t ini link => some ⟨t, WriteIn.plain, ini, Reg.LNK_POLICY link.toNat, fun s => pendingWord s (Reg.LNK_POLICY link.toNat) ||| 0x200⟩
  | .libEngineMove t ini v => some ⟨t, WriteIn.plain, ini, Reg.LIB_ENGINE_MOVE, fun _ => v⟩
  | .vacatedClear t ini v => some ⟨t, WriteIn.plain, ini, Reg.LIB_FWD_STATUS, fun _ => v⟩
  | .rsvFaultClear t ini v => some ⟨t, WriteIn.plain, ini, Reg.LIB_STATUS, fun _ => v &&& 6⟩
  | .pwrTargetA0 t ini v => some ⟨t, WriteIn.plain, ini, Reg.PWR_CTRL, fun _ => withTarget v 0⟩
  | .pwrTargetA1 t ini v => some ⟨t, WriteIn.plain, ini, Reg.PWR_CTRL, fun _ => withTarget v 1⟩
  | .pwrTargetLull t ini v => some ⟨t, WriteIn.plain, ini, Reg.PWR_CTRL, fun _ => withTarget v 2⟩
  | .pwrTargetVault t ini v => some ⟨t, WriteIn.plain, ini, Reg.PWR_CTRL, fun _ => withTarget v 3⟩
  | .watchStore t ini v => some ⟨t, WriteIn.plain, ini, Reg.PWR_WATCH_INDEX, fun _ => v ||| 0x80000000⟩
  | .watchLoad t ini v => some ⟨t, WriteIn.plain, ini, Reg.PWR_WATCH_INDEX, fun _ => v &&& 0x7FFFFFFF⟩
  | .sealTest t ini => some ⟨t, WriteIn.plain, ini, Reg.FOL_CTRL, fun _ => 2⟩
  | .flush t ini => some ⟨t, WriteIn.plain, ini, Reg.FOL_CTRL, fun _ => 1⟩
  | .folioErase t ini v => some ⟨t, WriteIn.plain, ini, Reg.FOL_ERASE, fun _ => v ||| 1⟩
  | .disconnect t ini => some ⟨t, WriteIn.plain, ini, Reg.PDP_CTRL, fun s => pendingWord s Reg.PDP_CTRL ||| 2⟩
  | .pdPolicyWrite t ini v => some ⟨t, WriteIn.plain, ini, Reg.PDP_CTRL, fun _ => v⟩
  | _ => none

/-- The write reaches its register: the initiator reaches it, it is not a standby function's outside its own instance, the
address takes writes, its block is not held, the copy has not failed, and the initiator meets no /S field of it as a
non-secure one (R59, R62, R63, R68). -/
def RegCmd.Lands (r : RegCmd) (h : State) : Prop :=
  reaches h r.ini r.addr = true ∧
    (∀ f, r.ini = .pf f → isStandby h f = false ∨ ownHif f r.addr = true) ∧ ignoredWrite h r.addr = false ∧
    (isSecure h r.ini = true ∨ hasSecField r.addr = false) ∧ (Reg.at r.addr).isSome = true ∧
    isHeld h (regBlock r.addr) = false ∧ memNat h.badRegs r.addr = false

/-! ## Frames that nodes send (R109 to R117) -/

/-- Is a frame one that a node may send as a reply: a reply type, a length its type allows, a one-byte node address, a
5-bit endpoint that is 0 in COV and HELLO, and a trailer of 12 bytes exactly when SECURE (R113, R115, R117). -/
def ReplyOk (f : Vfp) : Prop :=
  f.ftype < 7 ∧ replyLenOk f.ftype f.payload.length = true ∧ f.node < 256 ∧ f.ep < 32 ∧
    ((f.ftype = 5 ∨ f.ftype = 6) → f.ep = 0) ∧ f.trailer.length = (if f.secure then 12 else 0)

/-- The bytes of one entry of a COV payload (R117). -/
def covEntryBytes (e : CovEntry) : List Byte :=
  [BitVec.ofNat 8 (e.ep * 8 + b2n e.toggle * 4 + b2n e.halted * 2), BitVec.ofNat 8 e.data.length] ++ beBytes 2 e.age ++ e.data

/-- The entries of a COV payload as bytes. -/
def covBytes (es : List CovEntry) : List Byte := es.flatMap covEntryBytes

/-- Is an entry of a COV payload in range. -/
def CovEntryOk (e : CovEntry) : Prop := e.ep < 32 ∧ e.age < 65536 ∧ e.data.length ≤ 64

/-- The first word of a flit, as its fields (R206). -/
def flitFields (w : Nat) : Nat × Nat × Nat × Nat × Nat × Nat :=
  (bitsOf w 30 2, bitsOf w 28 2, bitsOf w 16 12, bitsOf w 14 2, bitsOf w 8 6, bitsOf w 0 8)

/-- The grid of periodic intervals in µs (R26). -/
def OnGrid (us : Nat) : Prop := us = 125 ∨ us = 250 ∨ us = 500 ∨ ∃ ms, 1 ≤ ms ∧ ms ≤ 65535 ∧ us = ms * 1000

end Sys2Proof.Safety
end

