-- ==== Sys2Proof/Certificates/Slice0/Obligations.lean ====
section
/-! DEFINITION. The statements for the provers. b stands for the state at the command's instant, start t s; ended t s u is u
with the frame clock at that instant and the queue as it was. Log entries named in a statement are the model's choices. -/
open Sys2Proof Sys2Proof.Machine Sys2Proof.Safety Sys2Proof.WellFormed

/-- For every command c, state s and rest of the queue, step of s with c at the front is exec c on s with that rest; with
an empty queue step answers the same state, which is the model's choice (log entry 1). (spec/INDEX.md,
spec/95_what_each_step_holds.md) -/
def Obligations.StepTakesTheFront : Prop :=
  (∀ (c : Instr) (rest : List Instr) (s : State), step { s with pending := c :: rest } = exec c { s with pending := rest }) ∧
    ∀ s : State, s.pending = [] → step s = .next s

/-- For every command and state, the command answers a next state whose queue is that before: no command faults or is
refused. A term whose operands name nothing the hub has, such as a port above 47, answers the state at an instant with
nothing else done, which is the model's choice (log entry 87). (spec/95_what_each_step_holds.md) -/
def Obligations.CommandsComplete : Prop :=
  ∀ (c : Instr) (s : State),
    (∃ u, exec c s = .next u ∧ u.pending = s.pending) ∧
    (WellFormed.wf c = false → ∃ t, exec c s = .next (start t s))

/-- For every state whose queue begins with a list of commands, running as many steps as the list is long answers a next
state whose queue is what followed the list: no command of the table stops the machine.
(spec/95_what_each_step_holds.md) -/
def Obligations.QueueDrains : Prop :=
  ∀ (l rest : List Instr) (s : State), s.pending = l ++ rest →
    ∃ u : State, Host.Core.run core l.length s = .next u ∧ u.pending = rest

/-- For every state whose frame clock is sound (the gust slot is 0 to 7, the frame number is below 2^32, and frame start
plus 125 µs per slot is not after now), every step that answers a next state answers one whose frame clock is sound
and whose instant is not before the one before, whatever the command. (R20, R21) -/
def Obligations.ClockStaysSound : Prop :=
  ∀ s u : State, ClockSound s.fc → step s = .next u → ClockSound u.fc ∧ s.fc.now ≤ u.fc.now

/-- For every command other than FRAME_BOUNDARY, GUST_SLOT_BOUNDARY, the rows that can be a power-on reset or PERST,
ORPHAN_START_TIMEOUT, ROLE and TIME_SYNC, the frame number, the start of the frame and the gust slot are unchanged.
For ROLE and TIME_SYNC they are unchanged on every hub that has framed before. (R15, R20, R21, R23) -/
def Obligations.FrameCountMovesOnlyHere : Prop :=
  (∀ (c : Instr) (s u : State), movesClock c = false → exec c s = .next u →
      u.fc.frameNo = s.fc.frameNo ∧ u.fc.frameStart = s.fc.frameStart ∧ u.fc.slot = s.fc.slot) ∧
    (∀ (t : Nat) (hub : BitVec 5) (frame : Word) (ftime : Nat) (p : UpParams) (s u : State), s.neverFramed = false →
      exec (.role t hub frame ftime p) s = .next u →
      u.fc.frameNo = s.fc.frameNo ∧ u.fc.frameStart = s.fc.frameStart ∧ u.fc.slot = s.fc.slot) ∧
    ∀ (t : Nat) (m : SyncMsg) (s u : State), s.neverFramed = false → exec (.timeSync t m) s = .next u →
      u.fc.frameNo = s.fc.frameNo ∧ u.fc.frameStart = s.fc.frameStart ∧ u.fc.slot = s.fc.slot

/-- On a hub that frames, FRAME_BOUNDARY advances the frame number by 1 modulo 2^32, begins slot 0 and the next frame, 1
ms after the one before on a root, and does the work of the boundary; GUST_SLOT_BOUNDARY begins the next slot of the
frame; EPOCH_BOUNDARY before the first gust slot after the boundary of a frame whose number is a multiple of
LIB_EPOCH.MS, once a frame, applies the EPOCH shadows and does the work of the epoch, which a held LIB block starts
not (the model's reading, log entry 17). (R20, R21, R48, R238) -/
def Obligations.BoundariesRun : Prop :=
  (∀ (t : Nat) (s b : State), framing s = true → b = start (Nat.max t (nextFrame s)) s →
      exec (.frameBoundary t) s = .next { settle (frameBoundary b) with
        fc := ⟨b.fc.now, (s.fc.frameNo + 1) % 2 ^ 32, nextFrame s, 0⟩, pending := s.pending }) ∧
    (∀ s : State, isBranch s = false → nextFrame s = s.fc.frameStart + 1000000) ∧
    (∀ (t : Nat) (s b : State), framing s = true → awake s = true → s.booted = true → s.fc.slot < 7 →
      b = start (Nat.max t (s.fc.frameStart + (s.fc.slot + 1) * 125000)) s →
      exec (.gustSlotBoundary t) s = .next { settle (slotBoundary b) with
        fc := ⟨b.fc.now, s.fc.frameNo, s.fc.frameStart, s.fc.slot + 1⟩, pending := s.pending }) ∧
    ∀ (t : Nat) (s b x : State), b = start t s → awake b = true → framing b = true → b.booted = true → b.fc.slot = 0 →
      b.fc.frameNo % Nat.max 1 (b.fld Reg.LIB_EPOCH Fld.LIB_EPOCH_MS) = 0 → b.epochFrame ≠ some b.fc.frameNo →
      x = applyShadows b .epoch →
      exec (.epochBoundary t) s = .next (ended t s
        (settle { (if isHeld x 6 then x else epochWork x) with epochFrame := some b.fc.frameNo }))

/-- Right after reset the queue is empty, every table is in canonical form, the frame clock is sound and stands at frame
0, every ring of both functions is OFF, neither function holds the lease, no block is held, no Squall is latched, and
HIF_READY is not up before 160 ms. (R20, R100, R103, R415) -/
def Obligations.ResetState : Prop :=
  State.reset.pending = [] ∧ Canonical State.reset = true ∧ ClockSound State.reset.fc ∧ State.reset.fc.frameNo = 0 ∧
    (∀ f i, (State.reset.ring f i).st = .off) ∧ State.reset.lease.valid = false ∧ State.reset.lease.holder = none ∧
    (∀ bit, bit < 14 → isHeld State.reset bit = false) ∧ squallOn State.reset = false ∧ isReady State.reset = false ∧
    isReady { State.reset with fc := ⟨160000000, 0, 0, 0⟩ } = true

/-- Every register reads after reset the reset word its table gives; among them HIF_SWEEP 4, HIF_LEASE_PERIOD 100,
LIB_EPOCH 1000 and 4,096 and 64 tokens in FOL_GOV. SEG_ENGINE, LIB_ENGINE and LIB_CORE show their instance, which the
model words as log entry 3 says. (spec/02_registers.md, spec/03_host_rings.md, spec/07_librarian_gust.md, R381) -/
def Obligations.ResetRegisters : Prop :=
  (∀ a bit r, Reg.at a = some (bit, r) → specialReset a = none → State.reset.rd a = BitVec.ofNat 32 r.reset) ∧
    (∀ a, Reg.at a = none → specialReset a = none → State.reset.rd a = 0) ∧
    State.reset.rd (Reg.HIF_SWEEP 0) = 4 ∧ State.reset.rd (Reg.HIF_LEASE_PERIOD 0) = 100 ∧ State.reset.rd Reg.LIB_EPOCH = 1000 ∧
    State.reset.fld Reg.FOL_GOV Fld.FOL_GOV_TOKENS = 4096 ∧ State.reset.fld Reg.FOL_GOV Fld.FOL_GOV_RESERVE = 64

/-- For every hub below 32, port below 64, node below 256 and endpoint below 32, the TEA made of them is below 2^24 and
reads back as these fields, which are bits [23:19], [18:13], [12:5] and [4:0]; every TEA below 2^24 is made of its own
fields; and 3.17.122.4 is 0x1A2F44. (R16) -/
def Obligations.TeaLayout : Prop :=
  (∀ hub port node ep : Nat, hub < 32 → port < 64 → node < 256 → ep < 32 →
      mkTea hub port node ep < 2 ^ 24 ∧ teaHub (mkTea hub port node ep) = hub ∧ teaPort (mkTea hub port node ep) = port ∧
        teaNode (mkTea hub port node ep) = node ∧ teaEp (mkTea hub port node ep) = ep) ∧
    (∀ tea : Nat, tea < 2 ^ 24 → mkTea (teaHub tea) (teaPort tea) (teaNode tea) (teaEp tea) = tea ∧
      teaHub tea = bitsOf tea 19 5 ∧ teaPort tea = bitsOf tea 13 6 ∧ teaNode tea = bitsOf tea 5 8 ∧
      teaEp tea = bitsOf tea 0 5) ∧
    mkTea 3 17 122 4 = 0x1A2F44

/-- For every number v and count n, the n little-endian bytes of v placed anywhere in a byte list read back from their
offset as v modulo 256^n, and so do the n big-endian bytes read most significant first. Both lists have n bytes. (R3,
R4) -/
def Obligations.ByteOrders : Prop :=
  ∀ (n v : Nat) (pre post : List Byte),
    leAt (pre ++ leBytes n v ++ post) pre.length n = v % 256 ^ n ∧
    beAt (pre ++ beBytes n v ++ post) pre.length n = v % 256 ^ n ∧
    (leBytes n v).length = n ∧ (beBytes n v).length = n

/-- The header CRC starts from 0xFF, takes each byte most significant bit first with polynomial 0x2F, is XORed with 0xFF
at the end, and over the ASCII string 123456789 gives 0xDF. (R110) -/
def Obligations.HeaderCrc : Prop :=
  (∀ bs : List Byte, hcrc bs = (bs.foldl crc8Byte 0xFF) ^^^ 0xFF) ∧
    (∀ (c : Nat) (x : Byte), crc8Byte c x = (List.range 8).foldl (fun c _ => crc8Bit c) (c ^^^ x.toNat)) ∧
    (∀ c : Nat, c < 256 → crc8Bit c = if bitOf c 7 then (c * 2 % 256) ^^^ 0x2F else c * 2 % 256) ∧
    hcrc [0x31, 0x32, 0x33, 0x34, 0x35, 0x36, 0x37, 0x38, 0x39] = 0xDF

/-- CRC-32C here is reflected with the reversed polynomial of 0x1EDC6F41, initial value and final XOR all ones, and gives
0xE3069283 over 123456789. Every frame with a payload ends in the 4 bytes, most significant first, of the CRC over its
payload and, when SECURE, its trailer; a frame without payload has no frame CRC. (R4, R109, R111) -/
def Obligations.FrameCrc : Prop :=
  (∀ bs : List Byte, crc32c bs = (bs.foldl (crcReflByte 0x82F63B78) 0xFFFFFFFF) ^^^ 0xFFFFFFFF) ∧
    (∀ i, i < 32 → bitOf 0x82F63B78 i = bitOf 0x1EDC6F41 (31 - i)) ∧
    crc32c [0x31, 0x32, 0x33, 0x34, 0x35, 0x36, 0x37, 0x38, 0x39] = 0xE3069283 ∧
    (∀ f : Vfp, f.payload ≠ [] →
      beAt (vfpEncode f) ((vfpEncode f).length - 4) 4 = crc32c (f.payload ++ if f.secure then f.trailer else [])) ∧
    ∀ f : Vfp, f.payload = [] → (vfpEncode f).length = 5 + (if f.secure then f.trailer.length else 0)

/-- The payload of the SOF token is the frame number modulo 65,536 in two bytes, most significant first; two states whose
frame numbers agree modulo 65,536, such as states 65,536 frames of 1 ms apart, send the same SOF. (R22) -/
def Obligations.SofCarriesLowFrame : Prop :=
  (∀ s : State, beAt (sofFrame s) 5 2 = s.fc.frameNo % 65536 ∧ byteAt (sofFrame s) 0 / 16 = Tok.sof) ∧
    ∀ s u : State, u.fc.frameNo = (s.fc.frameNo + 65536) % 2 ^ 32 → sofFrame u = sofFrame s

/-- For every frame that a node may send (a reply type, a length its type allows, its address, endpoint, flags, payload
and trailer at every value the format admits), reading its bytes gives exactly that frame on VFP-1, which pads
nothing, on VFP-3 with up to 2 bytes that fill the last group of 3, and on VFP-2 whatever bytes follow. (R109, R110,
R111, R113, R115, R173, R177) -/
def Obligations.ReplyRoundTrip : Prop :=
  ∀ f : Vfp, ReplyOk f →
    readReply .none (vfpEncode f) = .ok f ∧
    (∀ pad : List Byte, (vfpEncode f).length + pad.length ≤ ((vfpEncode f).length + 2) / 3 * 3 →
      readReply .groups (vfpEncode f ++ pad) = .ok f) ∧
    ∀ pad : List Byte, readReply .any (vfpEncode f ++ pad) = .ok f

/-- Whatever bytes are read as a good reply: they have 5 bytes at least, the HCRC of their first four, a type below 7 with
a length it allows, endpoint 0 for COV and HELLO, the length the header says, on VFP-3 filled to a whole group of 3
bytes and on VFP-2 as far as the body goes, and with a payload the frame CRC. (R113, R115, R173, R177) -/
def Obligations.AcceptedRepliesAreSound : Prop :=
  ∀ (pads : Padding) (bs : List Byte) (f : Vfp) (total : Nat),
    total = 5 + f.payload.length + (if f.secure then 12 else 0) + (if f.payload.length = 0 then 0 else 4) →
    readReply pads bs = .ok f →
    5 ≤ bs.length ∧ hcrc (bs.take 4) = byteAt bs 4 ∧ f.ftype < 7 ∧ replyLenOk f.ftype f.payload.length = true ∧
    ((f.ftype = 5 ∨ f.ftype = 6) → f.ep = 0) ∧
    total ≤ bs.length ∧ (pads = .none → bs.length = total) ∧ (pads = .groups → bs.length ≤ (total + 2) / 3 * 3) ∧
    (f.payload ≠ [] →
      beAt bs (5 + f.payload.length + (if f.secure then 12 else 0)) 4 = crc32c (f.payload ++ f.trailer))

/-- For every list of COV entries in range (endpoint, toggle, halted, age and up to 64 data bytes at every value), parsing
the payload made of them gives the list. (R117) -/
def Obligations.CovRoundTrip : Prop :=
  ∀ (es : List CovEntry) (fuel : Nat), (∀ e ∈ es, CovEntryOk e) → es.length ≤ fuel →
    covEntries fuel (covBytes es) = some es

/-- Every flit the hub sends has 256 bytes; its first 4 bytes, most significant first, hold VC, TYPE, SEQ, CR_VC, CR_COUNT
and ACK in their bit positions; bytes 4 to 247 hold the payload, zero-filled; the last 8 bytes are the CRC over the
248 before. (R206, R207) -/
def Obligations.FlitLayout : Prop :=
  ∀ (vc ftype seq crVc crCount ack : Nat) (payload : List Byte), payload.length ≤ 244 →
    (flitBytes vc ftype seq crVc crCount ack payload).length = 256 ∧
    flitFields (beAt (flitBytes vc ftype seq crVc crCount ack payload) 0 4) =
      (vc % 4, ftype % 4, seq % 4096, crVc % 4, crCount % 64, ack % 256) ∧
    ((flitBytes vc ftype seq crVc crCount ack payload).drop 4).take payload.length = payload ∧
    beAt (flitBytes vc ftype seq crVc crCount ack payload) 248 8 =
      crc64 ((flitBytes vc ftype seq crVc crCount ack payload).take 248)

/-- Every CQ entry has 32 bytes and every FQ record 64, little-endian: the tag in bytes 0 to 3, the status or cause in
byte 4, PHASE in bit 0 of byte 5, and their other fields at the offsets of their tables. (R3, spec/03_host_rings.md) -/
def Obligations.EntryLayouts : Prop :=
  (∀ (e : CqEntry) (phase : Bool) (sq : Nat),
      (cqBytes e phase sq).length = 32 ∧ leAt (cqBytes e phase sq) 0 4 = e.tag % 2 ^ 32 ∧
      byteAt (cqBytes e phase sq) 4 = e.status % 256 ∧ bitOf (byteAt (cqBytes e phase sq) 5) 0 = phase ∧
      bitOf (byteAt (cqBytes e phase sq) 5) 1 = e.late ∧
      byteAt (cqBytes e phase sq) 6 = sq % 256 ∧ leAt (cqBytes e phase sq) 8 4 = e.effLen % 2 ^ 32 ∧
      leAt (cqBytes e phase sq) 12 4 = e.sqHead % 2 ^ 32 ∧ leAt (cqBytes e phase sq) 16 8 = e.fetchTime % 2 ^ 64 ∧
      leAt (cqBytes e phase sq) 24 8 = e.doneTime % 2 ^ 64) ∧
    ∀ (r : FqRecord) (phase : Bool),
      (fqBytes r phase).length = 64 ∧ leAt (fqBytes r phase) 0 4 = r.tag % 2 ^ 32 ∧
      byteAt (fqBytes r phase) 4 = r.cause % 256 ∧ bitOf (byteAt (fqBytes r phase) 5) 0 = phase ∧
      bitOf (byteAt (fqBytes r phase) 5) 1 = r.originPf1 ∧ bitOf (byteAt (fqBytes r phase) 5) 2 = r.copy ∧
      leAt (fqBytes r phase) 8 4 = r.tea % 2 ^ 32 ∧ leAt (fqBytes r phase) 16 8 = r.submitTime % 2 ^ 64 ∧
      leAt (fqBytes r phase) 24 8 = r.failTime % 2 ^ 64 ∧ byteAt (fqBytes r phase) 6 = r.opcode % 256 ∧
      byteAt (fqBytes r phase) 7 = r.sq % 256 ∧ byteAt (fqBytes r phase) 12 = r.finalStatus % 256 ∧
      leAt (fqBytes r phase) 32 8 = r.count % 2 ^ 64

/-- In every state whose register table is canonical, setting a register makes it read that word, leaves every other
register as it was and keeps the table canonical; advancing a counter by n adds n modulo 2^32, so that it wraps from
0xFFFFFFFF to 0 without saturating. (R8, R39) -/
def Obligations.RegisterWordsHold : Prop :=
  ∀ (s : State) (a : Nat) (w : Word), s.regs.wf = true →
    (s.wr a w).rd a = w ∧ (∀ x, x ≠ a → (s.wr a w).rd x = s.rd x) ∧ (s.wr a w).regs.wf = true ∧
    (∀ n, ((s.bump a n).rd a).toNat = ((s.rd a).toNat + n) % 2 ^ 32) ∧
    (s.rd a = 0xFFFFFFFF → (s.bump a 1).rd a = 0)

/-- A write to an address where no register is assigned leaves the state as it is, and a read of it gives 0 and leaves the
state as it is. (R7) -/
def Obligations.UnassignedRegisters : Prop :=
  ∀ (s : State) (ini : Initiator) (a : Nat), Reg.at a = none →
    (∀ (x : WriteIn) (w : Word), writeReg x s ini a w = s) ∧
    ∀ acc : Access, ∀ h, acc.addr.toNat / 8 * 8 + 4 * h = a → readHalf s acc h = (s, 0)

/-- A write that leaves its aligned 8-byte unit, or that enables all four bytes of neither half, only ends Lull as any
host access does. A write of all 8 bytes of a unit writes the lower register and then the upper one. A read that
leaves its unit returns 0 and does nothing else. (R40, R319) -/
def Obligations.PartialWritesDiscarded : Prop :=
  ∀ (x : WriteIn) (s : State) (acc : Access),
    (inUnit acc = false → writeAccess x s acc = hostTouches s acc.ini ∧
      readAccess s acc = (hostTouches s acc.ini).emit (.readData 0)) ∧
    (inUnit acc = true → (∀ h, ((enabledBytes acc).filter fun i => i / 4 == h).length ≠ 4) →
      writeAccess x s acc = hostTouches s acc.ini) ∧
    (acc.addr.toNat % 8 = 0 → acc.size = 8 → acc.be = 0xFF →
      writeAccess x s acc =
        writeOne x (writeOne x (hostTouches s acc.ini) acc.ini acc.addr.toNat (BitVec.ofNat 32 (bitsOf acc.data.toNat 0 32)))
          acc.ini (acc.addr.toNat + 4) (BitVec.ofNat 32 (bitsOf acc.data.toNat 32 32)))

/-- For every register with a read-clear field, in a state whose register table is canonical and that holds no latch of
the register for the reader: a read of all four bytes returns the word and leaves its read-clear bits 0 and its other
bits as they were; a read of fewer bytes leaves the register as it was. (R42) -/
def Obligations.ReadClearNeedsAllBytes : Prop :=
  ∀ (s : State) (ini : Initiator) (a : Nat), s.regs.wf = true → fieldsMask a (fun f => decide (f.acc = .rc)) ≠ 0 →
    latched s ini a = none →
    (readReg s ini a true).1.rd a = s.rd a &&& ~~~(BitVec.ofNat 32 (fieldsMask a fun f => decide (f.acc = .rc))) ∧
    (readReg s ini a false).1.rd a = s.rd a ∧ (readReg s ini a true).2 = (readReg s ini a false).2

/-- For each of the five rows that read registers, when it answers a next state, the contexts of endpoints, nodes,
segments, links, rules, rings, the descriptors in flight, segment power, pending shadows, the Folio, the flash and
tree time are those of the state at the command's instant. Lull, latches, read-clear registers and the outputs may
change. (R40, R41, R42, R319) -/
def Obligations.ReadsTouchNoContext : Prop :=
  ∀ (t : Nat) (a : Access) (s u : State),
    (exec (.lowerWordRead t a) s = .next u → SameContexts u (start t s)) ∧
    (exec (.rcFieldRead t a) s = .next u → SameContexts u (start t s)) ∧
    (exec (.glbFrameRead t a) s = .next u → SameContexts u (start t s)) ∧
    (exec (.cenWindowRead t a) s = .next u → SameContexts u (start t s))

/-- Writing the shadow of a register leaves every live register as it was, and the register reads with its buffered fields
as last written, before and after the close; a boundary of its kind moves the buffered fields of a shadow that is due
into the live register and leaves the other bits; a write after the close stays pending for the boundary after. (R48,
R49) -/
def Obligations.ShadowsReadBackAndApply : Prop :=
  ∀ (s : State) (a : Nat) (w : Word), s.regs.wf = true → s.shadows.wf = true →
    (∀ x, (shadowPut s a w).rd x = s.rd x) ∧
    pendingWord (shadowPut s a w) a = mergeWord (s.rd a) w (bufMask a) ∧
    ((shadowTake s (a, ⟨some w, none⟩)).rd a = mergeWord (s.rd a) w (bufMask a) ∧
      (shadowTake s (a, ⟨some w, none⟩)).shadows.find a = none) ∧
    ∀ w2 : Word, (shadowTake s (a, ⟨some w, some w2⟩)).rd a = mergeWord (s.rd a) w (bufMask a) ∧
      (shadowTake s (a, ⟨some w, some w2⟩)).shadows.find a = some ⟨some w2, none⟩

/-- The value a field takes: one with a range takes the nearest limit, is within its limits, and counts as clamped exactly
when it was beyond them; one with undefined codes keeps its previous value for such a code, counts then, and takes any
other code uncounted. (R53) -/
def Obligations.ClampsToLimits : Prop :=
  (∀ (f : FieldDef) (lo hi prev v : Nat), f.clamp = .range lo hi → lo ≤ hi →
      lo ≤ (clampField f prev v).1 ∧ (clampField f prev v).1 ≤ hi ∧
      (v < lo → (clampField f prev v).1 = lo) ∧ (hi < v → (clampField f prev v).1 = hi) ∧
      (lo ≤ v → v ≤ hi → (clampField f prev v).1 = v) ∧
      ((clampField f prev v).2 = true ↔ v < lo ∨ hi < v)) ∧
    (∀ (f : FieldDef) (n prev v : Nat), f.clamp = .keepAbove n →
      clampField f prev v = if n < v then (prev, true) else (v, false)) ∧
    ∀ (f : FieldDef) (n prev v : Nat), f.clamp = .keepBelow n →
      clampField f prev v = if v < n then (prev, true) else (v, false)

/-- In every state with a canonical register table a clamp advances GLB_CNT0 by 1 modulo 2^32 and changes no other
register, and HIF_CLAMP_COUNT reads as GLB_CNT0 at its offset in both HIF instances, for every reader and in every
role. (R53, R55, R68) -/
def Obligations.OneClampCounter : Prop :=
  ∀ (s : State), s.regs.wf = true →
    ((s.clamped.rd (Reg.GLB_CNT 0)).toNat = ((s.rd (Reg.GLB_CNT 0)).toNat + 1) % 2 ^ 32) ∧
    (∀ x, x ≠ Reg.GLB_CNT 0 → s.clamped.rd x = s.rd x) ∧
    ∀ ini : Initiator, liveWord s ini (Reg.HIF_CLAMP_COUNT 0) = s.rd (Reg.GLB_CNT 0) ∧
      liveWord s ini (Reg.HIF_CLAMP_COUNT 1) = s.rd (Reg.GLB_CNT 0)

/-- The management core is always secure; a host function is secure exactly in the Open lifecycle with SEC_LOCK.LOCK not
set; the register accesses of branches and CONTROL_XFER, the maintenance function and JTAG never are. An ignored
access counts in GLB_CNT4. While the other function holds a valid lease, a function's write to a register it reaches
outside its own HIF instance only counts as an ignored access; within its own instance it is written. (R60, R61, R62,
R63) -/
def Obligations.SecureInitiators : Prop :=
  (∀ s : State, isSecure s .mgmt = true ∧ isSecure s .maint = false ∧ isSecure s .jtag = false) ∧
    (∀ (s : State) (f : Fn), isSecure s (.branchCtl f) = false ∧
      (isSecure s (.pf f) = true ↔ s.nvm.lifecycle = 1 ∧ s.locked = false)) ∧
    (∀ (s : State) (ini : Initiator) (a : Nat), s.regs.wf = true →
      ((secFault s ini a true).rd (Reg.GLB_CNT 4)).toNat = ((s.rd (Reg.GLB_CNT 4)).toNat + 1) % 2 ^ 32) ∧
    ∀ (x : WriteIn) (s : State) (f : Fn) (a : Nat) (w : Word), reaches s (.pf f) a = true → isStandby s f = true →
      (ownHif f a = false → writeOne x s (.pf f) a w = secFault s (.pf f) a false) ∧
      (ownHif f a = true → writeOne x s (.pf f) a w = writeReg x s (.pf f) a w)

/-- While any ring of a function is RUNNING, WAITING or DRAINING, a write of any value to its HIF_RCT_BASE, HIF_DB_BASE or
HIF_SYS_EQ changes nothing but the clamp count, which advances once. (R101, R53) -/
def Obligations.HeldBases : Prop :=
  ∀ (s : State) (f : Fn) (ini : Initiator) (w : Word) (secure held : Bool), ringsBusy s f = true →
    ∀ a ∈ [Reg.HIF_RCT_BASE_LO (fnIx f), Reg.HIF_RCT_BASE_HI (fnIx f), Reg.HIF_DB_BASE_LO (fnIx f),
      Reg.HIF_DB_BASE_HI (fnIx f), Reg.HIF_SYS_EQ (fnIx f)], writeRw s ini a w secure held = s.clamped

/-- For every row that writes one register, when the hub is awake and the write lands (it is reached, allowed and not
held), the outcome is the register with its W1C and RW fields written and what a write of that register starts, and
then bus and links are served. REGISTER_WRITE has the effect of its write access and each row that reads that of its
read access; an access of BAR4 by an initiator that is not secure counts and reads 0; by a secure one a write changes
nothing and a read returns what the debug SRAM holds, a free value (the spec gives the window no contents). (R47, R48,
R53, R59, R62, R63, R64, R195, R305, R312, R369) -/
def Obligations.RegisterCommandsRun : Prop :=
  (∀ (c : Instr) (r : RegCmd) (s b h x : State), regCmd c = some r → WellFormed.wf c = true → b = start r.t s →
    awake b = true → h = hostTouches b r.ini → r.Lands h →
    x = writeRw (writeW1c h r.addr (r.word b) (isSecure h r.ini)) r.ini r.addr (r.word b) (isSecure h r.ini) false →
    exec c s = .next (ended r.t s (settle (acts r.found x r.addr (h.rd r.addr) (r.word b) (isSecure h r.ini))))) ∧
  (∀ (t : Nat) (s b : State), b = start t s → awake b = true → 
    (∀ (a : Access), 1 ≤ a.size → exec (.registerWrite t a) s =
      .next (ended t s (settle (writeAccess WriteIn.plain b a)))) ∧
    (∀ (a : Access), 1 ≤ a.size → exec (.lowerWordRead t a) s =
      .next (ended t s (readAccess b a))) ∧
    (∀ (a : Access), 1 ≤ a.size → exec (.rcFieldRead t a) s =
      .next (ended t s (readAccess b a))) ∧
    (∀ (a : Access), 1 ≤ a.size → exec (.glbFrameRead t a) s =
      .next (ended t s (readAccess b a))) ∧
    (∀ (a : Access), 1 ≤ a.size → exec (.cenWindowRead t a) s =
      .next (ended t s (readAccess b a))) ∧
    (∀ (ini : Initiator) (addr : BitVec 20), isSecure b ini = false → exec (.bar4Access t ini addr true) s =
      .next (ended t s (secFault b ini addr.toNat true))) ∧
    (∀ (ini : Initiator) (addr : BitVec 20), isSecure b ini = false → exec (.bar4Access t ini addr false) s =
      .next (ended t s ((secFault b ini addr.toNat true).emit (.readData 0)))) ∧
    (∀ (ini : Initiator) (addr : BitVec 20), isSecure b ini = true → exec (.bar4Access t ini addr true) s =
      .next (ended t s (b))) ∧
    (∀ (ini : Initiator) (addr : BitVec 20), isSecure b ini = true → exec (.bar4Access t ini addr false) s =
      .next (ended t s ({ b with freeCtr := b.freeCtr + 1 }.emit (.readData (Config.debugWord b.freeCtr))))))

/-- What the write of a command register starts, with its key and bits: a census, a warm reset, the lock of an Open part,
a scan, an erase, the stores of power set and watch list, a flush, a seal test, a Folio erase, an engine move, the
clearing of vacated hub numbers, a power target, the power of a segment, rate changes, approval and denial of a link
partner, the disconnect of the service port. (R61, R64, R222, R232, R255, R257, R299, R305, R312, R317, R383, R387) -/
def Obligations.WritesStart : Prop :=
  ∀ (x : WriteIn) (s : State) (old w : Word) (secure : Bool),
    acts x s Reg.GLB_PROT_HOLD old w secure = releaseHolds s secure (w.toNat % 2 ^ 14) ∧
    (w.toNat / 65536 = 0xC5A1 → bitOf w.toNat 0 = true → acts x s Reg.GLB_CTRL old w secure = warmReset x s) ∧
    (w.toNat / 65536 ≠ 0xC5A1 → acts x s Reg.GLB_CTRL old w secure = s) ∧
    acts x s Reg.GLB_CENSUS old 1 secure = censusTake s ∧
    acts x s Reg.SEC_LOCK old 1 true = lockHost s ∧ acts x s Reg.SEC_LOCK old w false = s ∧
    (bitOf w.toNat 1 = true → acts x s Reg.NVM_CTRL old w secure = s.setFlag Reg.NVM_STATUS Fld.NVM_STATUS_SCANNING true) ∧
    (w.toNat % 65536 = 0x4E56 → acts x s Reg.NVM_CMD old w true = nvmCommand x s (w.toNat / 2 ^ 28)) ∧
    (w.toNat % 65536 ≠ 0x4E56 → acts x s Reg.NVM_CMD old w secure = s) ∧
    acts x s Reg.FOL_CTRL old 1 secure = folFlush s ∧
    (squallOn s = false → acts x s Reg.FOL_CTRL old 2 true = sealStart s true) ∧
    (w.toNat / 65536 = 0xE5A5 → bitOf w.toNat 0 = true → acts x s Reg.FOL_ERASE old w true = folErase s) ∧
    acts x s Reg.SPW_STORE old 1 secure = storePower s ∧
    (w.toNat % 4 ≠ 3 → acts x s Reg.PWR_CTRL old w secure = wantTarget s (w.toNat % 4)) ∧
    (w.toNat % 4 = 3 → w.toNat / 65536 = 0x7A57 → acts x s Reg.PWR_CTRL old w secure = wantTarget s 3) ∧
    (w.toNat % 4 = 3 → w.toNat / 65536 ≠ 0x7A57 → acts x s Reg.PWR_CTRL old w secure = s) ∧
    (bitOf w.toNat 31 = true → acts x s Reg.PWR_WATCH_INDEX old w secure = storeWatch s (w.toNat % 4096)) ∧
    (bitOf w.toNat 31 = false → acts x s Reg.PWR_WATCH_INDEX old w secure = loadWatch s (w.toNat % 4096)) ∧
    (w.toNat / 65536 = 0x9E3D → w.toNat % 64 < 48 →
      acts x s Reg.LIB_ENGINE_MOVE old w secure = s.atFrame (.engineMove (w.toNat % 64) 4 s.fc.frameNo)) ∧
    (w ≠ 0 → acts x s Reg.LIB_FWD_STATUS old w secure =
      vacatedShow { s with vacated := s.vacated.filter fun v => !bitOf w.toNat v.hub }) ∧
    (bitOf w.toNat 1 = false → acts x s Reg.PDP_CTRL old w secure = frsUpdate (policyCheck s)) ∧
    (bitOf w.toNat 1 = true → acts x s Reg.PDP_CTRL old w secure = errorRecovery (frsUpdate (policyCheck s))) ∧
    (∀ p, p < 48 → acts x s (Reg.SPW_CTRL p) old w secure = onChanged s p (getField old Fld.SPW_CTRL_ON == 1)) ∧
    (∀ l, l < 16 → (s.link l).st = 8 → bitOf w.toNat 1 = true → bitOf w.toNat 2 = false → bitOf w.toNat 3 = false →
      acts x s (Reg.LNK_CTRL l) old w secure = retrain s l) ∧
    ∀ l, l < 16 → bitOf w.toNat 8 = true → bitOf w.toNat 9 = false →
      acts x s (Reg.LNK_POLICY l) old w secure = approveStream s l

/-- For a live ring, an SQ tail that would place more than SIZE entries ahead of the fetch count leaves the previous tail,
and a CQ, EQ or FQ head ahead of the produce count or behind the previous head leaves the previous head; each counts
once. Any other value is taken and changes nothing else. (R77) -/
def Obligations.DoorbellChecks : Prop :=
  ∀ (s : State) (f : Fn) (d : Doorbell), (s.ring f d.ring.toNat).st.live = true →
    (d.ring.toNat < 256 →
      ((s.ring f d.ring.toNat).size < (d.value.toNat + 2 ^ 32 - (s.ring f d.ring.toNat).count) % 2 ^ 32 →
        takeSlot s f d = s.clamped) ∧
      ((d.value.toNat + 2 ^ 32 - (s.ring f d.ring.toNat).count) % 2 ^ 32 ≤ (s.ring f d.ring.toNat).size →
        takeSlot s f d = s.setRing f d.ring.toNat { s.ring f d.ring.toNat with ext := d.value.toNat })) ∧
    (256 ≤ d.ring.toNat →
      (((s.ring f d.ring.toNat).count + 2 ^ 32 - (s.ring f d.ring.toNat).ext) % 2 ^ 32 <
          (d.value.toNat + 2 ^ 32 - (s.ring f d.ring.toNat).ext) % 2 ^ 32 → takeSlot s f d = s.clamped) ∧
      ((d.value.toNat + 2 ^ 32 - (s.ring f d.ring.toNat).ext) % 2 ^ 32 ≤
          ((s.ring f d.ring.toNat).count + 2 ^ 32 - (s.ring f d.ring.toNat).ext) % 2 ^ 32 →
        takeSlot s f d = s.setRing f d.ring.toNat { s.ring f d.ring.toNat with ext := d.value.toNat }))

/-- The ring that a context starts has a size that is a power of two between 16 and 65,536 and not above a SIZE from 16
on, begins at count 0 RUNNING, and for an SQ names a CQ of 256 to 511 with a weight of at least 1; for another ring
its vector is at most 2047 or 0xFFFF and its profile at most 31. (R73, R100) -/
def Obligations.RingContextClamps : Prop :=
  ∀ (i since : Nat) (c : CtxIn),
    (∃ k, (ringFrom i c since).1.size = 2 ^ k) ∧ 16 ≤ (ringFrom i c since).1.size ∧ (ringFrom i c since).1.size ≤ 65536 ∧
    (16 ≤ c.size.toNat → (ringFrom i c since).1.size ≤ c.size.toNat) ∧
    (ringFrom i c since).1.count = 0 ∧ (ringFrom i c since).1.st = .running ∧
    (i < 256 → 256 ≤ (ringFrom i c since).1.cq ∧ (ringFrom i c since).1.cq ≤ 511 ∧ 1 ≤ (ringFrom i c since).1.weight) ∧
    (256 ≤ i → ((ringFrom i c since).1.vector ≤ 2047 ∨ (ringFrom i c since).1.vector = 0xFFFF) ∧
      (ringFrom i c since).1.profile ≤ 31)

/-- The next fetch round is a part of Gale SQs followed by a part of other SQs; each SQ in it is ready: it runs with Bus
Master Enable, its CQ takes completions with a free slot that no completion reserves, and entries wait. No Gale SQ
appears more than 64 times. (R71, R80, R81) -/
def Obligations.FetchOrder : Prop :=
  ∀ (s : State) (f : Fn), s.rings.wf = true →
    (∃ a z, fetchRound s f = a ++ z ∧ (∀ i ∈ a, (s.ring f i).gale = true) ∧ ∀ i ∈ z, (s.ring f i).gale = false) ∧
    (∀ i ∈ fetchRound s f, sqReady s f i = true ∧ (s.fnS f).bme = true ∧ (s.ring f i).st = .running) ∧
    ∀ i, (s.ring f i).gale = true → (fetchRound s f).count i ≤ 64

/-- Writing a completion puts the entry in the CQ that the SQ named when it was fetched, at that CQ's produce count modulo
its size with the phase of that count, advances the count by 1 modulo 2^32 and gives back one reservation. PHASE is 1
during the first pass through the ring and inverts at every wrap. (R80, R91) -/
def Obligations.CompletionSlots : Prop :=
  (∀ (s : State) (d : Desc) (e : CqEntry) (i : Nat), s.rings.wf = true → d.cq = i →
      ((cqWrite s d e).ring d.fn i).count = ((s.ring d.fn i).count + 1) % 2 ^ 32 ∧
      ((cqWrite s d e).ring d.fn i).reserved = (s.ring d.fn i).reserved - 1 ∧
      Out.cq d.fn i ((s.ring d.fn i).count % (s.ring d.fn i).size) ((s.ring d.fn i).phase (s.ring d.fn i).count) d.sq
        { e with sqHead := (s.ring d.fn d.sq).count } ∈ (cqWrite s d e).out) ∧
    (∀ (s : State) (op : Nat) (d : SqEntry) (r : LenRule) (issue : Option Nat),
      (mkDesc s op d r issue).cq = (s.ring d.fn d.sq.toNat).cq) ∧
    ∀ (r : Ring) (c : Nat), 0 < r.size → (c < r.size → r.phase c = true) ∧ r.phase (c + r.size) = !r.phase c

/-- Taking the next SEQ of a TEA gives its count and advances it by 1 modulo 65,536; the counts of all other TEAs, and all
but these counts, stay. That a record which a branch numbered n has at the root n plus what the root itself gave away
for that TEA, and the count goes on from there, is the model's reading (log entry 89). (spec/03_host_rings.md R95) -/
def Obligations.RecordNumbers : Prop :=
  (∀ (s : State) (tea : Nat), s.seqs.wf = true →
    (nextSeq s tea).1 = s.seqs.getD tea 0 ∧ (nextSeq s tea).2.seqs.getD tea 0 = (s.seqs.getD tea 0 + 1) % 65536 ∧
    (∀ x, x ≠ tea → (nextSeq s tea).2.seqs.getD x 0 = s.seqs.getD x 0) ∧
    (nextSeq s tea).2 = { s with seqs := (nextSeq s tea).2.seqs, seqOwn := (nextSeq s tea).2.seqOwn }) ∧
  ∀ (s : State) (tea n : Nat), s.seqs.wf = true → s.seqOwn.wf = true → teaHub tea ≠ s.hubNo →
    (nextSeq s tea).2.seqOwn.getD tea 0 = (s.seqOwn.getD tea 0 + 1) % 65536 ∧
    (branchSeq s tea n).1 = (n + s.seqOwn.getD tea 0) % 65536 ∧
    (branchSeq s tea n).2.seqs.getD tea 0 = ((n + s.seqOwn.getD tea 0) % 65536 + 1) % 65536 ∧
    (branchSeq s tea n).2 = { s with seqs := (branchSeq s tea n).2.seqs }

/-- Each row of the host interface, on an awake hub under the conditions named: ring enable and disable, a kick (a full
doorbell read, at once or due until the hub may read), a sweep in sweep mode, a full read that is due in kick mode, a
failed AtomicOp (kick mode, counted once), Bus Master Enable set and cleared, AtomicOp Requester Enable, an unmasked
vector, a host access error, a host access in Lull, a moderation timeout (its message, its count anew) and the expiry
of the lease. (R71, R76, R78, R79, R99, R100, R102, R105, R319) -/
def Obligations.HostInterfaceRuns : Prop :=
  ∀ (t : Nat) (s b : State), b = start t s → awake b = true → 
    (∀ (fn : Fn) (ring : BitVec 11) (ctx : CtxIn), ring.toNat ≤ 1536 → hostWrites b fn = true → exec (.ringEnable t fn ring ctx) s =
      .next (ended t s (enableRing (lullWake b 2) fn ring.toNat ctx))) ∧
    (∀ (fn : Fn) (ring : BitVec 11), ring.toNat ≤ 1536 → hostWrites b fn = true → exec (.ringDisable t fn ring) s =
      .next (ended t s (disableRing (lullWake b 2) fn ring.toNat))) ∧
    (∀ (fn : Fn) (slots : List Doorbell), (∀ x ∈ slots, x.ring.toNat ≤ 1536) → readsDoorbells (lullWake b 2) fn = true → exec (.kick t fn slots) s =
      .next (ended t s (fullRead (lullWake b 2) fn slots))) ∧
    (∀ (fn : Fn) (slots : List Doorbell), (∀ x ∈ slots, x.ring.toNat ≤ 1536) → readsDoorbells (lullWake b 2) fn = false → hostThere (lullWake b 2) fn = true → isReady (lullWake b 2) = true → exec (.kick t fn slots) s =
      .next (ended t s ((lullWake b 2).modFn fn fun x => { x with kickDue := true }))) ∧
    (∀ (fn : Fn) (words : List SummaryWord) (slots : List Doorbell), (∀ x ∈ slots, x.ring.toNat ≤ 1536) → readsDoorbells b fn = true → kickMode b fn = false → (b.fnS fn).kickDue = false → exec (.doorbellSweep t fn ⟨words, slots⟩) s =
      .next (ended t s (sweep b fn words slots))) ∧
    (∀ (fn : Fn) (words : List SummaryWord) (slots : List Doorbell), (∀ x ∈ slots, x.ring.toNat ≤ 1536) → readsDoorbells b fn = true → kickMode b fn = true → (b.fnS fn).kickDue = true → exec (.doorbellSweep t fn ⟨words, slots⟩) s =
      .next (ended t s (fullRead b fn slots))) ∧
    (∀ (fn : Fn), readsDoorbells b fn = true → kickMode b fn = false → exec (.atomicFail t fn) s =
      .next (ended t s ((((hifErr b fn 2).clamped).setFld (Reg.HIF_CTRL (fnIx fn)) Fld.HIF_CTRL_DB_MODE 1)))) ∧
    (∀ (fn : Fn) (slots : List Doorbell), hostThere b fn = true → (b.fnS fn).bme = false → exec (.busMasterEnable t fn slots) s =
      .next (ended t s (busMasterOn b fn slots))) ∧
    (∀ (fn : Fn), hostThere b fn = true → exec (.busMasterEnableClear t fn) s =
      .next (ended t s (b.modFn fn fun x => { x with bme := false }))) ∧
    (∀ (fn : Fn) (on : Bool), hostThere b fn = true → exec (.atomicopRequesterEnable t fn on) s =
      .next (ended t s (b.modFn fn fun x => { x with atomicEn := on }))) ∧
    (∀ (fn : Fn) (vec : BitVec 11), hostThere b fn = true → exec (.msixUnmask t fn vec) s =
      .next (ended t s (unmask b fn vec.toNat))) ∧
    (∀ (fn : Fn) (w : DmaWhere), hostThere b fn = true → (b.fnS fn).bme = true → exec (.hostDmaError t fn w) s =
      .next (ended t s (hostAccessFails b fn w))) ∧
    (∀ (fn : Fn), chipState b = 2 → exec (.hostTlpInLull t fn) s =
      .next (ended t s (lullWake b 2))) ∧
    (∀ (fn : Fn) (ring : BitVec 11) (t0 : Nat), ring.toNat ≤ 1536 → (b.ring fn ring.toNat).modSince = some t0 → (b.ring fn ring.toNat).modCount ≠ 0 → t0 + b.fld (Reg.HIF_MOD_PROFILE (fnIx fn) (b.ring fn ring.toNat).profile) Fld.HIF_MOD_PROFILE_TIME_US * 1000 ≤ b.fc.now → exec (.interruptModerationTimeout t fn ring) s =
      .next (ended t s (sendMsix (b.setRing fn ring.toNat { b.ring fn ring.toNat with modCount := 0, modSince := none }) fn (b.ring fn ring.toNat).vector))) ∧
    (b.lease.valid = true → b.lease.until_ ≤ b.fc.now → exec (.leaseExpiry t) s =
      .next (ended t s (leaseEvent { b with lease := { b.lease with valid := false, expired := true, switchAt := none } } (leaseData { b with lease := { b.lease with valid := false, expired := true, switchAt := none } } 2 (fnIx (b.lease.holder.getD .pf0)) (fnIx (b.lease.holder.getD .pf0)) 2 0 0 0))))

/-- For each of the 54 descriptor rows: when the hub is awake, the descriptor is fetched now, no FENCE holds it, its
function may run it, R18 rejects nothing, its hub number was not vacated and names this hub, and its SQ takes it, the
outcome is the opcode's own meaning on the state in which the SQ's fetch count has advanced and a completion slot is
reserved. (R18, R80, R81, R83, R84, R85, R104, R105, R254) -/
def Obligations.DescriptorsRun : Prop :=
  ∀ (c : Instr) (q : SqCmd) (s b : State), sqCmd c = some q → WellFormed.wf c = true → b = start q.t s → awake b = true →
    q.Fetches b → q.Runs b →
    exec c s = .next (ended q.t s
      (if q.settles then settle (q.op (q.desc b) (q.taken b)) else q.op (q.desc b) (q.taken b)))

/-- For each descriptor row whose descriptor is fetched and allowed, on a hub that has vacated no hub number: an address
that R18 rejects completes with that status and nothing else of the opcode is done. R18's first rows give DENIED: hub
17 to 31, a broadcast on a link port, a broadcast of any opcode but WRITE_EP and NODE_FW_DISTRIBUTE; NODE_ABSENT is
given to a hub without a branch, and at this hub to a root link's branch port and to a node that is not there. A
descriptor that standby does not allow completes DENIED while its function may not execute; that this also holds while
no lease is valid yet is the model's reading (log entry 33). (R18, R85, spec/03_host_rings.md (R104, R105)) -/
def Obligations.DescriptorsTurnedAway : Prop :=
  (∀ (c : Instr) (q : SqCmd) (s b : State) (st : Status), sqCmd c = some q → WellFormed.wf c = true → b = start q.t s →
      awake b = true → q.Fetches b → ((q.rule b).standby = true ∨ mayExecute (q.taken b) q.d.fn = true) →
      (q.taken b).vacated = [] → addrStatus (q.taken b) (q.rule b).opcode q.d.tea.toNat = some st →
      exec c s = .next (ended q.t s
        (if q.settles then settle (complete (q.taken b) (q.desc b) st) else complete (q.taken b) (q.desc b) st))) ∧
    (∀ (c : Instr) (q : SqCmd) (s b : State), sqCmd c = some q → WellFormed.wf c = true → b = start q.t s → awake b = true →
      q.Fetches b → (q.rule b).standby = false → mayExecute (q.taken b) q.d.fn = false →
      exec c s = .next (ended q.t s (if q.settles then settle (complete (q.taken b) (q.desc b) Status.denied)
        else complete (q.taken b) (q.desc b) Status.denied))) ∧
    (∀ (s : State) (op tea : Nat), 17 ≤ teaHub tea → addrStatus s op tea = some Status.denied) ∧
    (∀ (s : State) (op tea : Nat), teaNode tea = 255 → 48 ≤ teaPort tea → addrStatus s op tea = some Status.denied) ∧
    (∀ (s : State) (op tea : Nat), teaNode tea = 255 → op ≠ 1 → op ≠ 0x1B → addrStatus s op tea = some Status.denied) ∧
    (∀ (s : State) (op tea : Nat), teaHub tea < 17 → teaNode tea ≠ 255 → teaHub tea ≠ hubOf s → branchThere s (teaHub tea) = false →
      addrStatus s op tea = some Status.nodeAbsent) ∧
    ∀ (s : State) (op tea : Nat), teaHub tea < 17 → teaHub tea = hubOf s → teaPort tea < 48 → 1 ≤ teaNode tea →
      teaNode tea ≤ 254 → nodeThere s (teaPort tea) (teaNode tea) = false → addrStatus s op tea = some Status.nodeAbsent

/-- A NOP that runs completes DONE and does nothing else; an opcode outside the table completes INERT; LEASE_RENEW and
ROLE_TAKE on a hub that is not in the dual-host role complete DONE without effect. (R84, R85, R90) -/
def Obligations.SimpleCompletions : Prop :=
  ∀ (t : Nat) (d : SqEntry) (s b : State), b = start t s → awake b = true →
    (∀ q, sqCmd (.nop t d) = some q → q.Fetches b → q.Runs b →
      exec (.nop t d) s = .next (ended t s (complete (q.taken b) (q.desc b) Status.done))) ∧
    (∀ (op : Byte) q, WellFormed.wf (.unknownOpcode t d op) = true → sqCmd (.unknownOpcode t d op) = some q → q.Fetches b → q.Runs b →
      exec (.unknownOpcode t d op) s = .next (ended t s (complete (q.taken b) (q.desc b) Status.inert))) ∧
    (∀ q, isDual b = false → sqCmd (.leaseRenew t d) = some q → q.Fetches b → q.Runs b →
      exec (.leaseRenew t d) s = .next (ended t s (complete (q.taken b) (q.desc b) Status.done))) ∧
    ∀ (left : List Unfetched) (heads : List Doorbell) q, isDual b = false → sqCmd (.roleTake t d ⟨left, heads⟩) = some q →
      q.Fetches b → q.Runs b →
      exec (.roleTake t d ⟨left, heads⟩) s = .next (ended t s (complete (q.taken b) (q.desc b) Status.done))

/-- The length of a descriptor after fetch is never above the LENGTH asked, the opcode's maximum or, where the buffer of
the endpoint limits it, 64 bytes a granule; with DATA_ADDR 0 it is at most 40 for an opcode with inline data and 0 for
another; within all limits it is LENGTH itself. Each clamped descriptor is marked once. (R84) -/
def Obligations.LengthClamps : Prop :=
  ∀ (s : State) (opcode : Nat) (d : SqEntry) (r : LenRule) (issue : Option Nat),
    (mkDesc s opcode d r issue).len = effLength s d r ∧ effLength s d r ≤ d.length.toNat ∧ effLength s d r ≤ r.max ∧
    ((s.ep (ctxKey s d.tea.toNat)).enabled = true →
      epBuffer s d.tea.toNat = some ((s.ep (ctxKey s d.tea.toNat)).granules * 64)) ∧
    (∀ n, r.buffer = true → epBuffer s d.tea.toNat = some n → effLength s d r ≤ n) ∧ (r.used = false → effLength s d r = 0) ∧
    (d.dataAddr = 0 → r.inline = true → effLength s d r ≤ 40) ∧ (d.dataAddr = 0 → r.inline = false → effLength s d r = 0) ∧
    (r.used = true → d.dataAddr ≠ 0 → d.length.toNat ≤ r.max →
      (∀ n, r.buffer = true → epBuffer s d.tea.toNat = some n → d.length.toNat ≤ n) → effLength s d r = d.length.toNat) ∧
    ((mkDesc s opcode d r issue).clampDone = true ↔ r.used = true ∧ effLength s d r ≠ d.length.toNat)

/-- Step 1 of the interval rule: a non-zero interval becomes a grid value (125, 250, 500 µs or 1 to 65,535 ms), not above
the request from 125 µs on, and the largest such one; a request above 65,535 ms becomes 65,535 ms and a non-zero one
below 125 µs becomes 125 µs. (spec/01_tree.md R26 step 1) -/
def Obligations.IntervalGrid : Prop :=
  ∀ us : Nat, 1 ≤ us →
    OnGrid (askedUs us) ∧ (us < 125 → askedUs us = 125) ∧ (65535000 < us → askedUs us = 65535000) ∧
    (125 ≤ us → askedUs us ≤ us ∧ ∀ g, OnGrid g → g ≤ us → g ≤ askedUs us)

/-- Each timer row of a segment under the conditions named: a keepalive to a node that is there, a discovery sweep and its
repeat on a running segment, the expiry of a reply window as a failed attempt, a control transfer that failed for 500
ms and bulk transfers NAKed for 5 s as NO_RESPONSE, and the end of RESUME after 2 ms. Each row of its line: a foreign
frame, a current step or drop, a remote wake of a suspended segment where no RESET to a waking node waits (nodes with
wake enabled are asked first, the segment wakes at the next frame boundary, Lull ends), a line fault on JVR-P3 (noted,
raised, the window closed) and its end. What the waking nodes are is the model's reading (log entry 88). (R131, R133,
R136, R140, R142, R154, R157, R158, R178, R319) -/
def Obligations.FieldTimersRun : Prop :=
  ∀ (t : Nat) (s b : State), b = start t s → awake b = true → 
    (∀ (port : Nat) (node : Byte), vfpPort port = true → nodeThere b port node.toNat = true → exec (.nodeKeepalive t port node) s =
      .next (ended t s (settle (keepalive b port node.toNat)))) ∧
    (∀ (port : Nat), segPort port = true → segRuns b port = true → exec (.discoverSweep t port) s =
      .next (ended t s (settle (b.modSeg port fun x => { x with sweepDue := true })))) ∧
    (∀ (port f : Nat), segPort port = true → (b.seg port).repeatAt = some f → f ≤ b.fc.frameNo → segRuns b port = true → exec (.discoverRepeat t port) s =
      .next (ended t s (settle (b.modSeg port fun x => { x with sweepDue := true, repeatAt := none })))) ∧
    (∀ (port : Nat) (x : Txn) (rest : List Txn), vfpPort port = true → (48 ≤ port → ((b.link (port - 48)).held.any fun h => h.msg.mtype == 0x20) = false) → (b.seg port).cur = x :: rest → exec (.replyWindowExpiry t port) s =
      .next (ended t s (settle (failAttempt b port x)))) ∧
    (∀ (port : Nat) (node : Byte) (c : Ctl) (since : Nat), vfpPort port = true → runningCtl b port node.toNat = some c → c.started = some since → since + 500000000 ≤ b.fc.now → exec (.controlTimeout t port node) s =
      .next (ended t s (settle (ctlFailed b port c Status.noResponse)))) ∧
    (∀ (port : Nat), vfpPort port = true → exec (.bulkNakTimeout t port) s =
      .next (ended t s (settle (forEach ((b.seg port).bulks.filter fun x => match x.first with | some f => x.naked && decide (f + 5000000000 ≤ b.fc.now) | none => false) b fun s x => completeId (dropBulk s port x.desc) x.desc Status.noResponse)))) ∧
    (∀ (port since : Nat), segPort port = true → (b.seg port).resumeBegun = some since → (b.seg port).st = 2 → since + 2000000 ≤ b.fc.now → exec (.resumeEnd t port) s =
      .next (ended t s (b.modSeg port fun x => { x with resumeOver := true }))) ∧
    (∀ (port : Nat), segPort port = true → (b.seg port).st ≠ 0 → exec (.foreignFrame t port) s =
      .next (ended t s (foreignFrame b port))) ∧
    (∀ (port : Nat), segPort port = true → exec (.currentStep t port) s =
      .next (ended t s (stepSeen b port))) ∧
    (∀ (port : Nat), segPort port = true → exec (.currentDrop t port) s =
      .next (ended t s (settle (dropSeen b port)))) ∧
    (∀ (port : Nat), segPort port = true → (b.seg port).st = 4 → ((b.seg port).tokens.filter fun k => k.tok == Tok.reset && (k.node == 255 || memNat (wakers b port) k.node)) = [] → exec (.remoteWake t port) s =
      .next (ended t s (lullWake (((forEach (wakers b port) b fun s n => s.modNode (nodeKey port n) fun m => { m with wakeFirst := true }).modSeg port fun g => { g with woken := true }).atFrame (.wakeSeg port)) 4))) ∧
    (∀ (port : Nat), segPort port = true → (b.seg port).st ≠ 0 → segGen b port = 3 → exec (.lineFault t port) s =
      .next (ended t s (settle (endWindow (segInt (b.modSeg port fun x => { x with faulted := true }) port 3) port)))) ∧
    (∀ (port : Nat), segPort port = true → exec (.lineFaultEnd t port) s =
      .next (ended t s (b.modSeg port fun x => { x with faulted := false })))

/-- Each reply row on an awake hub hands its frame to its segment. A frame that reads as a good reply of its type from the
node of a transaction that waits, its trailer right, while the segment runs without a line fault, has the effect of
that reply. A HELLO in a sweep is judged for its slot; during a RESUME it is held for the burst that follows; a frame
of a stream node on an UP link has the effect of any reply on its link port. (R113, R121, R124, R125, R128, R129,
R135, R144, R159, R231) -/
def Obligations.FieldRepliesRun : Prop :=
  ∀ (t : Nat) (s b : State), b = start t s → awake b = true → 
    (∀ (port : Nat) (f : RxFrame), segPort port = true → exec (.cov t port f) s =
      .next (ended t s (settle (frameIn b port f 1)))) ∧
    (∀ (port : Nat) (f : RxFrame) (authOk keyEdge sigEdge : Bool), segPort port = true → exec (.data t port f authOk keyEdge sigEdge) s =
      .next (ended t s (settle (frameIn b port f (authVerdict authOk keyEdge sigEdge))))) ∧
    (∀ (port : Nat) (f : RxFrame), segPort port = true → exec (.ack t port f) s =
      .next (ended t s (settle (frameIn b port f 1)))) ∧
    (∀ (port : Nat) (f : RxFrame), segPort port = true → exec (.nyet t port f) s =
      .next (ended t s (settle (frameIn b port f 1)))) ∧
    (∀ (port : Nat) (f : RxFrame), segPort port = true → exec (.nak t port f) s =
      .next (ended t s (settle (frameIn b port f 1)))) ∧
    (∀ (port : Nat) (f : RxFrame), segPort port = true → exec (.stall t port f) s =
      .next (ended t s (settle (frameIn b port f 1)))) ∧
    (∀ (port : Nat) (f : RxFrame) (x : Txn) (v : Vfp), segPort port = true → (b.seg port).st ≠ 0 → (b.seg port).lost = false → (b.seg port).faulted = false → readReply (padding b port) f.bytes = .ok v → (b.seg port).cur.find? (fun x => x.node == v.node) = some x → trailerOf (b.node (nodeKey port x.node)) v f.tagOk = .fine → v.ftype = 5 → exec (.cov t port f) s =
      .next (ended t s (settle (takeCovFrame (heard b port x v) port x v f.since)))) ∧
    (∀ (port : Nat) (f : RxFrame) (x : Txn) (v : Vfp) (authOk keyEdge sigEdge : Bool), segPort port = true → (b.seg port).st ≠ 0 → (b.seg port).lost = false → (b.seg port).faulted = false → readReply (padding b port) f.bytes = .ok v → (b.seg port).cur.find? (fun x => x.node == v.node) = some x → trailerOf (b.node (nodeKey port x.node)) v f.tagOk = .fine → v.ftype = 0 → exec (.data t port f authOk keyEdge sigEdge) s =
      .next (ended t s (settle (takeData (heard b port x v) port x v (authVerdict authOk keyEdge sigEdge))))) ∧
    (∀ (port : Nat) (f : RxFrame) (x : Txn) (v : Vfp), segPort port = true → (b.seg port).st ≠ 0 → (b.seg port).lost = false → (b.seg port).faulted = false → readReply (padding b port) f.bytes = .ok v → (b.seg port).cur.find? (fun x => x.node == v.node) = some x → trailerOf (b.node (nodeKey port x.node)) v f.tagOk = .fine → v.ftype = 1 → exec (.ack t port f) s =
      .next (ended t s (settle (takeHandshake (heard b port x v) port x v false)))) ∧
    (∀ (port : Nat) (f : RxFrame) (x : Txn) (v : Vfp), segPort port = true → (b.seg port).st ≠ 0 → (b.seg port).lost = false → (b.seg port).faulted = false → readReply (padding b port) f.bytes = .ok v → (b.seg port).cur.find? (fun x => x.node == v.node) = some x → trailerOf (b.node (nodeKey port x.node)) v f.tagOk = .fine → v.ftype = 3 → exec (.nyet t port f) s =
      .next (ended t s (settle (takeHandshake (heard b port x v) port x v true)))) ∧
    (∀ (port : Nat) (f : RxFrame) (x : Txn) (v : Vfp), segPort port = true → (b.seg port).st ≠ 0 → (b.seg port).lost = false → (b.seg port).faulted = false → readReply (padding b port) f.bytes = .ok v → (b.seg port).cur.find? (fun x => x.node == v.node) = some x → trailerOf (b.node (nodeKey port x.node)) v f.tagOk = .fine → v.ftype = 2 → exec (.nak t port f) s =
      .next (ended t s (settle (takeNak (heard b port x v) port x)))) ∧
    (∀ (port : Nat) (f : RxFrame) (x : Txn) (v : Vfp), segPort port = true → (b.seg port).st ≠ 0 → (b.seg port).lost = false → (b.seg port).faulted = false → readReply (padding b port) f.bytes = .ok v → (b.seg port).cur.find? (fun x => x.node == v.node) = some x → trailerOf (b.node (nodeKey port x.node)) v f.tagOk = .fine → v.ftype = 4 → exec (.stall t port f) s =
      .next (ended t s (settle (takeStall (heard b port x v) port x)))) ∧
    (∀ (port : Nat) (slot : BitVec 4) (f : RxFrame), segPort port = true → (b.seg port).st ≠ 0 → (b.seg port).st ≠ 2 → (b.seg port).sweeping.isSome = true → (b.seg port).cur = [] → exec (.hello t port slot f) s =
      .next (ended t s (settle (sweepLonger (takeHello b port slot.toNat (readReply (padding b port) f.bytes)) port 672)))) ∧
    (∀ (port : Nat) (slot : BitVec 4) (f : RxFrame), segPort port = true → (b.seg port).st = 2 → exec (.hello t port slot f) s =
      .next (ended t s (settle (b.modSeg port fun x => { x with stepHeld := true })))) ∧
    (∀ (link : BitVec 4) (f : RxFrame), (b.link link.toNat).cls = 3 → (b.link link.toNat).st = 8 → exec (.vfpMessage t link f) s =
      .next (ended t s (settle (anyReply b (48 + link.toNat) f 1))))

/-- Each row of the state of a link on an awake hub (the upstream link only on a branch) under the conditions named has
its effect on u, the state after what a marker has brought since: the link's next state, lanes, replay or the loss of
the link with its cause. That marker instants act at the link's next command is the model's choice (log entry 92).
(R198, R199, R201, R204, R212, R222, R223, R224, R225, R226, R227, R228) -/
def Obligations.LinkStatesRun : Prop :=
  ∀ (t : Nat) (s b : State), b = start t s → awake b = true → 
    (∀ (link : BitVec 5) (u : State) (rates : BitVec 4), link.toNat ≤ 16 → (link.toNat = upLink → isBranch b = true) → u = markersDue b link.toNat → exec (.linkPresence t ⟨link, rates⟩) s =
      .next (ended t s (quadWake (presenceSeen u link.toNat rates.toNat) link.toNat))) ∧
    (∀ (link : BitVec 5) (u : State) (lp : Byte), link.toNat ≤ 16 → (link.toNat = upLink → isBranch b = true) → u = markersDue b link.toNat → exec (.autonegComplete t link lp) s =
      .next (ended t s (autonegDone u link.toNat lp.toNat))) ∧
    (∀ (link : BitVec 5) (u : State), link.toNat ≤ 16 → (link.toNat = upLink → isBranch b = true) → u = markersDue b link.toNat → exec (.c2mRateTrialTimeout t link) s =
      .next (ended t s (trialOver u link.toNat))) ∧
    (∀ (link : BitVec 5) (u : State) (txeq : List Word), link.toNat ≤ 16 → (link.toNat = upLink → isBranch b = true) → u = markersDue b link.toNat → (u.link link.toNat).st = 4 → exec (.trainingComplete t link txeq) s =
      .next (ended t s (linkTo (if link.toNat = upLink then u else forEach ((List.range (u.link link.toNat).width).zip txeq) u fun s x => s.wr (Reg.LNK_LANE_TXEQ link.toNat x.1) x.2) link.toNat 5))) ∧
    (∀ (link : BitVec 5) (u : State), link.toNat ≤ 16 → (link.toNat = upLink → isBranch b = true) → u = markersDue b link.toNat → (u.link link.toNat).st = 4 → exec (.trainingTimeout t link) s =
      .next (ended t s (toNegotiate u link.toNat))) ∧
    (∀ (link : BitVec 5) (u : State) (m : MarkerIn), link.toNat ≤ 16 → (link.toNat = upLink → isBranch b = true) → u = markersDue b link.toNat → exec (.markerLock t link m) s =
      .next (ended t s (settle (laneLocked u link.toNat m)))) ∧
    (∀ (link : BitVec 5) (u : State) (since : Nat), link.toNat ≤ 16 → (link.toNat = upLink → isBranch b = true) → u = markersDue b link.toNat → (u.link link.toNat).presentAt = some since → (u.link link.toNat).presence = true → 2 ≤ (u.link link.toNat).st → (u.link link.toNat).st ≤ 7 → (u.link link.toNat).noPartner = false → since + 5000000000 ≤ u.fc.now → exec (.noPartnerTimeout t link) s =
      .next (ended t s (startLink ((linkEvent u link.toNat 0x0F).modLink link.toNat fun k => { k with noPartner := true, downAt := some (linkEvent u link.toNat 0x0F).fc.now }) link.toNat))) ∧
    (∀ (link : BitVec 5) (u : State) (lane : BitVec 2) (los : Bool), link.toNat ≤ 16 → (link.toNat = upLink → isBranch b = true) → u = markersDue b link.toNat → exec (.laneFail t link lane los) s =
      .next (ended t s (settle (laneFailed u link.toNat lane.toNat los)))) ∧
    (∀ (link : BitVec 5) (u : State), link.toNat ≤ 16 → (link.toNat = upLink → isBranch b = true) → u = markersDue b link.toNat → (u.link link.toNat).st = 8 → (u.link link.toNat).failed ≠ 0 → exec (.laneRejoinAttempt t link) s =
      .next (ended t s (lanesBack (u.emit (.train link.toNat (u.link link.toNat).failed)) link.toNat))) ∧
    (∀ (link : BitVec 5) (u : State), link.toNat ≤ 16 → (link.toNat = upLink → isBranch b = true) → u = markersDue b link.toNat → exec (.replayTimeout t link) s =
      .next (ended t s (replayTimeout u link.toNat))) ∧
    (∀ (link : BitVec 5) (u : State), link.toNat ≤ 16 → (link.toNat = upLink → isBranch b = true) → u = markersDue b link.toNat → (u.link link.toNat).st = 8 → (u.link link.toNat).lastFlit + 100000 ≤ u.fc.now → exec (.noFlitsTimeout t link) s =
      .next (ended t s (settle (linkDown u link.toNat 3)))) ∧
    (∀ (link : BitVec 5) (u : State), link.toNat ≤ 16 → (link.toNat = upLink → isBranch b = true) → u = markersDue b link.toNat → exec (.presenceLost t link) s =
      .next (ended t s (settle (presenceGone u link.toNat)))) ∧
    (∀ (link : BitVec 5) (u : State) (due : Nat), link.toNat ≤ 16 → (link.toNat = upLink → isBranch b = true) → u = markersDue b link.toNat → (u.link link.toNat).st = 9 → (u.link link.toNat).downAt = some due → due ≤ u.fc.now → exec (.rateChangeTimeout t link) s =
      .next (ended t s (settle (linkDown u link.toNat 4)))) ∧
    (∀ (link : BitVec 4) (fn : Fn) (sq : BitVec 8) (tag : Word), exec (.linkHoldTimeout t link fn sq tag) s =
      .next (ended t s (settle (holdTimeout b link.toNat fn sq.toNat tag.toNat)))) ∧
    (∀ (link : BitVec 4), exec (.cplHoldExpiry t link) s =
      .next (ended t s (settle (cplHoldOver b link.toNat)))) ∧
    (∀ (link : BitVec 5) (u : State), link.toNat ≤ 16 → (link.toNat = upLink → isBranch b = true) → u = markersDue b link.toNat → exec (.goodbyeDrainEnd t link) s =
      .next (ended t s (settle (drainEnds u link.toNat)))) ∧
    (∀ (link : BitVec 5) (u : State), link.toNat ≤ 16 → (link.toNat = upLink → isBranch b = true) → u = markersDue b link.toNat → exec (.calibrationComplete t link) s =
      .next (ended t s (calibrated u link.toNat)))

/-- Each message row on an awake hub has the effect of that message on its link (on u, the state after what a marker has
brought since, log entry 92): flits, NAK, initial credits, rate steps, lanes, goodbye, identity and authentication,
descriptors at a branch, completions, records and faults from a branch, role and parameters of a branch that has
framed, streams and their timeouts; gust messages (on a branch SUBSCRIBE and UNSUBSCRIBE list and unlist an endpoint,
DEPOSIT keeps the 32 bytes of a rule whose target is on this hub while there is room, WITHDRAW removes it, and
GST_STATUS shows it); TIME_SYNC sent by the root and taken by a branch that has framed, TIME_REPLY, and 5 ms without
TIME_SYNC as HOLDOVER. (R209, R211, R212, R216, R217, R219, R220, R221, R233, R269, R272, R278) -/
def Obligations.LinkMessagesRun : Prop :=
  ∀ (t : Nat) (s b : State), b = start t s → awake b = true → 
    (∀ (link : BitVec 5) (u : State) (f : Flit), link.toNat ≤ 16 → (link.toNat = upLink → isBranch b = true) → u = markersDue b link.toNat → f.bytes.length = 256 → exec (.flitReceived t link f) s =
      .next (ended t s (settle (flitIn u link.toNat f)))) ∧
    (∀ (link : BitVec 5) (u : State) (seq : BitVec 12), link.toNat ≤ 16 → (link.toNat = upLink → isBranch b = true) → u = markersDue b link.toNat → exec (.llctlNak t link seq) s =
      .next (ended t s (settle (takeNakFlit u link.toNat seq.toNat)))) ∧
    (∀ (link : BitVec 5) (u : State) (c0 c1 c2 c3 : BitVec 12), link.toNat ≤ 16 → (link.toNat = upLink → isBranch b = true) → u = markersDue b link.toNat → exec (.creditInit t link c0 c1 c2 c3) s =
      .next (ended t s (settle (takeCreditInit u link.toNat [c0.toNat, c1.toNat, c2.toNat, c3.toNat])))) ∧
    (∀ (link : BitVec 5) (u : State) (rate : BitVec 3) (marker : Word), link.toNat ≤ 16 → (link.toNat = upLink → isBranch b = true) → u = markersDue b link.toNat → (u.link link.toNat).st = 8 → exec (.rateStep t link rate marker) s =
      .next (ended t s (rateChange u link.toNat rate.toNat marker.toNat))) ∧
    (∀ (link : BitVec 5) (u : State) (lanes : BitVec 4), link.toNat ≤ 16 → (link.toNat = upLink → isBranch b = true) → u = markersDue b link.toNat → exec (.laneDrop t link lanes) s =
      .next (ended t s (lanesDropped u link.toNat lanes.toNat))) ∧
    (∀ (link : BitVec 5) (u : State) (lanes : BitVec 4) (marker : Word), link.toNat ≤ 16 → (link.toNat = upLink → isBranch b = true) → u = markersDue b link.toNat → (u.link link.toNat).st = 8 → (u.link link.toNat).failed ≠ 0 → lanes.toNat = laneMask (u.link link.toNat).width → exec (.laneRejoin t link lanes marker) s =
      .next (ended t s (lanesRejoin u link.toNat marker.toNat))) ∧
    (∀ (link : BitVec 5) (u : State) (cause : Byte), link.toNat ≤ 16 → (link.toNat = upLink → isBranch b = true) → u = markersDue b link.toNat → ((u.link link.toNat).st = 8 ∨ (u.link link.toNat).st = 9) → exec (.goodbye t link cause) s =
      .next (ended t s (settle (linkDown u link.toNat 5)))) ∧
    (∀ (link : BitVec 5) (u : State) (x : LidBody), link.toNat ≤ 16 → (link.toNat = upLink → isBranch b = true) → u = markersDue b link.toNat → exec (.lid t link x) s =
      .next (ended t s (takeLid u link.toNat x))) ∧
    (∀ (link : BitVec 5) (u : State) (x : LauthBody), link.toNat ≤ 16 → (link.toNat = upLink → isBranch b = true) → u = markersDue b link.toNat → exec (.lauth t link x) s =
      .next (ended t s (takeLauth u link.toNat x))) ∧
    (∀ (opcode : Byte) (d : SqEntry) (ok : Bool) (age : Option Nat), isBranch b = true → exec (.desc t opcode ⟨d, age⟩ ok) s =
      .next (ended t s (settle (descIn b opcode.toNat d ok age)))) ∧
    (∀ (link : BitVec 4) (fn : Fn) (sq : BitVec 8) (e : CqEntry) (bytes : List Byte), exec (.cpl t link fn sq ⟨e, bytes⟩) s =
      .next (ended t s (settle (takeCpl b link.toNat fn sq.toNat e bytes)))) ∧
    (∀ (link : BitVec 4) (gen : BitVec 2) (rs : List EqRecord), fromBranch b link.toNat = true → exec (.record t link gen rs) s =
      .next (ended t s (forEach rs b fun s r => takeRecord s gen.toNat r))) ∧
    (∀ (link : BitVec 4) (fn : Fn) (r : FqRecord), fromBranch b link.toNat = true → exec (.fault t link fn r) s =
      .next (ended t s (takeFault b fn r))) ∧
    (∀ (hub : BitVec 5) (frame : Word) (ftime : Nat) (p : UpParams), isBranch b = true → (b.link upLink).st = 6 → (b.link upLink).authDone = true → b.neverFramed = false → exec (.role t hub frame ftime p) s =
      .next (ended t s (takeRole b hub.toNat frame.toNat p))) ∧
    (∀ (p : UpParams), isBranch b = true → exec (.config t p) s =
      .next (ended t s (storeParams b p))) ∧
    (∀ (link : BitVec 4) (accepted : Bool), exec (.roleAck t link accepted) s =
      .next (ended t s (settle (takeRoleAck b link.toNat accepted)))) ∧
    (∀ (link : BitVec 4) (tag : BitVec 16) (ep : BitVec 5) (bytes : List Byte), exec (.stream t link tag ep bytes) s =
      .next (ended t s (settle (streamIn b link.toNat tag.toNat bytes)))) ∧
    (∀ (link : BitVec 4) (tag : BitVec 16) (stalled : Bool), exec (.streamAck t link tag stalled) s =
      .next (ended t s (settle (streamEnds b link.toNat tag.toNat (if stalled then Status.stalled else Status.done))))) ∧
    (∀ (link : BitVec 4) (tag : BitVec 16), exec (.grantTimeout t link tag) s =
      .next (ended t s (settle (grantOver b link.toNat tag.toNat)))) ∧
    (∀ (link : BitVec 4) (tag : BitVec 16), exec (.streamAckTimeout t link tag) s =
      .next (ended t s (settle (streamEnds b link.toNat tag.toNat Status.noResponse)))) ∧
    (∀ (link : BitVec 4) (tea : BitVec 24) (cap : Nat) (bytes : List Byte), exec (.gustSense t link tea cap bytes) s =
      .next (ended t s (settle (takeSense b link.toNat tea.toNat cap bytes)))) ∧
    (∀ (tea : BitVec 24) (ra : BitVec 21) (gale : Bool) (cap : Nat) (bytesMask : Byte) (bytes : List Byte), exec (.gustAct t tea ra gale cap bytesMask bytes) s =
      .next (ended t s (settle (takeAct b tea.toNat ra.toNat gale cap bytesMask.toNat bytes)))) ∧
    (∀ (tea : BitVec 24) (gale : Bool), isBranch b = true → exec (.gustSubscribe t tea gale) s =
      .next (ended t s (gustShow { b with subs := b.subs.insert tea.toNat gale }))) ∧
    (∀ (tea : BitVec 24), isBranch b = true → exec (.gustUnsubscribe t tea) s =
      .next (ended t s (gustShow { b with subs := b.subs.erase tea.toNat }))) ∧
    (∀ (ra : BitVec 21) (rule : BitVec 256), isBranch b = true → teaHub (leAt (leBytes 32 rule.toNat) 20 3) = hubOf b → (b.deposits.length < 4096 ∨ (b.deposits.find ra.toNat).isSome = true) → exec (.gustDeposit t ra rule) s =
      .next (ended t s (gustShow { b with deposits := b.deposits.insert ra.toNat (leBytes 32 rule.toNat) }))) ∧
    (∀ (ra : BitVec 21), isBranch b = true → exec (.gustWithdraw t ra) s =
      .next (ended t s (gustShow { b with deposits := b.deposits.erase ra.toNat }))) ∧
    (∀ (link : BitVec 4) (tea : BitVec 24) (ra : BitVec 21) (outcome : Byte) (at_ : Nat), exec (.gustResult t link tea ra outcome at_) s =
      .next (ended t s (takeResult b link.toNat tea.toNat ra.toNat outcome.toNat at_))) ∧
    (∀ (link : BitVec 4), exec (.timeSyncSend t link) s =
      .next (ended t s (sendSync b link.toNat))) ∧
    (∀ (m : SyncMsg), m.frame < 2 ^ 32 → isBranch b = true → ((b.link upLink).st = 7 ∨ (b.link upLink).st = 8) → b.neverFramed = false → exec (.timeSync t m) s =
      .next (ended t s (takeSync b m))) ∧
    (∀ (link : BitVec 4) (m : ReplyMsg), exec (.timeReply t link m) s =
      .next (ended t s (settle (takeReply b link.toNat m)))) ∧
    (∀ (seen : Nat), b.tt.syncSeen = some seen → isBranch b = true → seen + 5000000 ≤ b.fc.now → (b.tt.own = .acquiring ∨ b.tt.own = .locked) → exec (.timeSyncLoss t) s =
      .next (ended t s (toHoldover b)))

/-- Moving tree time to a later instant without wrapping adds the elapsed time and a part of the pending slew: the part
has the sign of what is left, is at most SLEW_MAX µs a second of the elapsed time and at most what is left, and what
is left shrinks by exactly the part. With SLEW_MAX below 1 s a second tree time never runs backward. (R285) -/
def Obligations.SlewBound : Prop :=
  ∀ (tt : TreeTime) (slewMax now : Nat), tt.takenAt ≤ now →
    ∃ part : Int, (tt.to slewMax now).slewLeft = tt.slewLeft - part ∧ (tt.to slewMax now).takenAt = now ∧
      (tt.to slewMax now).time = ofSigned 80 ((tt.time : Int) + ((now - tt.takenAt) * 65536 : Nat) + part) ∧
      part.natAbs ≤ (now - tt.takenAt) * slewMax * 65536 / 1000000 ∧ part.natAbs ≤ tt.slewLeft.natAbs ∧
      (0 ≤ tt.slewLeft → 0 ≤ part) ∧ (tt.slewLeft ≤ 0 → part ≤ 0) ∧
      (slewMax ≤ 1000000 → (0 : Int) ≤ ((now - tt.takenAt) * 65536 : Nat) + part)

/-- Each row of tree time while the chip is not off, under the conditions named: a PTM exchange of the active function
measured or failed, a pulse with a known second measured, its loss as HOLDOVER, a ZDA sentence (the first of its
second noted, the next that agrees giving the count of seconds, one that agrees with the count changing nothing, one
that contradicts it reported), the expiry of holdover, the end of a slew, the pulse on PPS_OUT and its fall, the loss
and return of the reference. (R278, R280, R281, R285, R287, R393) -/
def Obligations.TimeRuns : Prop :=
  ∀ (t : Nat) (s b : State), b = start t s → b.pw.off = false →
    (∀ (fn : Fn) (o : Int), isBranch b = false → timeSource b = 1 → activeFn b = some fn → exec (.ptmExchange t fn (some o)) s =
      .next (ended t s (measure (b.modTt fun x => { x with ptmFails := 0 }) (o * 65536)))) ∧
    (∀ (fn : Fn), isBranch b = false → timeSource b = 1 → activeFn b = some fn → b.tt.ptmFails < 2 → exec (.ptmExchange t fn none) s =
      .next (ended t s (b.modTt fun x => { x with ptmFails := b.tt.ptmFails + 1 }))) ∧
    (∀ (sec : Nat), isBranch b = false → timeSource b = 0 → pulseExpected b = true → (pulseTaken b).tt.second = some sec → exec (.ppsInEdge t (b.flag Reg.TIM_CTRL Fld.TIM_CTRL_PPS_IN_FALLING)) s =
      .next (ended t s (measure (pulseTaken b) ((sec * 1000000000 * 65536 : Nat) - ((pulseTaken b).tt.time : Int))))) ∧
    (∀ (p : Nat), b.tt.lastPulse = some p → isBranch b = false → timeSource b = 0 → p + 1500000000 ≤ b.fc.now → b.tt.everMeasured = true → (b.tt.own = .acquiring ∨ b.tt.own = .locked) → exec (.ppsLoss t) s =
      .next (ended t s (toHoldover b))) ∧
    (∀ (utc ms tai : Nat), isBranch b = false → timeSource b = 0 → 100 ≤ ms → ms ≤ 900 → b.tt.lastPulse.isSome = true → tai = ((utc : Int) + toSigned 16 (b.fld Reg.TIM_LEAP Fld.TIM_LEAP_TAI_UTC)).toNat → b.tt.second = none → b.tt.zdaSecond = some tai → 1 ≤ b.tt.zdaAgree → exec (.zdaSentence t utc true ms) s =
      .next (ended t s (b.modTt fun x => { x with zdaSecond := some tai, zdaAgree := b.tt.zdaAgree + 1, second := some tai }))) ∧
    (∀ (utc ms tai : Nat), isBranch b = false → timeSource b = 0 → 100 ≤ ms → ms ≤ 900 → b.tt.lastPulse.isSome = true → tai = ((utc : Int) + toSigned 16 (b.fld Reg.TIM_LEAP Fld.TIM_LEAP_TAI_UTC)).toNat → b.tt.second = none → b.tt.zdaSecond ≠ some tai → exec (.zdaSentence t utc true ms) s =
      .next (ended t s (b.modTt fun x => { x with zdaSecond := some tai, zdaAgree := 1, second := none }))) ∧
    (∀ (utc ms tai : Nat), isBranch b = false → timeSource b = 0 → 100 ≤ ms → ms ≤ 900 → b.tt.lastPulse.isSome = true → tai = ((utc : Int) + toSigned 16 (b.fld Reg.TIM_LEAP Fld.TIM_LEAP_TAI_UTC)).toNat → b.tt.second = some tai → exec (.zdaSentence t utc true ms) s =
      .next (ended t s (b))) ∧
    (∀ (utc ms tai : Nat) (sec : Nat), isBranch b = false → timeSource b = 0 → 100 ≤ ms → ms ≤ 900 → b.tt.lastPulse.isSome = true → tai = ((utc : Int) + toSigned 16 (b.fld Reg.TIM_LEAP Fld.TIM_LEAP_TAI_UTC)).toNat → b.tt.second = some sec → sec ≠ tai → exec (.zdaSentence t utc true ms) s =
      .next (ended t s (timInt b 2))) ∧
    (∀ (since : Nat), b.tt.holdSince = some since → b.tt.own = .holdover → since + b.fld Reg.TIM_LIMITS Fld.TIM_LIMITS_HOLDOVER_S * 1000000000 ≤ b.fc.now → exec (.holdoverExpiry t) s =
      .next (ended t s (setOwn b .expired))) ∧
    (b.tt.slewing = true → b.tt.slewLeft = 0 → exec (.slewComplete t) s =
      .next (ended t s (timInt (b.modTt fun x => { x with slewing := false }) 3))) ∧
    (b.tt.ppsRise = none → b.flag Reg.TIM_CTRL Fld.TIM_CTRL_PPS_OUT_EN = true → treeNs b % 1000000000 < 2 → b.flag Reg.TIM_CTRL Fld.TIM_CTRL_TOD_TX_EN = false → exec (.ppsOutPulse t) s =
      .next (ended t s (drive (b.modTt fun x => { x with ppsRise := some b.fc.now, ppsHigh := true }) .ppsOut true))) ∧
    (∀ (r : Nat), b.tt.ppsRise = some r → b.tt.ppsHigh = true → r + b.fld Reg.TIM_CTRL Fld.TIM_CTRL_PPS_WIDTH_MS * 1000000 ≤ b.fc.now → exec (.ppsOutFall t) s =
      .next (ended t s (drive (b.modTt fun x => { x with ppsHigh := false }) .ppsOut false))) ∧
    (b.pw.timeRefLostAt = none → exec (.timeRefLoss t) s =
      .next (ended t s (timeRefLost b))) ∧
    (exec (.timeRefRestore t) s =
      .next (ended t s (timeRefBack b)))

/-- The delay before retry n is BACKOFF_S doubled n-1 times and never above 60 s, and it does not fall from one retry to
the next; a trip latches exactly when ACTION is OFF, after five retries, or as the switch-off of a suspect segment.
(R297, R302) -/
def Obligations.RetryBackoff : Prop :=
  (∀ (s : State) (n : Nat), backoffS s n ≤ 60 ∧ backoffS s n ≤ backoffS s (n + 1) ∧
      backoffS s 1 = Nat.min 60 (s.fld Reg.SPW_BUDGET Fld.SPW_BUDGET_BACKOFF_S) ∧
      (1 ≤ n → backoffS s (n + 1) = Nat.min 60 (2 * backoffS s n))) ∧
    ∀ (s : State) (p cause : Nat), tripLatches s p cause = true ↔
      cause = 5 ∨ s.flag (Reg.SPW_CTRL p) Fld.SPW_CTRL_ACTION = false ∨
        5 ≤ s.fld (Reg.SPW_STATUS p) Fld.SPW_STATUS_RETRIES

/-- Each row of segment power while the chip is not off, under the conditions named: a completed ramp reaches ON, a
breaker trips by its test and point, a sample of the shunt is taken, soft start ends, a backoff that is over joins the
power queue, 60 s in ON return the retry count to 0, and an enabled open-sense test is judged. (R292, R293, R294,
R296, R297, R301, R302, R303) -/
def Obligations.SegmentPowerRuns : Prop :=
  ∀ (t : Nat) (s b : State), b = start t s → b.pw.off = false →
    (∀ (port : Nat), segPort port = true → powerSt b port = 2 → rampEnd b port ≤ b.fc.now → exec (.rampComplete t port) s =
      .next (ended t s (reachOn b port))) ∧
    (∀ (port : Nat) (point : BitVec 3), segPort port = true → enHigh b port = true → b.flag (Reg.SPW_STATUS port) Fld.SPW_STATUS_SUSPECT = false → exec (.breakerTrip t port .curve point) s =
      .next (ended t s (settle (tripSeg b port 1 point.toNat)))) ∧
    (∀ (port : Nat) (point : BitVec 3), segPort port = true → enHigh b port = true → b.flag (Reg.SPW_STATUS port) Fld.SPW_STATUS_SUSPECT = false → exec (.breakerTrip t port .inrush point) s =
      .next (ended t s (settle (tripSeg b port 2 point.toNat)))) ∧
    (∀ (port : Nat) (point : BitVec 3), segPort port = true → enHigh b port = true → exec (.breakerTrip t port .instant point) s =
      .next (ended t s (settle (tripSeg b port 3 0xFF)))) ∧
    (∀ (port : Nat) (ma10 : BitVec 12), segPort port = true → exec (.senseSample t port ma10) s =
      .next (ended t s (settle (sampleSeg b port ma10.toNat)))) ∧
    (∀ (port : Nat), segPort port = true → (b.spw port).enAt + b.fld (Reg.SPW_CTRL port) Fld.SPW_CTRL_RAMP * 500000 ≤ b.fc.now → exec (.softStartEnd t port) s =
      .next (ended t s (slewLow b port))) ∧
    (∀ (port : Nat), segPort port = true → awake b = true → powerSt b port = 4 → (b.spw port).backoffUntil ≤ b.fc.now → exec (.backoffExpiry t port) s =
      .next (ended t s (enqueueAll (spwCnt b 4) [port]))) ∧
    (∀ (port : Nat), segPort port = true → awake b = true → powerSt b port = 3 → (b.spw port).onAt + 60000000000 ≤ b.fc.now → exec (.retryCountReset t port) s =
      .next (ended t s (b.setFld (Reg.SPW_STATUS port) Fld.SPW_STATUS_RETRIES 0))) ∧
    (∀ (bank : Nat) (shifts : List Int), awake b = true → bank < 6 → shifts.length = 8 → b.flag Reg.SPW_SENSE_CFG Fld.SPW_SENSE_CFG_TEST_EN = true → exec (.openSenseTest t bank shifts) s =
      .next (ended t s (settle (senseTest b bank shifts))))

/-- Each row of chip power under the conditions named: an enabled Squall latches, sheds 200 µs later and ends after its
recovery time once no seal runs, a seal completes, a watch cycle runs in Lull, a thermal reading is judged outside
Recovery, wake steps and transitions end, REFCLK_SYS stops the clocked domains and returns, rails change, and the AO
domain starts from VBUS alone. (R306, R310, R312, R314, R318, R321, R327, R340, R383, R393, R408) -/
def Obligations.ChipPowerRuns : Prop :=
  ∀ (t : Nat) (s b : State), b = start t s → 
    (b.flag Reg.PWR_SQUALL_CFG Fld.PWR_SQUALL_CFG_ENABLE = true → b.pw.squallAt = none → exec (.squallLatch t) s =
      .next (ended t s (squallLatches b))) ∧
    (∀ (since : Nat), squallOn b = true → b.pw.squallAt = some since → since + 200000 ≤ b.fc.now → exec (.squallShed t) s =
      .next (ended t s (squallSheds b))) ∧
    (∀ (test : Bool), b.folio.sealing = some test → exec (.sealComplete t) s =
      .next (ended t s (sendWaiting (portSealed (sealEnd b test))))) ∧
    (∀ (since : Nat), b.pw.squallAt = some since → since + b.fld Reg.PWR_SQUALL_CFG Fld.PWR_SQUALL_CFG_RECOVER * 10000000 ≤ b.fc.now → b.folio.sealing ≠ some false → exec (.squallRecovery t) s =
      .next (ended t s (settle (squallEnds b)))) ∧
    (∀ (bank : Nat) (samples : List WatchSample), awake b = true → bank < 6 → chipState b = 2 → exec (.watchCycle t bank samples) s =
      .next (ended t s (watchCycle b bank samples))) ∧
    (∀ (temps : List Int), temps.length = 8 → b.pw.recovery = 0 → exec (.thermalReading t temps) s =
      .next (ended t s (thermalReading b temps))) ∧
    (∀ (dom : BitVec 4) (wakeStep : BitVec 2), awake b = true → dom.toNat < 14 → exec (.domainWakeStepTimeout t dom wakeStep) s =
      .next (ended t s (domainLate b dom.toNat wakeStep.toNat))) ∧
    (awake b = true → exec (.powerTransitionComplete t) s =
      .next (ended t s (settle (transitionEnd b)))) ∧
    (b.pw.off = false → b.pw.clocksStopped = false → exec (.refclkSysLoss t) s =
      .next (ended t s (b.modPw fun w => { w with clocksStopped := true, refLostAt := some b.fc.now }))) ∧
    (∀ (x : BootIn), b.pw.clocksStopped = true → exec (.refclkSysRestore t x) s =
      .next (ended t s (refclkBack b x))) ∧
    (∀ (present : Bool), exec (.aoRailChange t present) s =
      .next (ended t s (railChange b present))) ∧
    (b.port.aoRail = false → exec (.deadBatteryStart t) s =
      .next (ended t s (deadBattery b)))

/-- Each row that can reset the chip cold, under the conditions named, has the effect of its reset, and the frame clock
begins frame 0 at that instant: RST_N, PERST on a hub that is no branch, the release of PERST_N, an attach, the timer
or the cool-down out of the off state, the loss of VBUS in Recovery, RESTART. An attach in the on state and a loss of
VBUS outside Recovery leave the frame clock alone. (R20, R320, R322, R326, R341, R413, R414, R415) -/
def Obligations.ColdStartsRun : Prop :=
  ∀ (t : Nat) (x : BootIn) (s b : State), b = start t s →
    (exec (.powerOnReset t x) s = .next { powerOnReset b x with fc := coldClock b, pending := s.pending }) ∧
    (takesPerst b = true → exec (.perst t x) s = .next { perstReset b x with fc := coldClock b, pending := s.pending }) ∧
    (∀ fn, perstWakes fn b = true → exec (.perstNRelease t fn x) s = .next { wakeReset b x 2 with fc := coldClock b, pending := s.pending }) ∧
    (thermalRestarts b = true → exec (.thermalAutoRestart t x) s = .next { wakeReset b x 5 with fc := coldClock b, pending := s.pending }) ∧
    (vaultTimerOver b = true → exec (.vaultTimerExpiry t x) s = .next { wakeReset b x 4 with fc := coldClock b, pending := s.pending }) ∧
    (∀ (source orient : Bool) (rp : BitVec 2), attachWakes b = true →
      exec (.typecAttach t source orient rp x) s = .next { wakeReset (portAttach b source orient rp.toNat) x 3 with fc := coldClock b, pending := s.pending }) ∧
    (∀ (source orient : Bool) (rp : BitVec 2), b.pw.off = false →
      exec (.typecAttach t source orient rp x) s =
        .next (ended t s (lullWake (portAttach b source orient rp.toNat) 7))) ∧
    (b.port.aoRail = true → b.pw.recovery ≠ 0 →
      exec (.vbusRemoved t x) s = .next { vbusGone b x with fc := coldClock b, pending := s.pending }) ∧
    (b.port.aoRail = false ∨ b.pw.recovery = 0 → exec (.vbusRemoved t x) s = .next (ended t s (vbusGone b x))) ∧
    ∀ c : MaintCmd, maintUp b = true → b.pw.recovery ≠ 0 → b.port.aoRail = true →
      exec (.restart t c x) s = .next { resetButAo (maintReply b 7 Status.done c.tag.toNat []) x 1 with fc := coldClock b, pending := s.pending }

/-- A branch that has never framed: ROLE gives it FRAME as its frame number; the TIME_SYNC with which its link comes UP
gives it the root's frame number and the start of the root's frame, slot 0; and 2 s after reset release without an UP
link it frames from frame 0 and runs orphaned. (R15, R219, R220, R284) -/
def Obligations.BranchStartsFraming : Prop :=
  ∀ (t : Nat) (s b : State), b = start t s → awake b = true → isBranch b = true → b.neverFramed = true →
    (∀ (hub : BitVec 5) (frame : Word) (ftime : Nat) (p : UpParams), (b.link upLink).st = 6 → (b.link upLink).authDone = true →
      exec (.role t hub frame ftime p) s = .next { takeRole b hub.toNat frame.toNat p with
        fc := { b.fc with frameNo := frame.toNat }, pending := s.pending }) ∧
    (∀ m : SyncMsg, m.frame < 2 ^ 32 → (b.link upLink).st = 7 → 7 ≤ (b.link upLink).exchanges →
      exec (.timeSync t m) s = .next { takeSync b m with
        fc := ⟨b.fc.now, m.frame, b.fc.now - (sinceBoundary m).toNat, 0⟩, pending := s.pending }) ∧
    ((b.link upLink).st ≠ 8 → b.bootAt + 1850000000 ≤ b.fc.now →
      exec (.orphanStartTimeout t) s = .next { { b with neverFramed := false }.modLink upLink (fun k =>
        { k with orphanSince := some b.fc.now }) with fc := ⟨b.fc.now, 0, b.fc.now, 0⟩, pending := s.pending })

/-- Each row of an awake hub under the conditions named: an unconfirmed trial is reset by the watchdog, an armed hub
activates at T, one PERST_N of the dual-host role resets one function, a trained link shows width and speed, a failed
service core moves its services, a failed engine moves at the next frame boundary, a lockstep mismatch counts in
GLB_CNT7 and resets, a watchdog expiry resets. (R257, R259, R367, R370, R398, R399, R413, R415) -/
def Obligations.WarmResetsRun : Prop :=
  ∀ (t : Nat) (s b : State), b = start t s → awake b = true → 
    (∀ (x : BootIn) (e : Nat), b.nvm.windowEnd = some e → e ≤ b.fc.now → trialRuns b.nvm = true → exec (.confirmWindowExpiry t x) s =
      .next (ended t s (unplanned b x 8 1 1))) ∧
    (∀ (x : BootIn) (t0 : Nat), b.nvm.armedT = some t0 → t0 ≤ treeNs b → exec (.scheduledActivation t x) s =
      .next (ended t s (hubRestart b x 16 true true 2))) ∧
    (∀ (fn : Fn), isDual b = true → exec (.singlePerst t fn) s =
      .next (ended t s (linkReset b fn))) ∧
    (∀ (fn : Fn) (width : BitVec 5) (speed : BitVec 4), isBranch b = false → b.pw.recovery = 0 → exec (.pcieLinkUp t fn width speed) s =
      .next (ended t s ((b.setFld (Reg.HIF_STATUS (fnIx fn)) Fld.HIF_STATUS_WIDTH width.toNat).setFld (Reg.HIF_STATUS (fnIx fn)) Fld.HIF_STATUS_SPEED speed.toNat))) ∧
    (∀ (core : BitVec 3) (cause : CoreFault) (x : BootIn), exec (.serviceCoreFailure t core cause x) s =
      .next (ended t s (settle (coreFails b core.toNat (coreCause cause) x)))) ∧
    (∀ (port : Nat) (cause : EngineFault), segPort port = true → exec (.engineFailure t port cause) s =
      .next (ended t s (b.atFrame (.engineMove port (engineCause cause) b.fc.frameNo)))) ∧
    (∀ (x : BootIn), b.pw.recovery = 0 → exec (.lockstepMismatch t x) s =
      .next (ended t s (unplanned (b.glb 7 1) x 0x24 2 2))) ∧
    (∀ (x : BootIn), exec (.watchdogExpiry t x) s =
      .next (ended t s (unplanned b x 8 1 2)))

/-- Each fault row on an awake hub: a scrub in modes 0 and 2 judges each register with an upset; a failed parity check in
modes 1 and 2, and three different copies in modes 0 and 2, hold the block of the register; a patrol pass counts its
corrected words and itself while enabled; an uncorrectable word poisons a page that is not poisoned yet. (R56, R57,
R58, R59, R394, R395, R396) -/
def Obligations.FaultsRun : Prop :=
  ∀ (t : Nat) (s b : State), b = start t s → awake b = true → 
    (∀ (upsets : List Upset), protMode b ≠ 1 → exec (.voteScrub t upsets) s =
      .next (ended t s (forEach (upsets.foldl (fun l u => addNat l u.addr.toNat) []) b fun s a => voteReg s upsets a))) ∧
    (∀ (addr : BitVec 24), (Reg.at addr.toNat).isSome = true → protMode b ≠ 0 → exec (.parityFault t addr false) s =
      .next (ended t s (protFault b addr.toNat false))) ∧
    (∀ (addr : BitVec 24), (Reg.at addr.toNat).isSome = true → protMode b ≠ 1 → tripMask addr.toNat ≠ 0 → exec (.parityFault t addr true) s =
      .next (ended t s (protFault b addr.toNat true))) ∧
    (∀ (words : List Nat), b.flag Reg.FOL_SCRUB Fld.FOL_SCRUB_SCRUB_EN = true → exec (.sramPatrolScrub t words) s =
      .next (ended t s (sramShow ((forEach words b corrected).bumpFld Reg.FOL_SCRUB Fld.FOL_SCRUB_PASSES)))) ∧
    (∀ (region : SramRegion) (page off : Nat) (items : List Nat), (b.sram.pages.any fun x => x.2 == page % 2 ^ 14) = false → exec (.sramUncorrectable t region page off items) s =
      .next (ended t s (settle (pagePoisoned b region page off items))))

/-- Each row of flash and security on an awake hub under the conditions named: an armed hub reports ACTIVATING, the
pending protection mode is stored, a census copy ends, staged Folio entries are programmed, a sector erased ahead is
free (its time is a free value), a flash operation ends, a scan begins and ends with its count of corrected words, and
a failure of the random source is counted, saturating, shown and raised, and ends. (R50, R64, R347, R350, R353, R367,
R373, R376, R380) -/
def Obligations.FlashRuns : Prop :=
  ∀ (t : Nat) (s b : State), b = start t s → awake b = true → 
    (isActivating b = true → exec (.activating t) s =
      .next (ended t s (imageEvent b 3 b.nvm.sessionVol 0))) ∧
    (∀ (m : Nat), squallOn b = false → b.nvm.pendingMode = some m → exec (.bootSyncComplete t) s =
      .next (ended t s (b.modNvm fun n => { n with storedMode := some m, pendingMode := none }))) ∧
    (censusBusy b = true → exec (.censusCopyComplete t) s =
      .next (ended t s (glbInt (b.setFlag Reg.GLB_CENSUS Fld.GLB_CENSUS_BUSY false) 2))) ∧
    (exec (.folioProgram t) s =
      .next (ended t s (folProgram b))) ∧
    (∀ (k : Nat), squallOn b = false → aheadSector b.nvm = some k → exec (.folioEraseAheadDone t) s =
      .next (ended t s (flashKick (folioEraseEnd (showErase { b with freeCtr := b.freeCtr + 1 } (Config.eraseUs b.freeCtr).toNat) (.folioAhead k) k true)))) ∧
    (∀ (r : FlashResult), exec (.flashOperationComplete t r) s =
      .next (ended t s (flashEnd b r))) ∧
    (b.flag Reg.NVM_CTRL Fld.NVM_CTRL_SCRUB_EN = true → exec (.nvmScrubScan t) s =
      .next (ended t s (beginScan b))) ∧
    (∀ (words : Nat), b.flag Reg.NVM_STATUS Fld.NVM_STATUS_SCANNING = true → exec (.nvmScanEnd t words) s =
      .next (ended t s ((b.setFlag Reg.NVM_STATUS Fld.NVM_STATUS_SCANNING false).wr Reg.NVM_CORR_WORDS (BitVec.ofNat 32 words)))) ∧
    (∀ (adaptive : Bool), exec (.trngHealthFailure t adaptive) s =
      .next (ended t s (secInt ((({ b with trngBad := true }.setFlag Reg.SEC_STATUS Fld.SEC_STATUS_TRNG_FAIL true).wr Reg.SEC_TRNG_STATUS (BitVec.ofNat 32 (Nat.min 0xFFFF (b.fld Reg.SEC_TRNG_STATUS Fld.SEC_TRNG_STATUS_FAILS + 1) * 65536 + (if adaptive then 2 else 1)))).bump (Reg.SEC_CNT 7) 1) 2))) ∧
    (exec (.trngRecovery t) s =
      .next (ended t s ({ b with trngBad := false }.setFlag Reg.SEC_STATUS Fld.SEC_STATUS_TRNG_FAIL false)))

/-- Each row of the service port under the conditions named: a detach, a message and a Hard Reset of an attached partner,
SenderResponseTimer and the host's time to answer, the end of ErrorRecovery, VBUS 1 ms after a fast role swap signal,
and the configuration of a connected maintenance function. Each command of the maintenance function while it runs:
IDENTIFY, a read and a write of registers, Folio entries, a piece and the status of an image, and an unknown OP, which
is INERT. (R326, R331, R333, R334, R336, R339, R342, R343) -/
def Obligations.ServicePortRuns : Prop :=
  (∀ (t : Nat) (s b : State), b = start t s → 
    (exec (.typecDetach t) s =
      .next (ended t s (portDetach b))) ∧
    (∀ (m : PdBlock), b.port.st ≠ 0 → b.port.st ≠ 3 → exec (.pdMessage t m) s =
      .next (ended t s (pdReceived b m))) ∧
    (b.port.st ≠ 0 → b.port.st ≠ 3 → exec (.hardReset t) s =
      .next (ended t s (hardResetEnds ((dropWaitSend b).bump (Reg.PDP_CNT 8) 1) true))) ∧
    ((b.port.ownReq ≠ 0 ∨ b.port.resetOut = true) → b.port.sentAt + b.fld Reg.PDP_TIMER Fld.PDP_TIMER_SENDER_RESP_MS * 1000000 ≤ b.fc.now → b.port.frsBusy = false → exec (.senderResponseTimeout t) s =
      .next (ended t s (senderTimeout b))) ∧
    ((b.port.ownReq ≠ 0 ∨ b.port.resetOut = true) → b.port.sentAt + b.fld Reg.PDP_TIMER Fld.PDP_TIMER_SENDER_RESP_MS * 1000000 ≤ b.fc.now → b.port.frsBusy = true → exec (.senderResponseTimeout t) s =
      .next (ended t s (frsFails b 3))) ∧
    (∀ (m : PdBlock), b.port.asked = some m → b.port.askedAt + b.fld Reg.PDP_TIMER Fld.PDP_TIMER_HOST_RESP_MS * 1000000 ≤ b.fc.now → portWaits b = false → exec (.hostResponseTimeout t) s =
      .next (ended t s (autoAnswer b m))) ∧
    (b.port.st = 3 → b.port.recoveryEnd ≤ b.fc.now → exec (.errorRecoveryEnd t) s =
      .next (ended t s (portDetach b))) ∧
    (∀ (mv : BitVec 16), exec (.frsVbusCheck t mv) s =
      .next (ended t s (frsCheck b mv.toNat))) ∧
    (∀ (highSpeed : Bool), b.flag Reg.PDP_USB_STATUS Fld.PDP_USB_STATUS_CONNECTED = true → exec (.maintConfigured ⟨t, highSpeed⟩) s =
      .next (ended t s (pdpInt ((b.setFlag Reg.PDP_USB_STATUS Fld.PDP_USB_STATUS_CONFIGURED true).setFlag Reg.PDP_USB_STATUS Fld.PDP_USB_STATUS_HIGH_SPEED highSpeed) 6)))) ∧
  ∀ (t : Nat) (s b : State), b = start t s → maintUp b = true →
    (∀ (c : MaintCmd), exec (.identify t c) s =
      .next (ended t s (maintIdentify b c))) ∧
    (∀ (c : MaintCmd), b.pw.recovery ≠ 3 ∨ aoThere (c.arg0.toNat / 4 * 4) = true → exec (.regRead t c) s =
      .next (ended t s (maintData (readRun b .maint (fun a => if b.pw.recovery = 3 then aoThere a else maintThere b a) (c.arg0.toNat / 4 * 4) (clampNat 1 64 c.arg1.toNat)).1 2 c (readRun b .maint (fun a => if b.pw.recovery = 3 then aoThere a else maintThere b a) (c.arg0.toNat / 4 * 4) (clampNat 1 64 c.arg1.toNat)).2))) ∧
    (∀ (c : MaintCmd), awake b = true → maintServed b true = true → 1 ≤ c.data.length / 4 → c.data.length / 4 ≤ 64 → exec (.regWrite t c) s =
      .next (ended t s (settle (maintReply (writeRun b .maint (maintThere b) (c.arg0.toNat / 4 * 4) c.data (c.data.length / 4)) 3 Status.done c.tag.toNat [])))) ∧
    (∀ (c : MaintCmd), awake b = true → maintServed b false = true → exec (.maintFolioRead t c) s =
      .next (ended t s (maintData b 4 c (((folFrom b.folio c.arg0.toNat 0).take (Nat.min 1024 (Nat.min c.arg1.toNat (c.len.toNat / 64)))).flatMap folBytes)))) ∧
    (∀ (c : MaintCmd) (tagOk : Bool), awake b = true → maintServed b true = true → byteAt (fitBytes 40 c.data) 0 = 1 → exec (.maintImagePiece t c tagOk) s =
      .next (ended t s (pieceDelivered b (fitBytes 40 c.data) tagOk none (some c.tag.toNat)))) ∧
    (∀ (c : MaintCmd), awake b = true → maintServed b false = true → exec (.maintImageStatus t c) s =
      .next (ended t s (maintData b 6 c (imageStatus b)))) ∧
    (∀ (c : MaintCmd) (op : Byte), awake b = true → ([1, 2, 3, 4, 5, 6, 7].contains op.toNat) = false → exec (.maintUnknownOp t c op) s =
      .next (ended t s (maintReply b op.toNat Status.inert c.tag.toNat [])))

/-- The operand of a condition is W bytes from OFF, most significant first, ANDed with the mask, and there is none on a
sample too short for it; the comparisons 0 to 3 are equal, not equal, above and below; a rising edge needs the operand
before below the threshold and the new one not below, a falling edge the reverse, a change any difference; an edge
without an operand before is false. (R261, R262) -/
def Obligations.RuleOperands : Prop :=
  (∀ (bs : List Byte) (off mask : Nat),
      operand bs off false mask = (if off + 1 ≤ bs.length then some (byteAt bs off &&& mask) else none) ∧
      operand bs off true mask =
        (if off + 2 ≤ bs.length then some ((byteAt bs off * 256 + byteAt bs (off + 1)) &&& mask) else none)) ∧
    (∀ (v thr : Nat) (p : Option Nat),
      (compareOp 0 v thr p = true ↔ v = thr) ∧ (compareOp 1 v thr p = true ↔ v ≠ thr) ∧
      (compareOp 2 v thr p = true ↔ thr < v) ∧ (compareOp 3 v thr p = true ↔ v < thr)) ∧
    (∀ v thr q : Nat,
      (compareOp 4 v thr (some q) = true ↔ q < thr ∧ thr ≤ v) ∧ (compareOp 5 v thr (some q) = true ↔ thr ≤ q ∧ v < thr) ∧
      (compareOp 6 v thr (some q) = true ↔ v ≠ q)) ∧
    ∀ op v thr : Nat, 4 ≤ op → compareOp op v thr none = false

/-- The value that a rule's WRITE builds is as long as the output value or up to its highest selected byte, whichever is
more, cut at MAX; each selected byte of the first eight is the rule's, each other byte is the output's, or 0 beyond
its end. (R263) -/
def Obligations.RuleWriteValue : Prop :=
  ∀ (old data : List Byte) (mask max i : Nat), mask < 256 →
    (buildValue old mask data max).length ≤ max ∧
    (i < (buildValue old mask data max).length →
      (buildValue old mask data max).getD i 0 = if i < 8 && bitOf mask i then data.getD i 0 else old.getD i 0) ∧
    (i < 8 → bitOf mask i = true → i < max → i < (buildValue old mask data max).length) ∧
    (i < old.length → i < max → i < (buildValue old mask data max).length)

/-- For every endpoint of this hub without a buffer, in a state with canonical tables, a pool count in its field and room
for its granules: taking its buffer from the Stacks lowers LIB_POOL.FREE by its granules and notes them at the
endpoint, and giving it back restores the count and leaves the endpoint without a buffer. (R244, R251) -/
def Obligations.BufferPool : Prop :=
  ∀ (s : State) (k : Nat), s.regs.wf = true → s.eps.wf = true → ownKey k = true → (s.ep k).held = 0 → (s.ep k).reserve = false →
    (s.ep k).granules ≤ poolFree s →
    poolFree (takeStacks s k) = poolFree s - (s.ep k).granules ∧ ((takeStacks s k).ep k).held = (s.ep k).granules ∧
    poolFree (releaseBuf (takeStacks s k) k) = poolFree s ∧ ((releaseBuf (takeStacks s k) k).ep k).held = 0

/-- In a state with a canonical register table: with a token in the main bucket an entry of any severity takes it and
leaves the second bucket; with the main bucket empty a CRITICAL entry takes one of the second bucket; otherwise there
is no token, and the entry is coalesced. (R381) -/
def Obligations.FolioTokens : Prop :=
  ∀ (s : State) (sev : Nat), s.regs.wf = true →
    (0 < s.fld Reg.FOL_GOV Fld.FOL_GOV_TOKENS → ∃ u, folToken s sev = some u ∧
      u.fld Reg.FOL_GOV Fld.FOL_GOV_TOKENS = s.fld Reg.FOL_GOV Fld.FOL_GOV_TOKENS - 1 ∧
      u.fld Reg.FOL_GOV Fld.FOL_GOV_RESERVE = s.fld Reg.FOL_GOV Fld.FOL_GOV_RESERVE) ∧
    (s.fld Reg.FOL_GOV Fld.FOL_GOV_TOKENS = 0 → sev = 3 → 0 < s.fld Reg.FOL_GOV Fld.FOL_GOV_RESERVE →
      ∃ u, folToken s sev = some u ∧ u.fld Reg.FOL_GOV Fld.FOL_GOV_TOKENS = 0 ∧
        u.fld Reg.FOL_GOV Fld.FOL_GOV_RESERVE = s.fld Reg.FOL_GOV Fld.FOL_GOV_RESERVE - 1) ∧
    (s.fld Reg.FOL_GOV Fld.FOL_GOV_TOKENS = 0 → (sev ≠ 3 ∨ s.fld Reg.FOL_GOV Fld.FOL_GOV_RESERVE = 0) → folToken s sev = none)
end

