-- ==== Sys2Proof/Laws/Bits.lean ====
section
/-! SUPPORT. Laws/Bits: bit fields and byte orders. -/
namespace Sys2Proof.Laws
open Sys2Proof.Machine

theorem bitsOf_eq (v lo w : Nat) : bitsOf v lo w = v / 2 ^ lo % 2 ^ w := by
  simp [bitsOf, Nat.shiftRight_eq_div_pow]

theorem bitsOf_lt (v lo w : Nat) : bitsOf v lo w < 2 ^ w := by
  rw [bitsOf_eq]; exact Nat.mod_lt _ (Nat.two_pow_pos w)

@[simp] theorem leBytes_length (n v : Nat) : (leBytes n v).length = n := by
  induction n generalizing v with
  | zero => rfl
  | succ n ih => simp [leBytes, ih]

@[simp] theorem beBytes_length (n v : Nat) : (beBytes n v).length = n := by simp [beBytes]

@[simp] theorem fitBytes_length (n : Nat) (bs : List Byte) : (fitBytes n bs).length = n := by
  simp [fitBytes]; omega

theorem byteAt_append_left {a b : List Byte} {i : Nat} (h : i < a.length) : byteAt (a ++ b) i = byteAt a i := by
  simp [byteAt, List.getD_eq_getElem?_getD, List.getElem?_append_left h]

theorem byteAt_append_right (a b : List Byte) (i : Nat) : byteAt (a ++ b) (a.length + i) = byteAt b i := by
  simp [byteAt, List.getD_eq_getElem?_getD, List.getElem?_append_right]

theorem byteAt_lt (bs : List Byte) (i : Nat) : byteAt bs i < 256 := by
  unfold byteAt; exact (bs.getD i 0).isLt

/-- Reading n bytes depends on these bytes alone. -/
theorem leAt_append_right (a b : List Byte) (i n : Nat) : leAt (a ++ b) (a.length + i) n = leAt b i n := by
  induction n generalizing i with
  | zero => rfl
  | succ n ih => simp only [leAt]; rw [byteAt_append_right, Nat.add_assoc, ih]

theorem leAt_append_left {a b : List Byte} {i n : Nat} (h : i + n ≤ a.length) : leAt (a ++ b) i n = leAt a i n := by
  induction n generalizing i with
  | zero => rfl
  | succ n ih => simp only [leAt]; rw [byteAt_append_left (by omega), ih (by omega)]

/-- What is written little-endian reads back, modulo its width (R3). -/
theorem leAt_leBytes (n v : Nat) : leAt (leBytes n v) 0 n = v % 256 ^ n := by
  induction n generalizing v with
  | zero => simp [leAt, Nat.mod_one]
  | succ n ih =>
    have h : leAt (leBytes (n + 1) v) 1 n = leAt (leBytes n (v / 256)) 0 n := by
      have := leAt_append_right [BitVec.ofNat 8 v] (leBytes n (v / 256)) 0 n
      simpa [leBytes] using this
    simp only [leAt, Nat.zero_add]
    rw [h, ih]
    have h0 : byteAt (leBytes (n + 1) v) 0 = v % 256 := by simp [byteAt, leBytes]
    rw [h0, Nat.pow_succ', Nat.mod_mul]

/-- One byte more of a number read most significant first. -/
theorem beAt_succ (bs : List Byte) (i n : Nat) : beAt bs i (n + 1) = beAt bs i n * 256 + byteAt bs (i + n) := by
  simp [beAt, List.range_succ]

theorem beAt_append_right (a b : List Byte) (i n : Nat) : beAt (a ++ b) (a.length + i) n = beAt b i n := by
  induction n with
  | zero => rfl
  | succ n ih => rw [beAt_succ, beAt_succ, ih, Nat.add_assoc, byteAt_append_right]

theorem beAt_append_left {a b : List Byte} {i n : Nat} (h : i + n ≤ a.length) : beAt (a ++ b) i n = beAt a i n := by
  induction n with
  | zero => rfl
  | succ n ih => rw [beAt_succ, beAt_succ, ih (by omega), byteAt_append_left (by omega)]

theorem beBytes_succ (n v : Nat) : beBytes (n + 1) v = beBytes n (v / 256) ++ [BitVec.ofNat 8 v] := by
  simp [beBytes, leBytes]

/-- What is written most significant first reads back, modulo its width (R4). -/
theorem beAt_beBytes (n v : Nat) : beAt (beBytes n v) 0 n = v % 256 ^ n := by
  induction n generalizing v with
  | zero => simp [beAt, Nat.mod_one]
  | succ n ih =>
    have last : byteAt (beBytes n (v / 256) ++ [BitVec.ofNat 8 v]) (0 + n) = v % 256 := by
      have h := byteAt_append_right (beBytes n (v / 256)) [BitVec.ofNat 8 v] 0
      simp only [beBytes_length, Nat.add_zero] at h
      rw [Nat.zero_add, h]; simp [byteAt]
    rw [beBytes_succ, beAt_succ, beAt_append_left (by simp), ih, last, Nat.pow_succ', Nat.mod_mul]; ring

end Sys2Proof.Laws
end

