-- ==== Sys2Proof/Laws/Crc.lean ====
section
/-! SUPPORT. Laws/Crc: a checksum fits its width (R110, R111, R207). -/
namespace Sys2Proof.Laws
open Sys2Proof.Machine

theorem crcReflByte_lt {poly n c : Nat} (b : Byte) (hp : poly < 2 ^ n) (hn : 8 ≤ n) (hc : c < 2 ^ n) :
    crcReflByte poly c b < 2 ^ n := by
  have bit : ∀ x, x < 2 ^ n → crcReflBit poly x < 2 ^ n := by
    intro x hx; unfold crcReflBit; split
    · exact Nat.xor_lt_two_pow (by omega) hp
    · omega
  have many : ∀ l : List Nat, ∀ x, x < 2 ^ n → l.foldl (fun c _ => crcReflBit poly c) x < 2 ^ n := by
    intro l; induction l with
    | nil => intro x hx; exact hx
    | cons a l ih => intro x hx; exact ih _ (bit x hx)
  exact many _ _ (Nat.xor_lt_two_pow hc (lt_of_lt_of_le b.isLt (Nat.pow_le_pow_right (by decide) hn)))

theorem crcRefl_lt {poly n c : Nat} (bs : List Byte) (hp : poly < 2 ^ n) (hn : 8 ≤ n) (hc : c < 2 ^ n) :
    bs.foldl (crcReflByte poly) c < 2 ^ n := by
  induction bs generalizing c with
  | nil => exact hc
  | cons b bs ih => exact ih (crcReflByte_lt b hp hn hc)

theorem crc32c_lt (bs : List Byte) : crc32c bs < 2 ^ 32 :=
  Nat.xor_lt_two_pow (crcRefl_lt bs (by decide) (by decide) (by decide)) (by decide)

theorem crc64_lt (bs : List Byte) : crc64 bs < 2 ^ 64 :=
  Nat.xor_lt_two_pow (crcRefl_lt bs (by decide) (by decide) (by decide)) (by decide)

end Sys2Proof.Laws
end

