-- ==== Sys2Proof/Laws/Exec.lean ====
section
/-! SUPPORT. Laws/Exec: exec of each command is the meaning of its row. -/
namespace Sys2Proof.Laws
open Sys2Proof.Machine

@[simp] theorem exec_nop (t : Nat) (d : SqEntry) (s : State) :
    exec (.nop t d) s = execNop t d s := rfl
@[simp] theorem exec_writeEp (t : Nat) (d : SqEntry) (s : State) :
    exec (.writeEp t d) s = execWriteEp t d s := rfl
@[simp] theorem exec_writeEpConfirmed (t : Nat) (d : SqEntry) (s : State) :
    exec (.writeEpConfirmed t d) s = execWriteEpConfirmed t d s := rfl
@[simp] theorem exec_readEp (t : Nat) (d : SqEntry) (s : State) :
    exec (.readEp t d) s = execReadEp t d s := rfl
@[simp] theorem exec_configEp (t : Nat) (d : SqEntry) (s : State) :
    exec (.configEp t d) s = execConfigEp t d s := rfl
@[simp] theorem exec_configEpQuery (t : Nat) (d : SqEntry) (s : State) :
    exec (.configEpQuery t d) s = execConfigEpQuery t d s := rfl
@[simp] theorem exec_controlXfer (t : Nat) (d : SqEntry) (s : State) :
    exec (.controlXfer t d) s = execControlXfer t d s := rfl
@[simp] theorem exec_regAccessRead (t : Nat) (d : SqEntry) (s : State) :
    exec (.regAccessRead t d) s = execRegAccessRead t d s := rfl
@[simp] theorem exec_regAccessWrite (t : Nat) (d : SqEntry) (s : State) :
    exec (.regAccessWrite t d) s = execRegAccessWrite t d s := rfl
@[simp] theorem exec_bulkXferOut (t : Nat) (d : SqEntry) (s : State) :
    exec (.bulkXferOut t d) s = execBulkXferOut t d s := rfl
@[simp] theorem exec_bulkXferIn (t : Nat) (d : SqEntry) (s : State) :
    exec (.bulkXferIn t d) s = execBulkXferIn t d s := rfl
@[simp] theorem exec_streamXferIn (t : Nat) (d : SqEntry) (s : State) :
    exec (.streamXferIn t d) s = execStreamXferIn t d s := rfl
@[simp] theorem exec_streamXferOut (t : Nat) (d : SqEntry) (s : State) :
    exec (.streamXferOut t d) s = execStreamXferOut t d s := rfl
@[simp] theorem exec_shelfDefine (t : Nat) (d : SqEntry) (s : State) :
    exec (.shelfDefine t d) s = execShelfDefine t d s := rfl
@[simp] theorem exec_shelfDelete (t : Nat) (d : SqEntry) (s : State) :
    exec (.shelfDelete t d) s = execShelfDelete t d s := rfl
@[simp] theorem exec_shelfQuery (t : Nat) (d : SqEntry) (s : State) :
    exec (.shelfQuery t d) s = execShelfQuery t d s := rfl
@[simp] theorem exec_placeHintClear (t : Nat) (d : SqEntry) (s : State) :
    exec (.placeHintClear t d) s = execPlaceHintClear t d s := rfl
@[simp] theorem exec_pinRing (t : Nat) (d : SqEntry) (s : State) :
    exec (.pinRing t d) s = execPinRing t d s := rfl
@[simp] theorem exec_pinStacks (t : Nat) (d : SqEntry) (s : State) :
    exec (.pinStacks t d) s = execPinStacks t d s := rfl
@[simp] theorem exec_affinity (t : Nat) (d : SqEntry) (s : State) :
    exec (.affinity t d) s = execAffinity t d s := rfl
@[simp] theorem exec_preferReserve (t : Nat) (d : SqEntry) (s : State) :
    exec (.preferReserve t d) s = execPreferReserve t d s := rfl
@[simp] theorem exec_gustLoad (t : Nat) (d : SqEntry) (s : State) :
    exec (.gustLoad t d) s = execGustLoad t d s := rfl
@[simp] theorem exec_gustEnable (t : Nat) (d : SqEntry) (s : State) :
    exec (.gustEnable t d) s = execGustEnable t d s := rfl
@[simp] theorem exec_gustDisable (t : Nat) (d : SqEntry) (s : State) :
    exec (.gustDisable t d) s = execGustDisable t d s := rfl
@[simp] theorem exec_segPowerOff (t : Nat) (d : SqEntry) (s : State) :
    exec (.segPowerOff t d) s = execSegPowerOff t d s := rfl
@[simp] theorem exec_segPowerOn (t : Nat) (d : SqEntry) (s : State) :
    exec (.segPowerOn t d) s = execSegPowerOn t d s := rfl
@[simp] theorem exec_segPowerQuery (t : Nat) (d : SqEntry) (s : State) :
    exec (.segPowerQuery t d) s = execSegPowerQuery t d s := rfl
@[simp] theorem exec_segStateDisable (t : Nat) (d : SqEntry) (s : State) :
    exec (.segStateDisable t d) s = execSegStateDisable t d s := rfl
@[simp] theorem exec_segStateEnable (t : Nat) (d : SqEntry) (s : State) :
    exec (.segStateEnable t d) s = execSegStateEnable t d s := rfl
@[simp] theorem exec_segStateSuspend (t : Nat) (d : SqEntry) (s : State) :
    exec (.segStateSuspend t d) s = execSegStateSuspend t d s := rfl
@[simp] theorem exec_segStateResume (t : Nat) (d : SqEntry) (s : State) :
    exec (.segStateResume t d) s = execSegStateResume t d s := rfl
@[simp] theorem exec_segStateSetGen (t : Nat) (d : SqEntry) (s : State) :
    exec (.segStateSetGen t d) s = execSegStateSetGen t d s := rfl
@[simp] theorem exec_approve (t : Nat) (d : SqEntry) (s : State) :
    exec (.approve t d) s = execApprove t d s := rfl
@[simp] theorem exec_deny (t : Nat) (d : SqEntry) (s : State) :
    exec (.deny t d) s = execDeny t d s := rfl
@[simp] theorem exec_forget (t : Nat) (d : SqEntry) (s : State) :
    exec (.forget t d) s = execForget t d s := rfl
@[simp] theorem exec_nodePolicy (t : Nat) (d : SqEntry) (s : State) :
    exec (.nodePolicy t d) s = execNodePolicy t d s := rfl
@[simp] theorem exec_pinKey (t : Nat) (d : SqEntry) (s : State) :
    exec (.pinKey t d) s = execPinKey t d s := rfl
@[simp] theorem exec_nodeFwDistribute (t : Nat) (d : SqEntry) (s : State) :
    exec (.nodeFwDistribute t d) s = execNodeFwDistribute t d s := rfl
@[simp] theorem exec_distAbort (t : Nat) (d : SqEntry) (s : State) :
    exec (.distAbort t d) s = execDistAbort t d s := rfl
@[simp] theorem exec_distQuery (t : Nat) (d : SqEntry) (s : State) :
    exec (.distQuery t d) s = execDistQuery t d s := rfl
@[simp] theorem exec_timeSet (t : Nat) (d : SqEntry) (s : State) :
    exec (.timeSet t d) s = execTimeSet t d s := rfl
@[simp] theorem exec_timeAdj (t : Nat) (d : SqEntry) (s : State) :
    exec (.timeAdj t d) s = execTimeAdj t d s := rfl
@[simp] theorem exec_imageManifest (t : Nat) (d : SqEntry) (keyOk sigOk : Bool) (s : State) :
    exec (.imageManifest t d keyOk sigOk) s = execImageManifest t d keyOk sigOk s := rfl
@[simp] theorem exec_imagePiece (t : Nat) (d : SqEntry) (tagOk : Bool) (s : State) :
    exec (.imagePiece t d tagOk) s = execImagePiece t d tagOk s := rfl
@[simp] theorem exec_imageAbandon (t : Nat) (d : SqEntry) (s : State) :
    exec (.imageAbandon t d) s = execImageAbandon t d s := rfl
@[simp] theorem exec_imageScheduleArm (t : Nat) (d : SqEntry) (hubs : List HubReport) (s : State) :
    exec (.imageScheduleArm t d hubs) s = execImageScheduleArm t d hubs s := rfl
@[simp] theorem exec_imageScheduleCancel (t : Nat) (d : SqEntry) (s : State) :
    exec (.imageScheduleCancel t d) s = execImageScheduleCancel t d s := rfl
@[simp] theorem exec_imageStatus (t : Nat) (d : SqEntry) (s : State) :
    exec (.imageStatus t d) s = execImageStatus t d s := rfl
@[simp] theorem exec_folioRead (t : Nat) (d : SqEntry) (s : State) :
    exec (.folioRead t d) s = execFolioRead t d s := rfl
@[simp] theorem exec_censusTake (t : Nat) (d : SqEntry) (s : State) :
    exec (.censusTake t d) s = execCensusTake t d s := rfl
@[simp] theorem exec_pdMsgSend (t : Nat) (d : PdSendIn) (s : State) :
    exec (.pdMsgSend t d) s = execPdMsgSend t d s := rfl
@[simp] theorem exec_leaseRenew (t : Nat) (d : SqEntry) (s : State) :
    exec (.leaseRenew t d) s = execLeaseRenew t d s := rfl
@[simp] theorem exec_roleTake (t : Nat) (d : SqEntry) (other : OtherRings) (s : State) :
    exec (.roleTake t d other) s = execRoleTake t d other s := rfl
@[simp] theorem exec_unknownOpcode (t : Nat) (d : SqEntry) (opcode : Byte) (s : State) :
    exec (.unknownOpcode t d opcode) s = execUnknownOpcode t d opcode s := rfl
@[simp] theorem exec_registerWrite (t : Nat) (a : Access) (s : State) :
    exec (.registerWrite t a) s = execRegisterWrite t a s := rfl
@[simp] theorem exec_lowerWordRead (t : Nat) (a : Access) (s : State) :
    exec (.lowerWordRead t a) s = execLowerWordRead t a s := rfl
@[simp] theorem exec_rcFieldRead (t : Nat) (a : Access) (s : State) :
    exec (.rcFieldRead t a) s = execRcFieldRead t a s := rfl
@[simp] theorem exec_glbFrameRead (t : Nat) (a : Access) (s : State) :
    exec (.glbFrameRead t a) s = execGlbFrameRead t a s := rfl
@[simp] theorem exec_cenWindowRead (t : Nat) (a : Access) (s : State) :
    exec (.cenWindowRead t a) s = execCenWindowRead t a s := rfl
@[simp] theorem exec_glbCensusTake (t : Nat) (ini : Initiator) (s : State) :
    exec (.glbCensusTake t ini) s = execGlbCensusTake t ini s := rfl
@[simp] theorem exec_warmReset (t : Nat) (ini : Initiator) (v : Word) (b : BootIn) (s : State) :
    exec (.warmReset t ini v b) s = execWarmReset t ini v b s := rfl
@[simp] theorem exec_protHoldRelease (t : Nat) (ini : Initiator) (v : Word) (s : State) :
    exec (.protHoldRelease t ini v) s = execProtHoldRelease t ini v s := rfl
@[simp] theorem exec_ringEnable (t : Nat) (fn : Fn) (ring : BitVec 11) (ctx : CtxIn) (s : State) :
    exec (.ringEnable t fn ring ctx) s = execRingEnable t fn ring ctx s := rfl
@[simp] theorem exec_ringDisable (t : Nat) (fn : Fn) (ring : BitVec 11) (s : State) :
    exec (.ringDisable t fn ring) s = execRingDisable t fn ring s := rfl
@[simp] theorem exec_kick (t : Nat) (fn : Fn) (slots : List Doorbell) (s : State) :
    exec (.kick t fn slots) s = execKick t fn slots s := rfl
@[simp] theorem exec_bar4Access (t : Nat) (ini : Initiator) (addr : BitVec 20) (isWrite : Bool) (s : State) :
    exec (.bar4Access t ini addr isWrite) s = execBar4Access t ini addr isWrite s := rfl
@[simp] theorem exec_secLock (t : Nat) (ini : Initiator) (s : State) :
    exec (.secLock t ini) s = execSecLock t ini s := rfl
@[simp] theorem exec_hostApprove (t : Nat) (ini : Initiator) (s : State) :
    exec (.hostApprove t ini) s = execHostApprove t ini s := rfl
@[simp] theorem exec_healthConfirm (t : Nat) (ini : Initiator) (s : State) :
    exec (.healthConfirm t ini) s = execHealthConfirm t ini s := rfl
@[simp] theorem exec_nvmCmdErase (t : Nat) (ini : Initiator) (v : Word) (s : State) :
    exec (.nvmCmdErase t ini v) s = execNvmCmdErase t ini v s := rfl
@[simp] theorem exec_nvmCmdBlankCheck (t : Nat) (ini : Initiator) (v : Word) (blank : Bool) (s : State) :
    exec (.nvmCmdBlankCheck t ini v blank) s = execNvmCmdBlankCheck t ini v blank s := rfl
@[simp] theorem exec_nvmCmdVerify (t : Nat) (ini : Initiator) (v : Word) (worst : BitVec 2) (s : State) :
    exec (.nvmCmdVerify t ini v worst) s = execNvmCmdVerify t ini v worst s := rfl
@[simp] theorem exec_nvmScan (t : Nat) (ini : Initiator) (s : State) :
    exec (.nvmScan t ini) s = execNvmScan t ini s := rfl
@[simp] theorem exec_spwStore (t : Nat) (ini : Initiator) (s : State) :
    exec (.spwStore t ini) s = execSpwStore t ini s := rfl
@[simp] theorem exec_spwCtrlOnWrite (t : Nat) (ini : Initiator) (port : Nat) (v : Word) (s : State) :
    exec (.spwCtrlOnWrite t ini port v) s = execSpwCtrlOnWrite t ini port v s := rfl
@[simp] theorem exec_lnkEnable (t : Nat) (ini : Initiator) (link : BitVec 4) (s : State) :
    exec (.lnkEnable t ini link) s = execLnkEnable t ini link s := rfl
@[simp] theorem exec_lnkDisable (t : Nat) (ini : Initiator) (link : BitVec 4) (s : State) :
    exec (.lnkDisable t ini link) s = execLnkDisable t ini link s := rfl
@[simp] theorem exec_rateUp (t : Nat) (ini : Initiator) (link : BitVec 4) (s : State) :
    exec (.rateUp t ini link) s = execRateUp t ini link s := rfl
@[simp] theorem exec_rateDown (t : Nat) (ini : Initiator) (link : BitVec 4) (s : State) :
    exec (.rateDown t ini link) s = execRateDown t ini link s := rfl
@[simp] theorem exec_retrain (t : Nat) (ini : Initiator) (link : BitVec 4) (s : State) :
    exec (.retrain t ini link) s = execRetrain t ini link s := rfl
@[simp] theorem exec_lnkPolicyApprove (t : Nat) (ini : Initiator) (link : BitVec 4) (s : State) :
    exec (.lnkPolicyApprove t ini link) s = execLnkPolicyApprove t ini link s := rfl
@[simp] theorem exec_lnkPolicyDeny (t : Nat) (ini : Initiator) (link : BitVec 4) (s : State) :
    exec (.lnkPolicyDeny t ini link) s = execLnkPolicyDeny t ini link s := rfl
@[simp] theorem exec_libEngineMove (t : Nat) (ini : Initiator) (v : Word) (s : State) :
    exec (.libEngineMove t ini v) s = execLibEngineMove t ini v s := rfl
@[simp] theorem exec_vacatedClear (t : Nat) (ini : Initiator) (v : Word) (s : State) :
    exec (.vacatedClear t ini v) s = execVacatedClear t ini v s := rfl
@[simp] theorem exec_rsvFaultClear (t : Nat) (ini : Initiator) (v : Word) (s : State) :
    exec (.rsvFaultClear t ini v) s = execRsvFaultClear t ini v s := rfl
@[simp] theorem exec_pwrTargetA0 (t : Nat) (ini : Initiator) (v : Word) (s : State) :
    exec (.pwrTargetA0 t ini v) s = execPwrTargetA0 t ini v s := rfl
@[simp] theorem exec_pwrTargetA1 (t : Nat) (ini : Initiator) (v : Word) (s : State) :
    exec (.pwrTargetA1 t ini v) s = execPwrTargetA1 t ini v s := rfl
@[simp] theorem exec_pwrTargetLull (t : Nat) (ini : Initiator) (v : Word) (s : State) :
    exec (.pwrTargetLull t ini v) s = execPwrTargetLull t ini v s := rfl
@[simp] theorem exec_pwrTargetVault (t : Nat) (ini : Initiator) (v : Word) (s : State) :
    exec (.pwrTargetVault t ini v) s = execPwrTargetVault t ini v s := rfl
@[simp] theorem exec_watchStore (t : Nat) (ini : Initiator) (v : Word) (s : State) :
    exec (.watchStore t ini v) s = execWatchStore t ini v s := rfl
@[simp] theorem exec_watchLoad (t : Nat) (ini : Initiator) (v : Word) (s : State) :
    exec (.watchLoad t ini v) s = execWatchLoad t ini v s := rfl
@[simp] theorem exec_sealTest (t : Nat) (ini : Initiator) (s : State) :
    exec (.sealTest t ini) s = execSealTest t ini s := rfl
@[simp] theorem exec_flush (t : Nat) (ini : Initiator) (s : State) :
    exec (.flush t ini) s = execFlush t ini s := rfl
@[simp] theorem exec_folioErase (t : Nat) (ini : Initiator) (v : Word) (s : State) :
    exec (.folioErase t ini v) s = execFolioErase t ini v s := rfl
@[simp] theorem exec_disconnect (t : Nat) (ini : Initiator) (s : State) :
    exec (.disconnect t ini) s = execDisconnect t ini s := rfl
@[simp] theorem exec_pdPolicyWrite (t : Nat) (ini : Initiator) (v : Word) (s : State) :
    exec (.pdPolicyWrite t ini v) s = execPdPolicyWrite t ini v s := rfl
@[simp] theorem exec_identify (t : Nat) (c : MaintCmd) (s : State) :
    exec (.identify t c) s = execIdentify t c s := rfl
@[simp] theorem exec_regRead (t : Nat) (c : MaintCmd) (s : State) :
    exec (.regRead t c) s = execRegRead t c s := rfl
@[simp] theorem exec_regWrite (t : Nat) (c : MaintCmd) (s : State) :
    exec (.regWrite t c) s = execRegWrite t c s := rfl
@[simp] theorem exec_maintFolioRead (t : Nat) (c : MaintCmd) (s : State) :
    exec (.maintFolioRead t c) s = execMaintFolioRead t c s := rfl
@[simp] theorem exec_maintImagePiece (t : Nat) (c : MaintCmd) (tagOk : Bool) (s : State) :
    exec (.maintImagePiece t c tagOk) s = execMaintImagePiece t c tagOk s := rfl
@[simp] theorem exec_maintImageStatus (t : Nat) (c : MaintCmd) (s : State) :
    exec (.maintImageStatus t c) s = execMaintImageStatus t c s := rfl
@[simp] theorem exec_restart (t : Nat) (c : MaintCmd) (b : BootIn) (s : State) :
    exec (.restart t c b) s = execRestart t c b s := rfl
@[simp] theorem exec_maintUnknownOp (t : Nat) (c : MaintCmd) (op : Byte) (s : State) :
    exec (.maintUnknownOp t c op) s = execMaintUnknownOp t c op s := rfl
@[simp] theorem exec_frameBoundary (t : Nat) (s : State) :
    exec (.frameBoundary t) s = execFrameBoundary t s := rfl
@[simp] theorem exec_gustSlotBoundary (t : Nat) (s : State) :
    exec (.gustSlotBoundary t) s = execGustSlotBoundary t s := rfl
@[simp] theorem exec_epochBoundary (t : Nat) (s : State) :
    exec (.epochBoundary t) s = execEpochBoundary t s := rfl
@[simp] theorem exec_doorbellSweep (t : Nat) (fn : Fn) (d : SweepIn) (s : State) :
    exec (.doorbellSweep t fn d) s = execDoorbellSweep t fn d s := rfl
@[simp] theorem exec_voteScrub (t : Nat) (upsets : List Upset) (s : State) :
    exec (.voteScrub t upsets) s = execVoteScrub t upsets s := rfl
@[simp] theorem exec_parityFault (t : Nat) (addr : BitVec 24) (threeWay : Bool) (s : State) :
    exec (.parityFault t addr threeWay) s = execParityFault t addr threeWay s := rfl
@[simp] theorem exec_sramPatrolScrub (t : Nat) (corrected : List Nat) (s : State) :
    exec (.sramPatrolScrub t corrected) s = execSramPatrolScrub t corrected s := rfl
@[simp] theorem exec_sramUncorrectable (t : Nat) (region : SramRegion) (page off : Nat) (items : List Nat) (s : State) :
    exec (.sramUncorrectable t region page off items) s = execSramUncorrectable t region page off items s := rfl
@[simp] theorem exec_leaseExpiry (t : Nat) (s : State) :
    exec (.leaseExpiry t) s = execLeaseExpiry t s := rfl
@[simp] theorem exec_orphanStartTimeout (t : Nat) (s : State) :
    exec (.orphanStartTimeout t) s = execOrphanStartTimeout t s := rfl
@[simp] theorem exec_interruptModerationTimeout (t : Nat) (fn : Fn) (ring : BitVec 11) (s : State) :
    exec (.interruptModerationTimeout t fn ring) s = execInterruptModerationTimeout t fn ring s := rfl
@[simp] theorem exec_nodeKeepalive (t : Nat) (port : Nat) (node : Byte) (s : State) :
    exec (.nodeKeepalive t port node) s = execNodeKeepalive t port node s := rfl
@[simp] theorem exec_discoverSweep (t : Nat) (port : Nat) (s : State) :
    exec (.discoverSweep t port) s = execDiscoverSweep t port s := rfl
@[simp] theorem exec_discoverRepeat (t : Nat) (port : Nat) (s : State) :
    exec (.discoverRepeat t port) s = execDiscoverRepeat t port s := rfl
@[simp] theorem exec_replyWindowExpiry (t : Nat) (port : Nat) (s : State) :
    exec (.replyWindowExpiry t port) s = execReplyWindowExpiry t port s := rfl
@[simp] theorem exec_controlTimeout (t : Nat) (port : Nat) (node : Byte) (s : State) :
    exec (.controlTimeout t port node) s = execControlTimeout t port node s := rfl
@[simp] theorem exec_bulkNakTimeout (t : Nat) (port : Nat) (s : State) :
    exec (.bulkNakTimeout t port) s = execBulkNakTimeout t port s := rfl
@[simp] theorem exec_resumeEnd (t : Nat) (port : Nat) (s : State) :
    exec (.resumeEnd t port) s = execResumeEnd t port s := rfl
@[simp] theorem exec_cov (t : Nat) (port : Nat) (f : RxFrame) (s : State) :
    exec (.cov t port f) s = execCov t port f s := rfl
@[simp] theorem exec_data (t : Nat) (port : Nat) (f : RxFrame) (authOk keyEdge sigEdge : Bool) (s : State) :
    exec (.data t port f authOk keyEdge sigEdge) s = execData t port f authOk keyEdge sigEdge s := rfl
@[simp] theorem exec_ack (t : Nat) (port : Nat) (f : RxFrame) (s : State) :
    exec (.ack t port f) s = execAck t port f s := rfl
@[simp] theorem exec_nyet (t : Nat) (port : Nat) (f : RxFrame) (s : State) :
    exec (.nyet t port f) s = execNyet t port f s := rfl
@[simp] theorem exec_nak (t : Nat) (port : Nat) (f : RxFrame) (s : State) :
    exec (.nak t port f) s = execNak t port f s := rfl
@[simp] theorem exec_stall (t : Nat) (port : Nat) (f : RxFrame) (s : State) :
    exec (.stall t port f) s = execStall t port f s := rfl
@[simp] theorem exec_hello (t : Nat) (port : Nat) (slot : BitVec 4) (f : RxFrame) (s : State) :
    exec (.hello t port slot f) s = execHello t port slot f s := rfl
@[simp] theorem exec_foreignFrame (t : Nat) (port : Nat) (s : State) :
    exec (.foreignFrame t port) s = execForeignFrame t port s := rfl
@[simp] theorem exec_currentStep (t : Nat) (port : Nat) (s : State) :
    exec (.currentStep t port) s = execCurrentStep t port s := rfl
@[simp] theorem exec_currentDrop (t : Nat) (port : Nat) (s : State) :
    exec (.currentDrop t port) s = execCurrentDrop t port s := rfl
@[simp] theorem exec_remoteWake (t : Nat) (port : Nat) (s : State) :
    exec (.remoteWake t port) s = execRemoteWake t port s := rfl
@[simp] theorem exec_lineFault (t : Nat) (port : Nat) (s : State) :
    exec (.lineFault t port) s = execLineFault t port s := rfl
@[simp] theorem exec_linkPresence (t : Nat) (p : PresenceIn) (s : State) :
    exec (.linkPresence t p) s = execLinkPresence t p s := rfl
@[simp] theorem exec_autonegComplete (t : Nat) (link : BitVec 5) (lp : Byte) (s : State) :
    exec (.autonegComplete t link lp) s = execAutonegComplete t link lp s := rfl
@[simp] theorem exec_c2mRateTrialTimeout (t : Nat) (link : BitVec 5) (s : State) :
    exec (.c2mRateTrialTimeout t link) s = execC2mRateTrialTimeout t link s := rfl
@[simp] theorem exec_trainingComplete (t : Nat) (link : BitVec 5) (txeq : List Word) (s : State) :
    exec (.trainingComplete t link txeq) s = execTrainingComplete t link txeq s := rfl
@[simp] theorem exec_trainingTimeout (t : Nat) (link : BitVec 5) (s : State) :
    exec (.trainingTimeout t link) s = execTrainingTimeout t link s := rfl
@[simp] theorem exec_markerLock (t : Nat) (link : BitVec 5) (m : MarkerIn) (s : State) :
    exec (.markerLock t link m) s = execMarkerLock t link m s := rfl
@[simp] theorem exec_noPartnerTimeout (t : Nat) (link : BitVec 5) (s : State) :
    exec (.noPartnerTimeout t link) s = execNoPartnerTimeout t link s := rfl
@[simp] theorem exec_laneFail (t : Nat) (link : BitVec 5) (lane : BitVec 2) (los : Bool) (s : State) :
    exec (.laneFail t link lane los) s = execLaneFail t link lane los s := rfl
@[simp] theorem exec_laneRejoinAttempt (t : Nat) (link : BitVec 5) (s : State) :
    exec (.laneRejoinAttempt t link) s = execLaneRejoinAttempt t link s := rfl
@[simp] theorem exec_replayTimeout (t : Nat) (link : BitVec 5) (s : State) :
    exec (.replayTimeout t link) s = execReplayTimeout t link s := rfl
@[simp] theorem exec_noFlitsTimeout (t : Nat) (link : BitVec 5) (s : State) :
    exec (.noFlitsTimeout t link) s = execNoFlitsTimeout t link s := rfl
@[simp] theorem exec_presenceLost (t : Nat) (link : BitVec 5) (s : State) :
    exec (.presenceLost t link) s = execPresenceLost t link s := rfl
@[simp] theorem exec_rateChangeTimeout (t : Nat) (link : BitVec 5) (s : State) :
    exec (.rateChangeTimeout t link) s = execRateChangeTimeout t link s := rfl
@[simp] theorem exec_linkHoldTimeout (t : Nat) (link : BitVec 4) (fn : Fn) (sq : BitVec 8) (tag : Word) (s : State) :
    exec (.linkHoldTimeout t link fn sq tag) s = execLinkHoldTimeout t link fn sq tag s := rfl
@[simp] theorem exec_cplHoldExpiry (t : Nat) (link : BitVec 4) (s : State) :
    exec (.cplHoldExpiry t link) s = execCplHoldExpiry t link s := rfl
@[simp] theorem exec_goodbyeDrainEnd (t : Nat) (link : BitVec 5) (s : State) :
    exec (.goodbyeDrainEnd t link) s = execGoodbyeDrainEnd t link s := rfl
@[simp] theorem exec_llctlNak (t : Nat) (link : BitVec 5) (seq : BitVec 12) (s : State) :
    exec (.llctlNak t link seq) s = execLlctlNak t link seq s := rfl
@[simp] theorem exec_creditInit (t : Nat) (link : BitVec 5) (c0 c1 c2 c3 : BitVec 12) (s : State) :
    exec (.creditInit t link c0 c1 c2 c3) s = execCreditInit t link c0 c1 c2 c3 s := rfl
@[simp] theorem exec_rateStep (t : Nat) (link : BitVec 5) (rate : BitVec 3) (marker : Word) (s : State) :
    exec (.rateStep t link rate marker) s = execRateStep t link rate marker s := rfl
@[simp] theorem exec_laneDrop (t : Nat) (link : BitVec 5) (lanes : BitVec 4) (s : State) :
    exec (.laneDrop t link lanes) s = execLaneDrop t link lanes s := rfl
@[simp] theorem exec_laneRejoin (t : Nat) (link : BitVec 5) (lanes : BitVec 4) (marker : Word) (s : State) :
    exec (.laneRejoin t link lanes marker) s = execLaneRejoin t link lanes marker s := rfl
@[simp] theorem exec_goodbye (t : Nat) (link : BitVec 5) (cause : Byte) (s : State) :
    exec (.goodbye t link cause) s = execGoodbye t link cause s := rfl
@[simp] theorem exec_desc (t : Nat) (opcode : Byte) (d : DescBody) (ok : Bool) (s : State) :
    exec (.desc t opcode d ok) s = execDesc t opcode d ok s := rfl
@[simp] theorem exec_cpl (t : Nat) (link : BitVec 4) (fn : Fn) (sq : BitVec 8) (b : CplBody) (s : State) :
    exec (.cpl t link fn sq b) s = execCpl t link fn sq b s := rfl
@[simp] theorem exec_record (t : Nat) (link : BitVec 4) (gen : BitVec 2) (rs : List EqRecord) (s : State) :
    exec (.record t link gen rs) s = execRecord t link gen rs s := rfl
@[simp] theorem exec_fault (t : Nat) (link : BitVec 4) (fn : Fn) (r : FqRecord) (s : State) :
    exec (.fault t link fn r) s = execFault t link fn r s := rfl
@[simp] theorem exec_gustSense (t : Nat) (link : BitVec 4) (tea : BitVec 24) (cap : Nat) (bytes : List Byte) (s : State) :
    exec (.gustSense t link tea cap bytes) s = execGustSense t link tea cap bytes s := rfl
@[simp] theorem exec_gustAct (t : Nat) (tea : BitVec 24) (ra : BitVec 21) (gale : Bool) (cap : Nat) (bytesMask : Byte) (bytes : List Byte) (s : State) :
    exec (.gustAct t tea ra gale cap bytesMask bytes) s = execGustAct t tea ra gale cap bytesMask bytes s := rfl
@[simp] theorem exec_gustSubscribe (t : Nat) (tea : BitVec 24) (gale : Bool) (s : State) :
    exec (.gustSubscribe t tea gale) s = execGustSubscribe t tea gale s := rfl
@[simp] theorem exec_gustUnsubscribe (t : Nat) (tea : BitVec 24) (s : State) :
    exec (.gustUnsubscribe t tea) s = execGustUnsubscribe t tea s := rfl
@[simp] theorem exec_gustDeposit (t : Nat) (ra : BitVec 21) (rule : BitVec 256) (s : State) :
    exec (.gustDeposit t ra rule) s = execGustDeposit t ra rule s := rfl
@[simp] theorem exec_gustWithdraw (t : Nat) (ra : BitVec 21) (s : State) :
    exec (.gustWithdraw t ra) s = execGustWithdraw t ra s := rfl
@[simp] theorem exec_gustResult (t : Nat) (link : BitVec 4) (tea : BitVec 24) (ra : BitVec 21) (outcome : Byte) (at_ : Nat) (s : State) :
    exec (.gustResult t link tea ra outcome at_) s = execGustResult t link tea ra outcome at_ s := rfl
@[simp] theorem exec_config (t : Nat) (p : UpParams) (s : State) :
    exec (.config t p) s = execConfig t p s := rfl
@[simp] theorem exec_lid (t : Nat) (link : BitVec 5) (b : LidBody) (s : State) :
    exec (.lid t link b) s = execLid t link b s := rfl
@[simp] theorem exec_lauth (t : Nat) (link : BitVec 5) (b : LauthBody) (s : State) :
    exec (.lauth t link b) s = execLauth t link b s := rfl
@[simp] theorem exec_role (t : Nat) (hub : BitVec 5) (frame : Word) (ftime : Nat) (p : UpParams) (s : State) :
    exec (.role t hub frame ftime p) s = execRole t hub frame ftime p s := rfl
@[simp] theorem exec_roleAck (t : Nat) (link : BitVec 4) (accepted : Bool) (s : State) :
    exec (.roleAck t link accepted) s = execRoleAck t link accepted s := rfl
@[simp] theorem exec_timeSyncSend (t : Nat) (link : BitVec 4) (s : State) :
    exec (.timeSyncSend t link) s = execTimeSyncSend t link s := rfl
@[simp] theorem exec_timeSync (t : Nat) (m : SyncMsg) (s : State) :
    exec (.timeSync t m) s = execTimeSync t m s := rfl
@[simp] theorem exec_timeReply (t : Nat) (link : BitVec 4) (m : ReplyMsg) (s : State) :
    exec (.timeReply t link m) s = execTimeReply t link m s := rfl
@[simp] theorem exec_timeSyncLoss (t : Nat) (s : State) :
    exec (.timeSyncLoss t) s = execTimeSyncLoss t s := rfl
@[simp] theorem exec_vfpMessage (t : Nat) (link : BitVec 4) (f : RxFrame) (s : State) :
    exec (.vfpMessage t link f) s = execVfpMessage t link f s := rfl
@[simp] theorem exec_stream (t : Nat) (link : BitVec 4) (tag : BitVec 16) (ep : BitVec 5) (bytes : List Byte) (s : State) :
    exec (.stream t link tag ep bytes) s = execStream t link tag ep bytes s := rfl
@[simp] theorem exec_streamAck (t : Nat) (link : BitVec 4) (tag : BitVec 16) (stalled : Bool) (s : State) :
    exec (.streamAck t link tag stalled) s = execStreamAck t link tag stalled s := rfl
@[simp] theorem exec_grantTimeout (t : Nat) (link : BitVec 4) (tag : BitVec 16) (s : State) :
    exec (.grantTimeout t link tag) s = execGrantTimeout t link tag s := rfl
@[simp] theorem exec_streamAckTimeout (t : Nat) (link : BitVec 4) (tag : BitVec 16) (s : State) :
    exec (.streamAckTimeout t link tag) s = execStreamAckTimeout t link tag s := rfl
@[simp] theorem exec_ptmExchange (t : Nat) (fn : Fn) (offset : Option Int) (s : State) :
    exec (.ptmExchange t fn offset) s = execPtmExchange t fn offset s := rfl
@[simp] theorem exec_ppsInEdge (t : Nat) (falling : Bool) (s : State) :
    exec (.ppsInEdge t falling) s = execPpsInEdge t falling s := rfl
@[simp] theorem exec_ppsLoss (t : Nat) (s : State) :
    exec (.ppsLoss t) s = execPpsLoss t s := rfl
@[simp] theorem exec_zdaSentence (t : Nat) (utc : Nat) (checksumOk : Bool) (sincePulseMs : Nat) (s : State) :
    exec (.zdaSentence t utc checksumOk sincePulseMs) s = execZdaSentence t utc checksumOk sincePulseMs s := rfl
@[simp] theorem exec_holdoverExpiry (t : Nat) (s : State) :
    exec (.holdoverExpiry t) s = execHoldoverExpiry t s := rfl
@[simp] theorem exec_slewComplete (t : Nat) (s : State) :
    exec (.slewComplete t) s = execSlewComplete t s := rfl
@[simp] theorem exec_ppsOutPulse (t : Nat) (s : State) :
    exec (.ppsOutPulse t) s = execPpsOutPulse t s := rfl
@[simp] theorem exec_timeRefLoss (t : Nat) (s : State) :
    exec (.timeRefLoss t) s = execTimeRefLoss t s := rfl
@[simp] theorem exec_timeRefRestore (t : Nat) (s : State) :
    exec (.timeRefRestore t) s = execTimeRefRestore t s := rfl
@[simp] theorem exec_refclkSysLoss (t : Nat) (s : State) :
    exec (.refclkSysLoss t) s = execRefclkSysLoss t s := rfl
@[simp] theorem exec_refclkSysRestore (t : Nat) (b : BootIn) (s : State) :
    exec (.refclkSysRestore t b) s = execRefclkSysRestore t b s := rfl
@[simp] theorem exec_confirmWindowExpiry (t : Nat) (b : BootIn) (s : State) :
    exec (.confirmWindowExpiry t b) s = execConfirmWindowExpiry t b s := rfl
@[simp] theorem exec_activating (t : Nat) (s : State) :
    exec (.activating t) s = execActivating t s := rfl
@[simp] theorem exec_scheduledActivation (t : Nat) (b : BootIn) (s : State) :
    exec (.scheduledActivation t b) s = execScheduledActivation t b s := rfl
@[simp] theorem exec_backoffExpiry (t : Nat) (port : Nat) (s : State) :
    exec (.backoffExpiry t port) s = execBackoffExpiry t port s := rfl
@[simp] theorem exec_retryCountReset (t : Nat) (port : Nat) (s : State) :
    exec (.retryCountReset t port) s = execRetryCountReset t port s := rfl
@[simp] theorem exec_rampComplete (t : Nat) (port : Nat) (s : State) :
    exec (.rampComplete t port) s = execRampComplete t port s := rfl
@[simp] theorem exec_breakerTrip (t : Nat) (port : Nat) (test : TripTest) (point : BitVec 3) (s : State) :
    exec (.breakerTrip t port test point) s = execBreakerTrip t port test point s := rfl
@[simp] theorem exec_openSenseTest (t : Nat) (bank : Nat) (shifts : List Int) (s : State) :
    exec (.openSenseTest t bank shifts) s = execOpenSenseTest t bank shifts s := rfl
@[simp] theorem exec_squallLatch (t : Nat) (s : State) :
    exec (.squallLatch t) s = execSquallLatch t s := rfl
@[simp] theorem exec_squallShed (t : Nat) (s : State) :
    exec (.squallShed t) s = execSquallShed t s := rfl
@[simp] theorem exec_sealComplete (t : Nat) (s : State) :
    exec (.sealComplete t) s = execSealComplete t s := rfl
@[simp] theorem exec_squallRecovery (t : Nat) (s : State) :
    exec (.squallRecovery t) s = execSquallRecovery t s := rfl
@[simp] theorem exec_watchCycle (t : Nat) (bank : Nat) (samples : List WatchSample) (s : State) :
    exec (.watchCycle t bank samples) s = execWatchCycle t bank samples s := rfl
@[simp] theorem exec_thermalReading (t : Nat) (temps : List Int) (s : State) :
    exec (.thermalReading t temps) s = execThermalReading t temps s := rfl
@[simp] theorem exec_thermalAutoRestart (t : Nat) (b : BootIn) (s : State) :
    exec (.thermalAutoRestart t b) s = execThermalAutoRestart t b s := rfl
@[simp] theorem exec_vaultTimerExpiry (t : Nat) (b : BootIn) (s : State) :
    exec (.vaultTimerExpiry t b) s = execVaultTimerExpiry t b s := rfl
@[simp] theorem exec_domainWakeStepTimeout (t : Nat) (dom : BitVec 4) (wakeStep : BitVec 2) (s : State) :
    exec (.domainWakeStepTimeout t dom wakeStep) s = execDomainWakeStepTimeout t dom wakeStep s := rfl
@[simp] theorem exec_serviceCoreFailure (t : Nat) (core : BitVec 3) (cause : CoreFault) (b : BootIn) (s : State) :
    exec (.serviceCoreFailure t core cause b) s = execServiceCoreFailure t core cause b s := rfl
@[simp] theorem exec_engineFailure (t : Nat) (port : Nat) (cause : EngineFault) (s : State) :
    exec (.engineFailure t port cause) s = execEngineFailure t port cause s := rfl
@[simp] theorem exec_lockstepMismatch (t : Nat) (b : BootIn) (s : State) :
    exec (.lockstepMismatch t b) s = execLockstepMismatch t b s := rfl
@[simp] theorem exec_watchdogExpiry (t : Nat) (b : BootIn) (s : State) :
    exec (.watchdogExpiry t b) s = execWatchdogExpiry t b s := rfl
@[simp] theorem exec_bootSyncComplete (t : Nat) (s : State) :
    exec (.bootSyncComplete t) s = execBootSyncComplete t s := rfl
@[simp] theorem exec_censusCopyComplete (t : Nat) (s : State) :
    exec (.censusCopyComplete t) s = execCensusCopyComplete t s := rfl
@[simp] theorem exec_folioProgram (t : Nat) (s : State) :
    exec (.folioProgram t) s = execFolioProgram t s := rfl
@[simp] theorem exec_folioEraseAheadDone (t : Nat) (s : State) :
    exec (.folioEraseAheadDone t) s = execFolioEraseAheadDone t s := rfl
@[simp] theorem exec_hostDmaError (t : Nat) (fn : Fn) (w : DmaWhere) (s : State) :
    exec (.hostDmaError t fn w) s = execHostDmaError t fn w s := rfl
@[simp] theorem exec_atomicFail (t : Nat) (fn : Fn) (s : State) :
    exec (.atomicFail t fn) s = execAtomicFail t fn s := rfl
@[simp] theorem exec_busMasterEnable (t : Nat) (fn : Fn) (slots : List Doorbell) (s : State) :
    exec (.busMasterEnable t fn slots) s = execBusMasterEnable t fn slots s := rfl
@[simp] theorem exec_powerOnReset (t : Nat) (b : BootIn) (s : State) :
    exec (.powerOnReset t b) s = execPowerOnReset t b s := rfl
@[simp] theorem exec_perst (t : Nat) (b : BootIn) (s : State) :
    exec (.perst t b) s = execPerst t b s := rfl
@[simp] theorem exec_singlePerst (t : Nat) (fn : Fn) (s : State) :
    exec (.singlePerst t fn) s = execSinglePerst t fn s := rfl
@[simp] theorem exec_typecAttach (t : Nat) (source : Bool) (orient : Bool) (rp : BitVec 2) (b : BootIn) (s : State) :
    exec (.typecAttach t source orient rp b) s = execTypecAttach t source orient rp b s := rfl
@[simp] theorem exec_typecDetach (t : Nat) (s : State) :
    exec (.typecDetach t) s = execTypecDetach t s := rfl
@[simp] theorem exec_pdMessage (t : Nat) (m : PdBlock) (s : State) :
    exec (.pdMessage t m) s = execPdMessage t m s := rfl
@[simp] theorem exec_hardReset (t : Nat) (s : State) :
    exec (.hardReset t) s = execHardReset t s := rfl
@[simp] theorem exec_senderResponseTimeout (t : Nat) (s : State) :
    exec (.senderResponseTimeout t) s = execSenderResponseTimeout t s := rfl
@[simp] theorem exec_hostResponseTimeout (t : Nat) (s : State) :
    exec (.hostResponseTimeout t) s = execHostResponseTimeout t s := rfl
@[simp] theorem exec_errorRecoveryEnd (t : Nat) (s : State) :
    exec (.errorRecoveryEnd t) s = execErrorRecoveryEnd t s := rfl
@[simp] theorem exec_frsVbusCheck (t : Nat) (mv : BitVec 16) (s : State) :
    exec (.frsVbusCheck t mv) s = execFrsVbusCheck t mv s := rfl
@[simp] theorem exec_vbusRemoved (t : Nat) (b : BootIn) (s : State) :
    exec (.vbusRemoved t b) s = execVbusRemoved t b s := rfl
@[simp] theorem exec_deadBatteryStart (t : Nat) (s : State) :
    exec (.deadBatteryStart t) s = execDeadBatteryStart t s := rfl
@[simp] theorem exec_flitReceived (t : Nat) (link : BitVec 5) (f : Flit) (s : State) :
    exec (.flitReceived t link f) s = execFlitReceived t link f s := rfl
@[simp] theorem exec_flashOperationComplete (t : Nat) (r : FlashResult) (s : State) :
    exec (.flashOperationComplete t r) s = execFlashOperationComplete t r s := rfl
@[simp] theorem exec_nvmScrubScan (t : Nat) (s : State) :
    exec (.nvmScrubScan t) s = execNvmScrubScan t s := rfl
@[simp] theorem exec_nvmScanEnd (t : Nat) (words : Nat) (s : State) :
    exec (.nvmScanEnd t words) s = execNvmScanEnd t words s := rfl
@[simp] theorem exec_trngHealthFailure (t : Nat) (adaptive : Bool) (s : State) :
    exec (.trngHealthFailure t adaptive) s = execTrngHealthFailure t adaptive s := rfl
@[simp] theorem exec_trngRecovery (t : Nat) (s : State) :
    exec (.trngRecovery t) s = execTrngRecovery t s := rfl
@[simp] theorem exec_powerTransitionComplete (t : Nat) (s : State) :
    exec (.powerTransitionComplete t) s = execPowerTransitionComplete t s := rfl
@[simp] theorem exec_calibrationComplete (t : Nat) (link : BitVec 5) (s : State) :
    exec (.calibrationComplete t link) s = execCalibrationComplete t link s := rfl
@[simp] theorem exec_pcieLinkUp (t : Nat) (fn : Fn) (width : BitVec 5) (speed : BitVec 4) (s : State) :
    exec (.pcieLinkUp t fn width speed) s = execPcieLinkUp t fn width speed s := rfl
@[simp] theorem exec_perstNRelease (t : Nat) (fn : Fn) (b : BootIn) (s : State) :
    exec (.perstNRelease t fn b) s = execPerstNRelease t fn b s := rfl
@[simp] theorem exec_busMasterEnableClear (t : Nat) (fn : Fn) (s : State) :
    exec (.busMasterEnableClear t fn) s = execBusMasterEnableClear t fn s := rfl
@[simp] theorem exec_atomicopRequesterEnable (t : Nat) (fn : Fn) (on : Bool) (s : State) :
    exec (.atomicopRequesterEnable t fn on) s = execAtomicopRequesterEnable t fn on s := rfl
@[simp] theorem exec_msixUnmask (t : Nat) (fn : Fn) (vec : BitVec 11) (s : State) :
    exec (.msixUnmask t fn vec) s = execMsixUnmask t fn vec s := rfl
@[simp] theorem exec_hostTlpInLull (t : Nat) (fn : Fn) (s : State) :
    exec (.hostTlpInLull t fn) s = execHostTlpInLull t fn s := rfl
@[simp] theorem exec_aoRailChange (t : Nat) (present : Bool) (s : State) :
    exec (.aoRailChange t present) s = execAoRailChange t present s := rfl
@[simp] theorem exec_senseSample (t : Nat) (port : Nat) (ma10 : BitVec 12) (s : State) :
    exec (.senseSample t port ma10) s = execSenseSample t port ma10 s := rfl
@[simp] theorem exec_softStartEnd (t : Nat) (port : Nat) (s : State) :
    exec (.softStartEnd t port) s = execSoftStartEnd t port s := rfl
@[simp] theorem exec_ppsOutFall (t : Nat) (s : State) :
    exec (.ppsOutFall t) s = execPpsOutFall t s := rfl
@[simp] theorem exec_lineFaultEnd (t : Nat) (port : Nat) (s : State) :
    exec (.lineFaultEnd t port) s = execLineFaultEnd t port s := rfl
@[simp] theorem exec_maintConfigured (c : Configured) (s : State) :
    exec (.maintConfigured c) s = execMaintConfigured c s := rfl

end Sys2Proof.Laws
end

