-- ==== Sys2Proof/Laws/State.lean ====
section
/-! SUPPORT. Laws/State: what each update of a state leaves alone, and what it sets; and reading after writing, for the
registers and the contexts. -/
namespace Sys2Proof.Laws
open Sys2Proof.Machine

/-! ## wr -/

@[simp] theorem wr_fc (s : State) (a : Nat) (w : Word) : (s.wr a w).fc = s.fc := rfl
@[simp] theorem wr_tt (s : State) (a : Nat) (w : Word) : (s.wr a w).tt = s.tt := rfl
@[simp] theorem wr_readyAt (s : State) (a : Nat) (w : Word) : (s.wr a w).readyAt = s.readyAt := rfl
@[simp] theorem wr_role (s : State) (a : Nat) (w : Word) : (s.wr a w).role = s.role := rfl
@[simp] theorem wr_neverFramed (s : State) (a : Nat) (w : Word) : (s.wr a w).neverFramed = s.neverFramed := rfl
@[simp] theorem wr_hubNo (s : State) (a : Nat) (w : Word) : (s.wr a w).hubNo = s.hubNo := rfl
@[simp] theorem wr_regs (s : State) (a : Nat) (w : Word) : (s.wr a w).regs = s.regs.put a (resetWord a) w := rfl
@[simp] theorem wr_shadows (s : State) (a : Nat) (w : Word) : (s.wr a w).shadows = s.shadows := rfl
@[simp] theorem wr_latches (s : State) (a : Nat) (w : Word) : (s.wr a w).latches = s.latches := rfl
@[simp] theorem wr_intFn (s : State) (a : Nat) (w : Word) : (s.wr a w).intFn = s.intFn := rfl
@[simp] theorem wr_cen (s : State) (a : Nat) (w : Word) : (s.wr a w).cen = s.cen := rfl
@[simp] theorem wr_badRegs (s : State) (a : Nat) (w : Word) : (s.wr a w).badRegs = s.badRegs := rfl
@[simp] theorem wr_stuckRegs (s : State) (a : Nat) (w : Word) : (s.wr a w).stuckRegs = s.stuckRegs := rfl
@[simp] theorem wr_trngBad (s : State) (a : Nat) (w : Word) : (s.wr a w).trngBad = s.trngBad := rfl
@[simp] theorem wr_locked (s : State) (a : Nat) (w : Word) : (s.wr a w).locked = s.locked := rfl
@[simp] theorem wr_rings (s : State) (a : Nat) (w : Word) : (s.wr a w).rings = s.rings := rfl
@[simp] theorem wr_fn0 (s : State) (a : Nat) (w : Word) : (s.wr a w).fn0 = s.fn0 := rfl
@[simp] theorem wr_fn1 (s : State) (a : Nat) (w : Word) : (s.wr a w).fn1 = s.fn1 := rfl
@[simp] theorem wr_lease (s : State) (a : Nat) (w : Word) : (s.wr a w).lease = s.lease := rfl
@[simp] theorem wr_flight (s : State) (a : Nat) (w : Word) : (s.wr a w).flight = s.flight := rfl
@[simp] theorem wr_cqWait (s : State) (a : Nat) (w : Word) : (s.wr a w).cqWait = s.cqWait := rfl
@[simp] theorem wr_nextId (s : State) (a : Nat) (w : Word) : (s.wr a w).nextId = s.nextId := rfl
@[simp] theorem wr_seqs (s : State) (a : Nat) (w : Word) : (s.wr a w).seqs = s.seqs := rfl
@[simp] theorem wr_seqOwn (s : State) (a : Nat) (w : Word) : (s.wr a w).seqOwn = s.seqOwn := rfl
@[simp] theorem wr_pool (s : State) (a : Nat) (w : Word) : (s.wr a w).pool = s.pool := rfl
@[simp] theorem wr_poolMerged (s : State) (a : Nat) (w : Word) : (s.wr a w).poolMerged = s.poolMerged := rfl
@[simp] theorem wr_catalogue (s : State) (a : Nat) (w : Word) : (s.wr a w).catalogue = s.catalogue := rfl
@[simp] theorem wr_nodes (s : State) (a : Nat) (w : Word) : (s.wr a w).nodes = s.nodes := rfl
@[simp] theorem wr_eps (s : State) (a : Nat) (w : Word) : (s.wr a w).eps = s.eps := rfl
@[simp] theorem wr_segs (s : State) (a : Nat) (w : Word) : (s.wr a w).segs = s.segs := rfl
@[simp] theorem wr_links (s : State) (a : Nat) (w : Word) : (s.wr a w).links = s.links := rfl
@[simp] theorem wr_upHeld (s : State) (a : Nat) (w : Word) : (s.wr a w).upHeld = s.upHeld := rfl
@[simp] theorem wr_orphans (s : State) (a : Nat) (w : Word) : (s.wr a w).orphans = s.orphans := rfl
@[simp] theorem wr_shelves0 (s : State) (a : Nat) (w : Word) : (s.wr a w).shelves0 = s.shelves0 := rfl
@[simp] theorem wr_shelves1 (s : State) (a : Nat) (w : Word) : (s.wr a w).shelves1 = s.shelves1 := rfl
@[simp] theorem wr_later (s : State) (a : Nat) (w : Word) : (s.wr a w).later = s.later := rfl
@[simp] theorem wr_vacated (s : State) (a : Nat) (w : Word) : (s.wr a w).vacated = s.vacated := rfl
@[simp] theorem wr_rules (s : State) (a : Nat) (w : Word) : (s.wr a w).rules = s.rules := rfl
@[simp] theorem wr_branchRules (s : State) (a : Nat) (w : Word) : (s.wr a w).branchRules = s.branchRules := rfl
@[simp] theorem wr_ruleReqs (s : State) (a : Nat) (w : Word) : (s.wr a w).ruleReqs = s.ruleReqs := rfl
@[simp] theorem wr_deposits (s : State) (a : Nat) (w : Word) : (s.wr a w).deposits = s.deposits := rfl
@[simp] theorem wr_subs (s : State) (a : Nat) (w : Word) : (s.wr a w).subs = s.subs := rfl
@[simp] theorem wr_mirror (s : State) (a : Nat) (w : Word) : (s.wr a w).mirror = s.mirror := rfl
@[simp] theorem wr_evals (s : State) (a : Nat) (w : Word) : (s.wr a w).evals = s.evals := rfl
@[simp] theorem wr_slotEvals (s : State) (a : Nat) (w : Word) : (s.wr a w).slotEvals = s.slotEvals := rfl
@[simp] theorem wr_gustActs (s : State) (a : Nat) (w : Word) : (s.wr a w).gustActs = s.gustActs := rfl
@[simp] theorem wr_spws (s : State) (a : Nat) (w : Word) : (s.wr a w).spws = s.spws := rfl
@[simp] theorem wr_pw (s : State) (a : Nat) (w : Word) : (s.wr a w).pw = s.pw := rfl
@[simp] theorem wr_folio (s : State) (a : Nat) (w : Word) : (s.wr a w).folio = s.folio := rfl
@[simp] theorem wr_nvm (s : State) (a : Nat) (w : Word) : (s.wr a w).nvm = s.nvm := rfl
@[simp] theorem wr_port (s : State) (a : Nat) (w : Word) : (s.wr a w).port = s.port := rfl
@[simp] theorem wr_sram (s : State) (a : Nat) (w : Word) : (s.wr a w).sram = s.sram := rfl
@[simp] theorem wr_movesThisEpoch (s : State) (a : Nat) (w : Word) : (s.wr a w).movesThisEpoch = s.movesThisEpoch := rfl
@[simp] theorem wr_epochFrame (s : State) (a : Nat) (w : Word) : (s.wr a w).epochFrame = s.epochFrame := rfl
@[simp] theorem wr_freeCtr (s : State) (a : Nat) (w : Word) : (s.wr a w).freeCtr = s.freeCtr := rfl
@[simp] theorem wr_bootAt (s : State) (a : Nat) (w : Word) : (s.wr a w).bootAt = s.bootAt := rfl
@[simp] theorem wr_booted (s : State) (a : Nat) (w : Word) : (s.wr a w).booted = s.booted := rfl
@[simp] theorem wr_starting (s : State) (a : Nat) (w : Word) : (s.wr a w).starting = s.starting := rfl
@[simp] theorem wr_out (s : State) (a : Nat) (w : Word) : (s.wr a w).out = s.out := rfl
@[simp] theorem wr_pending (s : State) (a : Nat) (w : Word) : (s.wr a w).pending = s.pending := rfl

/-! ## setFld -/

@[simp] theorem setFld_fc (s : State) (a : Nat) (r : BitRange) (v : Nat) : (s.setFld a r v).fc = s.fc := rfl
@[simp] theorem setFld_tt (s : State) (a : Nat) (r : BitRange) (v : Nat) : (s.setFld a r v).tt = s.tt := rfl
@[simp] theorem setFld_readyAt (s : State) (a : Nat) (r : BitRange) (v : Nat) : (s.setFld a r v).readyAt = s.readyAt := rfl
@[simp] theorem setFld_role (s : State) (a : Nat) (r : BitRange) (v : Nat) : (s.setFld a r v).role = s.role := rfl
@[simp] theorem setFld_neverFramed (s : State) (a : Nat) (r : BitRange) (v : Nat) : (s.setFld a r v).neverFramed = s.neverFramed := rfl
@[simp] theorem setFld_hubNo (s : State) (a : Nat) (r : BitRange) (v : Nat) : (s.setFld a r v).hubNo = s.hubNo := rfl
@[simp] theorem setFld_shadows (s : State) (a : Nat) (r : BitRange) (v : Nat) : (s.setFld a r v).shadows = s.shadows := rfl
@[simp] theorem setFld_latches (s : State) (a : Nat) (r : BitRange) (v : Nat) : (s.setFld a r v).latches = s.latches := rfl
@[simp] theorem setFld_intFn (s : State) (a : Nat) (r : BitRange) (v : Nat) : (s.setFld a r v).intFn = s.intFn := rfl
@[simp] theorem setFld_cen (s : State) (a : Nat) (r : BitRange) (v : Nat) : (s.setFld a r v).cen = s.cen := rfl
@[simp] theorem setFld_badRegs (s : State) (a : Nat) (r : BitRange) (v : Nat) : (s.setFld a r v).badRegs = s.badRegs := rfl
@[simp] theorem setFld_stuckRegs (s : State) (a : Nat) (r : BitRange) (v : Nat) : (s.setFld a r v).stuckRegs = s.stuckRegs := rfl
@[simp] theorem setFld_trngBad (s : State) (a : Nat) (r : BitRange) (v : Nat) : (s.setFld a r v).trngBad = s.trngBad := rfl
@[simp] theorem setFld_locked (s : State) (a : Nat) (r : BitRange) (v : Nat) : (s.setFld a r v).locked = s.locked := rfl
@[simp] theorem setFld_rings (s : State) (a : Nat) (r : BitRange) (v : Nat) : (s.setFld a r v).rings = s.rings := rfl
@[simp] theorem setFld_fn0 (s : State) (a : Nat) (r : BitRange) (v : Nat) : (s.setFld a r v).fn0 = s.fn0 := rfl
@[simp] theorem setFld_fn1 (s : State) (a : Nat) (r : BitRange) (v : Nat) : (s.setFld a r v).fn1 = s.fn1 := rfl
@[simp] theorem setFld_lease (s : State) (a : Nat) (r : BitRange) (v : Nat) : (s.setFld a r v).lease = s.lease := rfl
@[simp] theorem setFld_flight (s : State) (a : Nat) (r : BitRange) (v : Nat) : (s.setFld a r v).flight = s.flight := rfl
@[simp] theorem setFld_cqWait (s : State) (a : Nat) (r : BitRange) (v : Nat) : (s.setFld a r v).cqWait = s.cqWait := rfl
@[simp] theorem setFld_nextId (s : State) (a : Nat) (r : BitRange) (v : Nat) : (s.setFld a r v).nextId = s.nextId := rfl
@[simp] theorem setFld_seqs (s : State) (a : Nat) (r : BitRange) (v : Nat) : (s.setFld a r v).seqs = s.seqs := rfl
@[simp] theorem setFld_seqOwn (s : State) (a : Nat) (r : BitRange) (v : Nat) : (s.setFld a r v).seqOwn = s.seqOwn := rfl
@[simp] theorem setFld_pool (s : State) (a : Nat) (r : BitRange) (v : Nat) : (s.setFld a r v).pool = s.pool := rfl
@[simp] theorem setFld_poolMerged (s : State) (a : Nat) (r : BitRange) (v : Nat) : (s.setFld a r v).poolMerged = s.poolMerged := rfl
@[simp] theorem setFld_catalogue (s : State) (a : Nat) (r : BitRange) (v : Nat) : (s.setFld a r v).catalogue = s.catalogue := rfl
@[simp] theorem setFld_nodes (s : State) (a : Nat) (r : BitRange) (v : Nat) : (s.setFld a r v).nodes = s.nodes := rfl
@[simp] theorem setFld_eps (s : State) (a : Nat) (r : BitRange) (v : Nat) : (s.setFld a r v).eps = s.eps := rfl
@[simp] theorem setFld_segs (s : State) (a : Nat) (r : BitRange) (v : Nat) : (s.setFld a r v).segs = s.segs := rfl
@[simp] theorem setFld_links (s : State) (a : Nat) (r : BitRange) (v : Nat) : (s.setFld a r v).links = s.links := rfl
@[simp] theorem setFld_upHeld (s : State) (a : Nat) (r : BitRange) (v : Nat) : (s.setFld a r v).upHeld = s.upHeld := rfl
@[simp] theorem setFld_orphans (s : State) (a : Nat) (r : BitRange) (v : Nat) : (s.setFld a r v).orphans = s.orphans := rfl
@[simp] theorem setFld_shelves0 (s : State) (a : Nat) (r : BitRange) (v : Nat) : (s.setFld a r v).shelves0 = s.shelves0 := rfl
@[simp] theorem setFld_shelves1 (s : State) (a : Nat) (r : BitRange) (v : Nat) : (s.setFld a r v).shelves1 = s.shelves1 := rfl
@[simp] theorem setFld_later (s : State) (a : Nat) (r : BitRange) (v : Nat) : (s.setFld a r v).later = s.later := rfl
@[simp] theorem setFld_vacated (s : State) (a : Nat) (r : BitRange) (v : Nat) : (s.setFld a r v).vacated = s.vacated := rfl
@[simp] theorem setFld_rules (s : State) (a : Nat) (r : BitRange) (v : Nat) : (s.setFld a r v).rules = s.rules := rfl
@[simp] theorem setFld_branchRules (s : State) (a : Nat) (r : BitRange) (v : Nat) : (s.setFld a r v).branchRules = s.branchRules := rfl
@[simp] theorem setFld_ruleReqs (s : State) (a : Nat) (r : BitRange) (v : Nat) : (s.setFld a r v).ruleReqs = s.ruleReqs := rfl
@[simp] theorem setFld_deposits (s : State) (a : Nat) (r : BitRange) (v : Nat) : (s.setFld a r v).deposits = s.deposits := rfl
@[simp] theorem setFld_subs (s : State) (a : Nat) (r : BitRange) (v : Nat) : (s.setFld a r v).subs = s.subs := rfl
@[simp] theorem setFld_mirror (s : State) (a : Nat) (r : BitRange) (v : Nat) : (s.setFld a r v).mirror = s.mirror := rfl
@[simp] theorem setFld_evals (s : State) (a : Nat) (r : BitRange) (v : Nat) : (s.setFld a r v).evals = s.evals := rfl
@[simp] theorem setFld_slotEvals (s : State) (a : Nat) (r : BitRange) (v : Nat) : (s.setFld a r v).slotEvals = s.slotEvals := rfl
@[simp] theorem setFld_gustActs (s : State) (a : Nat) (r : BitRange) (v : Nat) : (s.setFld a r v).gustActs = s.gustActs := rfl
@[simp] theorem setFld_spws (s : State) (a : Nat) (r : BitRange) (v : Nat) : (s.setFld a r v).spws = s.spws := rfl
@[simp] theorem setFld_pw (s : State) (a : Nat) (r : BitRange) (v : Nat) : (s.setFld a r v).pw = s.pw := rfl
@[simp] theorem setFld_folio (s : State) (a : Nat) (r : BitRange) (v : Nat) : (s.setFld a r v).folio = s.folio := rfl
@[simp] theorem setFld_nvm (s : State) (a : Nat) (r : BitRange) (v : Nat) : (s.setFld a r v).nvm = s.nvm := rfl
@[simp] theorem setFld_port (s : State) (a : Nat) (r : BitRange) (v : Nat) : (s.setFld a r v).port = s.port := rfl
@[simp] theorem setFld_sram (s : State) (a : Nat) (r : BitRange) (v : Nat) : (s.setFld a r v).sram = s.sram := rfl
@[simp] theorem setFld_movesThisEpoch (s : State) (a : Nat) (r : BitRange) (v : Nat) : (s.setFld a r v).movesThisEpoch = s.movesThisEpoch := rfl
@[simp] theorem setFld_epochFrame (s : State) (a : Nat) (r : BitRange) (v : Nat) : (s.setFld a r v).epochFrame = s.epochFrame := rfl
@[simp] theorem setFld_freeCtr (s : State) (a : Nat) (r : BitRange) (v : Nat) : (s.setFld a r v).freeCtr = s.freeCtr := rfl
@[simp] theorem setFld_bootAt (s : State) (a : Nat) (r : BitRange) (v : Nat) : (s.setFld a r v).bootAt = s.bootAt := rfl
@[simp] theorem setFld_booted (s : State) (a : Nat) (r : BitRange) (v : Nat) : (s.setFld a r v).booted = s.booted := rfl
@[simp] theorem setFld_starting (s : State) (a : Nat) (r : BitRange) (v : Nat) : (s.setFld a r v).starting = s.starting := rfl
@[simp] theorem setFld_out (s : State) (a : Nat) (r : BitRange) (v : Nat) : (s.setFld a r v).out = s.out := rfl
@[simp] theorem setFld_pending (s : State) (a : Nat) (r : BitRange) (v : Nat) : (s.setFld a r v).pending = s.pending := rfl

/-! ## setFlag -/

@[simp] theorem setFlag_fc (s : State) (a : Nat) (r : BitRange) (v : Bool) : (s.setFlag a r v).fc = s.fc := rfl
@[simp] theorem setFlag_tt (s : State) (a : Nat) (r : BitRange) (v : Bool) : (s.setFlag a r v).tt = s.tt := rfl
@[simp] theorem setFlag_readyAt (s : State) (a : Nat) (r : BitRange) (v : Bool) : (s.setFlag a r v).readyAt = s.readyAt := rfl
@[simp] theorem setFlag_role (s : State) (a : Nat) (r : BitRange) (v : Bool) : (s.setFlag a r v).role = s.role := rfl
@[simp] theorem setFlag_neverFramed (s : State) (a : Nat) (r : BitRange) (v : Bool) : (s.setFlag a r v).neverFramed = s.neverFramed := rfl
@[simp] theorem setFlag_hubNo (s : State) (a : Nat) (r : BitRange) (v : Bool) : (s.setFlag a r v).hubNo = s.hubNo := rfl
@[simp] theorem setFlag_shadows (s : State) (a : Nat) (r : BitRange) (v : Bool) : (s.setFlag a r v).shadows = s.shadows := rfl
@[simp] theorem setFlag_latches (s : State) (a : Nat) (r : BitRange) (v : Bool) : (s.setFlag a r v).latches = s.latches := rfl
@[simp] theorem setFlag_intFn (s : State) (a : Nat) (r : BitRange) (v : Bool) : (s.setFlag a r v).intFn = s.intFn := rfl
@[simp] theorem setFlag_cen (s : State) (a : Nat) (r : BitRange) (v : Bool) : (s.setFlag a r v).cen = s.cen := rfl
@[simp] theorem setFlag_badRegs (s : State) (a : Nat) (r : BitRange) (v : Bool) : (s.setFlag a r v).badRegs = s.badRegs := rfl
@[simp] theorem setFlag_stuckRegs (s : State) (a : Nat) (r : BitRange) (v : Bool) : (s.setFlag a r v).stuckRegs = s.stuckRegs := rfl
@[simp] theorem setFlag_trngBad (s : State) (a : Nat) (r : BitRange) (v : Bool) : (s.setFlag a r v).trngBad = s.trngBad := rfl
@[simp] theorem setFlag_locked (s : State) (a : Nat) (r : BitRange) (v : Bool) : (s.setFlag a r v).locked = s.locked := rfl
@[simp] theorem setFlag_rings (s : State) (a : Nat) (r : BitRange) (v : Bool) : (s.setFlag a r v).rings = s.rings := rfl
@[simp] theorem setFlag_fn0 (s : State) (a : Nat) (r : BitRange) (v : Bool) : (s.setFlag a r v).fn0 = s.fn0 := rfl
@[simp] theorem setFlag_fn1 (s : State) (a : Nat) (r : BitRange) (v : Bool) : (s.setFlag a r v).fn1 = s.fn1 := rfl
@[simp] theorem setFlag_lease (s : State) (a : Nat) (r : BitRange) (v : Bool) : (s.setFlag a r v).lease = s.lease := rfl
@[simp] theorem setFlag_flight (s : State) (a : Nat) (r : BitRange) (v : Bool) : (s.setFlag a r v).flight = s.flight := rfl
@[simp] theorem setFlag_cqWait (s : State) (a : Nat) (r : BitRange) (v : Bool) : (s.setFlag a r v).cqWait = s.cqWait := rfl
@[simp] theorem setFlag_nextId (s : State) (a : Nat) (r : BitRange) (v : Bool) : (s.setFlag a r v).nextId = s.nextId := rfl
@[simp] theorem setFlag_seqs (s : State) (a : Nat) (r : BitRange) (v : Bool) : (s.setFlag a r v).seqs = s.seqs := rfl
@[simp] theorem setFlag_seqOwn (s : State) (a : Nat) (r : BitRange) (v : Bool) : (s.setFlag a r v).seqOwn = s.seqOwn := rfl
@[simp] theorem setFlag_pool (s : State) (a : Nat) (r : BitRange) (v : Bool) : (s.setFlag a r v).pool = s.pool := rfl
@[simp] theorem setFlag_poolMerged (s : State) (a : Nat) (r : BitRange) (v : Bool) : (s.setFlag a r v).poolMerged = s.poolMerged := rfl
@[simp] theorem setFlag_catalogue (s : State) (a : Nat) (r : BitRange) (v : Bool) : (s.setFlag a r v).catalogue = s.catalogue := rfl
@[simp] theorem setFlag_nodes (s : State) (a : Nat) (r : BitRange) (v : Bool) : (s.setFlag a r v).nodes = s.nodes := rfl
@[simp] theorem setFlag_eps (s : State) (a : Nat) (r : BitRange) (v : Bool) : (s.setFlag a r v).eps = s.eps := rfl
@[simp] theorem setFlag_segs (s : State) (a : Nat) (r : BitRange) (v : Bool) : (s.setFlag a r v).segs = s.segs := rfl
@[simp] theorem setFlag_links (s : State) (a : Nat) (r : BitRange) (v : Bool) : (s.setFlag a r v).links = s.links := rfl
@[simp] theorem setFlag_upHeld (s : State) (a : Nat) (r : BitRange) (v : Bool) : (s.setFlag a r v).upHeld = s.upHeld := rfl
@[simp] theorem setFlag_orphans (s : State) (a : Nat) (r : BitRange) (v : Bool) : (s.setFlag a r v).orphans = s.orphans := rfl
@[simp] theorem setFlag_shelves0 (s : State) (a : Nat) (r : BitRange) (v : Bool) : (s.setFlag a r v).shelves0 = s.shelves0 := rfl
@[simp] theorem setFlag_shelves1 (s : State) (a : Nat) (r : BitRange) (v : Bool) : (s.setFlag a r v).shelves1 = s.shelves1 := rfl
@[simp] theorem setFlag_later (s : State) (a : Nat) (r : BitRange) (v : Bool) : (s.setFlag a r v).later = s.later := rfl
@[simp] theorem setFlag_vacated (s : State) (a : Nat) (r : BitRange) (v : Bool) : (s.setFlag a r v).vacated = s.vacated := rfl
@[simp] theorem setFlag_rules (s : State) (a : Nat) (r : BitRange) (v : Bool) : (s.setFlag a r v).rules = s.rules := rfl
@[simp] theorem setFlag_branchRules (s : State) (a : Nat) (r : BitRange) (v : Bool) : (s.setFlag a r v).branchRules = s.branchRules := rfl
@[simp] theorem setFlag_ruleReqs (s : State) (a : Nat) (r : BitRange) (v : Bool) : (s.setFlag a r v).ruleReqs = s.ruleReqs := rfl
@[simp] theorem setFlag_deposits (s : State) (a : Nat) (r : BitRange) (v : Bool) : (s.setFlag a r v).deposits = s.deposits := rfl
@[simp] theorem setFlag_subs (s : State) (a : Nat) (r : BitRange) (v : Bool) : (s.setFlag a r v).subs = s.subs := rfl
@[simp] theorem setFlag_mirror (s : State) (a : Nat) (r : BitRange) (v : Bool) : (s.setFlag a r v).mirror = s.mirror := rfl
@[simp] theorem setFlag_evals (s : State) (a : Nat) (r : BitRange) (v : Bool) : (s.setFlag a r v).evals = s.evals := rfl
@[simp] theorem setFlag_slotEvals (s : State) (a : Nat) (r : BitRange) (v : Bool) : (s.setFlag a r v).slotEvals = s.slotEvals := rfl
@[simp] theorem setFlag_gustActs (s : State) (a : Nat) (r : BitRange) (v : Bool) : (s.setFlag a r v).gustActs = s.gustActs := rfl
@[simp] theorem setFlag_spws (s : State) (a : Nat) (r : BitRange) (v : Bool) : (s.setFlag a r v).spws = s.spws := rfl
@[simp] theorem setFlag_pw (s : State) (a : Nat) (r : BitRange) (v : Bool) : (s.setFlag a r v).pw = s.pw := rfl
@[simp] theorem setFlag_folio (s : State) (a : Nat) (r : BitRange) (v : Bool) : (s.setFlag a r v).folio = s.folio := rfl
@[simp] theorem setFlag_nvm (s : State) (a : Nat) (r : BitRange) (v : Bool) : (s.setFlag a r v).nvm = s.nvm := rfl
@[simp] theorem setFlag_port (s : State) (a : Nat) (r : BitRange) (v : Bool) : (s.setFlag a r v).port = s.port := rfl
@[simp] theorem setFlag_sram (s : State) (a : Nat) (r : BitRange) (v : Bool) : (s.setFlag a r v).sram = s.sram := rfl
@[simp] theorem setFlag_movesThisEpoch (s : State) (a : Nat) (r : BitRange) (v : Bool) : (s.setFlag a r v).movesThisEpoch = s.movesThisEpoch := rfl
@[simp] theorem setFlag_epochFrame (s : State) (a : Nat) (r : BitRange) (v : Bool) : (s.setFlag a r v).epochFrame = s.epochFrame := rfl
@[simp] theorem setFlag_freeCtr (s : State) (a : Nat) (r : BitRange) (v : Bool) : (s.setFlag a r v).freeCtr = s.freeCtr := rfl
@[simp] theorem setFlag_bootAt (s : State) (a : Nat) (r : BitRange) (v : Bool) : (s.setFlag a r v).bootAt = s.bootAt := rfl
@[simp] theorem setFlag_booted (s : State) (a : Nat) (r : BitRange) (v : Bool) : (s.setFlag a r v).booted = s.booted := rfl
@[simp] theorem setFlag_starting (s : State) (a : Nat) (r : BitRange) (v : Bool) : (s.setFlag a r v).starting = s.starting := rfl
@[simp] theorem setFlag_out (s : State) (a : Nat) (r : BitRange) (v : Bool) : (s.setFlag a r v).out = s.out := rfl
@[simp] theorem setFlag_pending (s : State) (a : Nat) (r : BitRange) (v : Bool) : (s.setFlag a r v).pending = s.pending := rfl

/-! ## bump -/

@[simp] theorem bump_fc (s : State) (a n : Nat) : (s.bump a n).fc = s.fc := rfl
@[simp] theorem bump_tt (s : State) (a n : Nat) : (s.bump a n).tt = s.tt := rfl
@[simp] theorem bump_readyAt (s : State) (a n : Nat) : (s.bump a n).readyAt = s.readyAt := rfl
@[simp] theorem bump_role (s : State) (a n : Nat) : (s.bump a n).role = s.role := rfl
@[simp] theorem bump_neverFramed (s : State) (a n : Nat) : (s.bump a n).neverFramed = s.neverFramed := rfl
@[simp] theorem bump_hubNo (s : State) (a n : Nat) : (s.bump a n).hubNo = s.hubNo := rfl
@[simp] theorem bump_shadows (s : State) (a n : Nat) : (s.bump a n).shadows = s.shadows := rfl
@[simp] theorem bump_latches (s : State) (a n : Nat) : (s.bump a n).latches = s.latches := rfl
@[simp] theorem bump_intFn (s : State) (a n : Nat) : (s.bump a n).intFn = s.intFn := rfl
@[simp] theorem bump_cen (s : State) (a n : Nat) : (s.bump a n).cen = s.cen := rfl
@[simp] theorem bump_badRegs (s : State) (a n : Nat) : (s.bump a n).badRegs = s.badRegs := rfl
@[simp] theorem bump_stuckRegs (s : State) (a n : Nat) : (s.bump a n).stuckRegs = s.stuckRegs := rfl
@[simp] theorem bump_trngBad (s : State) (a n : Nat) : (s.bump a n).trngBad = s.trngBad := rfl
@[simp] theorem bump_locked (s : State) (a n : Nat) : (s.bump a n).locked = s.locked := rfl
@[simp] theorem bump_rings (s : State) (a n : Nat) : (s.bump a n).rings = s.rings := rfl
@[simp] theorem bump_fn0 (s : State) (a n : Nat) : (s.bump a n).fn0 = s.fn0 := rfl
@[simp] theorem bump_fn1 (s : State) (a n : Nat) : (s.bump a n).fn1 = s.fn1 := rfl
@[simp] theorem bump_lease (s : State) (a n : Nat) : (s.bump a n).lease = s.lease := rfl
@[simp] theorem bump_flight (s : State) (a n : Nat) : (s.bump a n).flight = s.flight := rfl
@[simp] theorem bump_cqWait (s : State) (a n : Nat) : (s.bump a n).cqWait = s.cqWait := rfl
@[simp] theorem bump_nextId (s : State) (a n : Nat) : (s.bump a n).nextId = s.nextId := rfl
@[simp] theorem bump_seqs (s : State) (a n : Nat) : (s.bump a n).seqs = s.seqs := rfl
@[simp] theorem bump_seqOwn (s : State) (a n : Nat) : (s.bump a n).seqOwn = s.seqOwn := rfl
@[simp] theorem bump_pool (s : State) (a n : Nat) : (s.bump a n).pool = s.pool := rfl
@[simp] theorem bump_poolMerged (s : State) (a n : Nat) : (s.bump a n).poolMerged = s.poolMerged := rfl
@[simp] theorem bump_catalogue (s : State) (a n : Nat) : (s.bump a n).catalogue = s.catalogue := rfl
@[simp] theorem bump_nodes (s : State) (a n : Nat) : (s.bump a n).nodes = s.nodes := rfl
@[simp] theorem bump_eps (s : State) (a n : Nat) : (s.bump a n).eps = s.eps := rfl
@[simp] theorem bump_segs (s : State) (a n : Nat) : (s.bump a n).segs = s.segs := rfl
@[simp] theorem bump_links (s : State) (a n : Nat) : (s.bump a n).links = s.links := rfl
@[simp] theorem bump_upHeld (s : State) (a n : Nat) : (s.bump a n).upHeld = s.upHeld := rfl
@[simp] theorem bump_orphans (s : State) (a n : Nat) : (s.bump a n).orphans = s.orphans := rfl
@[simp] theorem bump_shelves0 (s : State) (a n : Nat) : (s.bump a n).shelves0 = s.shelves0 := rfl
@[simp] theorem bump_shelves1 (s : State) (a n : Nat) : (s.bump a n).shelves1 = s.shelves1 := rfl
@[simp] theorem bump_later (s : State) (a n : Nat) : (s.bump a n).later = s.later := rfl
@[simp] theorem bump_vacated (s : State) (a n : Nat) : (s.bump a n).vacated = s.vacated := rfl
@[simp] theorem bump_rules (s : State) (a n : Nat) : (s.bump a n).rules = s.rules := rfl
@[simp] theorem bump_branchRules (s : State) (a n : Nat) : (s.bump a n).branchRules = s.branchRules := rfl
@[simp] theorem bump_ruleReqs (s : State) (a n : Nat) : (s.bump a n).ruleReqs = s.ruleReqs := rfl
@[simp] theorem bump_deposits (s : State) (a n : Nat) : (s.bump a n).deposits = s.deposits := rfl
@[simp] theorem bump_subs (s : State) (a n : Nat) : (s.bump a n).subs = s.subs := rfl
@[simp] theorem bump_mirror (s : State) (a n : Nat) : (s.bump a n).mirror = s.mirror := rfl
@[simp] theorem bump_evals (s : State) (a n : Nat) : (s.bump a n).evals = s.evals := rfl
@[simp] theorem bump_slotEvals (s : State) (a n : Nat) : (s.bump a n).slotEvals = s.slotEvals := rfl
@[simp] theorem bump_gustActs (s : State) (a n : Nat) : (s.bump a n).gustActs = s.gustActs := rfl
@[simp] theorem bump_spws (s : State) (a n : Nat) : (s.bump a n).spws = s.spws := rfl
@[simp] theorem bump_pw (s : State) (a n : Nat) : (s.bump a n).pw = s.pw := rfl
@[simp] theorem bump_folio (s : State) (a n : Nat) : (s.bump a n).folio = s.folio := rfl
@[simp] theorem bump_nvm (s : State) (a n : Nat) : (s.bump a n).nvm = s.nvm := rfl
@[simp] theorem bump_port (s : State) (a n : Nat) : (s.bump a n).port = s.port := rfl
@[simp] theorem bump_sram (s : State) (a n : Nat) : (s.bump a n).sram = s.sram := rfl
@[simp] theorem bump_movesThisEpoch (s : State) (a n : Nat) : (s.bump a n).movesThisEpoch = s.movesThisEpoch := rfl
@[simp] theorem bump_epochFrame (s : State) (a n : Nat) : (s.bump a n).epochFrame = s.epochFrame := rfl
@[simp] theorem bump_freeCtr (s : State) (a n : Nat) : (s.bump a n).freeCtr = s.freeCtr := rfl
@[simp] theorem bump_bootAt (s : State) (a n : Nat) : (s.bump a n).bootAt = s.bootAt := rfl
@[simp] theorem bump_booted (s : State) (a n : Nat) : (s.bump a n).booted = s.booted := rfl
@[simp] theorem bump_starting (s : State) (a n : Nat) : (s.bump a n).starting = s.starting := rfl
@[simp] theorem bump_out (s : State) (a n : Nat) : (s.bump a n).out = s.out := rfl
@[simp] theorem bump_pending (s : State) (a n : Nat) : (s.bump a n).pending = s.pending := rfl

/-! ## setRing -/

@[simp] theorem setRing_fc (s : State) (f : Fn) (i : Nat) (r : Ring) : (s.setRing f i r).fc = s.fc := rfl
@[simp] theorem setRing_tt (s : State) (f : Fn) (i : Nat) (r : Ring) : (s.setRing f i r).tt = s.tt := rfl
@[simp] theorem setRing_readyAt (s : State) (f : Fn) (i : Nat) (r : Ring) : (s.setRing f i r).readyAt = s.readyAt := rfl
@[simp] theorem setRing_role (s : State) (f : Fn) (i : Nat) (r : Ring) : (s.setRing f i r).role = s.role := rfl
@[simp] theorem setRing_neverFramed (s : State) (f : Fn) (i : Nat) (r : Ring) : (s.setRing f i r).neverFramed = s.neverFramed := rfl
@[simp] theorem setRing_hubNo (s : State) (f : Fn) (i : Nat) (r : Ring) : (s.setRing f i r).hubNo = s.hubNo := rfl
@[simp] theorem setRing_regs (s : State) (f : Fn) (i : Nat) (r : Ring) : (s.setRing f i r).regs = s.regs := rfl
@[simp] theorem setRing_shadows (s : State) (f : Fn) (i : Nat) (r : Ring) : (s.setRing f i r).shadows = s.shadows := rfl
@[simp] theorem setRing_latches (s : State) (f : Fn) (i : Nat) (r : Ring) : (s.setRing f i r).latches = s.latches := rfl
@[simp] theorem setRing_intFn (s : State) (f : Fn) (i : Nat) (r : Ring) : (s.setRing f i r).intFn = s.intFn := rfl
@[simp] theorem setRing_cen (s : State) (f : Fn) (i : Nat) (r : Ring) : (s.setRing f i r).cen = s.cen := rfl
@[simp] theorem setRing_badRegs (s : State) (f : Fn) (i : Nat) (r : Ring) : (s.setRing f i r).badRegs = s.badRegs := rfl
@[simp] theorem setRing_stuckRegs (s : State) (f : Fn) (i : Nat) (r : Ring) : (s.setRing f i r).stuckRegs = s.stuckRegs := rfl
@[simp] theorem setRing_trngBad (s : State) (f : Fn) (i : Nat) (r : Ring) : (s.setRing f i r).trngBad = s.trngBad := rfl
@[simp] theorem setRing_locked (s : State) (f : Fn) (i : Nat) (r : Ring) : (s.setRing f i r).locked = s.locked := rfl
@[simp] theorem setRing_rings (s : State) (f : Fn) (i : Nat) (r : Ring) : (s.setRing f i r).rings = s.rings.put (ringKey f i) Ring.reset r := rfl
@[simp] theorem setRing_fn0 (s : State) (f : Fn) (i : Nat) (r : Ring) : (s.setRing f i r).fn0 = s.fn0 := rfl
@[simp] theorem setRing_fn1 (s : State) (f : Fn) (i : Nat) (r : Ring) : (s.setRing f i r).fn1 = s.fn1 := rfl
@[simp] theorem setRing_lease (s : State) (f : Fn) (i : Nat) (r : Ring) : (s.setRing f i r).lease = s.lease := rfl
@[simp] theorem setRing_flight (s : State) (f : Fn) (i : Nat) (r : Ring) : (s.setRing f i r).flight = s.flight := rfl
@[simp] theorem setRing_cqWait (s : State) (f : Fn) (i : Nat) (r : Ring) : (s.setRing f i r).cqWait = s.cqWait := rfl
@[simp] theorem setRing_nextId (s : State) (f : Fn) (i : Nat) (r : Ring) : (s.setRing f i r).nextId = s.nextId := rfl
@[simp] theorem setRing_seqs (s : State) (f : Fn) (i : Nat) (r : Ring) : (s.setRing f i r).seqs = s.seqs := rfl
@[simp] theorem setRing_seqOwn (s : State) (f : Fn) (i : Nat) (r : Ring) : (s.setRing f i r).seqOwn = s.seqOwn := rfl
@[simp] theorem setRing_pool (s : State) (f : Fn) (i : Nat) (r : Ring) : (s.setRing f i r).pool = s.pool := rfl
@[simp] theorem setRing_poolMerged (s : State) (f : Fn) (i : Nat) (r : Ring) : (s.setRing f i r).poolMerged = s.poolMerged := rfl
@[simp] theorem setRing_catalogue (s : State) (f : Fn) (i : Nat) (r : Ring) : (s.setRing f i r).catalogue = s.catalogue := rfl
@[simp] theorem setRing_nodes (s : State) (f : Fn) (i : Nat) (r : Ring) : (s.setRing f i r).nodes = s.nodes := rfl
@[simp] theorem setRing_eps (s : State) (f : Fn) (i : Nat) (r : Ring) : (s.setRing f i r).eps = s.eps := rfl
@[simp] theorem setRing_segs (s : State) (f : Fn) (i : Nat) (r : Ring) : (s.setRing f i r).segs = s.segs := rfl
@[simp] theorem setRing_links (s : State) (f : Fn) (i : Nat) (r : Ring) : (s.setRing f i r).links = s.links := rfl
@[simp] theorem setRing_upHeld (s : State) (f : Fn) (i : Nat) (r : Ring) : (s.setRing f i r).upHeld = s.upHeld := rfl
@[simp] theorem setRing_orphans (s : State) (f : Fn) (i : Nat) (r : Ring) : (s.setRing f i r).orphans = s.orphans := rfl
@[simp] theorem setRing_shelves0 (s : State) (f : Fn) (i : Nat) (r : Ring) : (s.setRing f i r).shelves0 = s.shelves0 := rfl
@[simp] theorem setRing_shelves1 (s : State) (f : Fn) (i : Nat) (r : Ring) : (s.setRing f i r).shelves1 = s.shelves1 := rfl
@[simp] theorem setRing_later (s : State) (f : Fn) (i : Nat) (r : Ring) : (s.setRing f i r).later = s.later := rfl
@[simp] theorem setRing_vacated (s : State) (f : Fn) (i : Nat) (r : Ring) : (s.setRing f i r).vacated = s.vacated := rfl
@[simp] theorem setRing_rules (s : State) (f : Fn) (i : Nat) (r : Ring) : (s.setRing f i r).rules = s.rules := rfl
@[simp] theorem setRing_branchRules (s : State) (f : Fn) (i : Nat) (r : Ring) : (s.setRing f i r).branchRules = s.branchRules := rfl
@[simp] theorem setRing_ruleReqs (s : State) (f : Fn) (i : Nat) (r : Ring) : (s.setRing f i r).ruleReqs = s.ruleReqs := rfl
@[simp] theorem setRing_deposits (s : State) (f : Fn) (i : Nat) (r : Ring) : (s.setRing f i r).deposits = s.deposits := rfl
@[simp] theorem setRing_subs (s : State) (f : Fn) (i : Nat) (r : Ring) : (s.setRing f i r).subs = s.subs := rfl
@[simp] theorem setRing_mirror (s : State) (f : Fn) (i : Nat) (r : Ring) : (s.setRing f i r).mirror = s.mirror := rfl
@[simp] theorem setRing_evals (s : State) (f : Fn) (i : Nat) (r : Ring) : (s.setRing f i r).evals = s.evals := rfl
@[simp] theorem setRing_slotEvals (s : State) (f : Fn) (i : Nat) (r : Ring) : (s.setRing f i r).slotEvals = s.slotEvals := rfl
@[simp] theorem setRing_gustActs (s : State) (f : Fn) (i : Nat) (r : Ring) : (s.setRing f i r).gustActs = s.gustActs := rfl
@[simp] theorem setRing_spws (s : State) (f : Fn) (i : Nat) (r : Ring) : (s.setRing f i r).spws = s.spws := rfl
@[simp] theorem setRing_pw (s : State) (f : Fn) (i : Nat) (r : Ring) : (s.setRing f i r).pw = s.pw := rfl
@[simp] theorem setRing_folio (s : State) (f : Fn) (i : Nat) (r : Ring) : (s.setRing f i r).folio = s.folio := rfl
@[simp] theorem setRing_nvm (s : State) (f : Fn) (i : Nat) (r : Ring) : (s.setRing f i r).nvm = s.nvm := rfl
@[simp] theorem setRing_port (s : State) (f : Fn) (i : Nat) (r : Ring) : (s.setRing f i r).port = s.port := rfl
@[simp] theorem setRing_sram (s : State) (f : Fn) (i : Nat) (r : Ring) : (s.setRing f i r).sram = s.sram := rfl
@[simp] theorem setRing_movesThisEpoch (s : State) (f : Fn) (i : Nat) (r : Ring) : (s.setRing f i r).movesThisEpoch = s.movesThisEpoch := rfl
@[simp] theorem setRing_epochFrame (s : State) (f : Fn) (i : Nat) (r : Ring) : (s.setRing f i r).epochFrame = s.epochFrame := rfl
@[simp] theorem setRing_freeCtr (s : State) (f : Fn) (i : Nat) (r : Ring) : (s.setRing f i r).freeCtr = s.freeCtr := rfl
@[simp] theorem setRing_bootAt (s : State) (f : Fn) (i : Nat) (r : Ring) : (s.setRing f i r).bootAt = s.bootAt := rfl
@[simp] theorem setRing_booted (s : State) (f : Fn) (i : Nat) (r : Ring) : (s.setRing f i r).booted = s.booted := rfl
@[simp] theorem setRing_starting (s : State) (f : Fn) (i : Nat) (r : Ring) : (s.setRing f i r).starting = s.starting := rfl
@[simp] theorem setRing_out (s : State) (f : Fn) (i : Nat) (r : Ring) : (s.setRing f i r).out = s.out := rfl
@[simp] theorem setRing_pending (s : State) (f : Fn) (i : Nat) (r : Ring) : (s.setRing f i r).pending = s.pending := rfl

/-! ## setEp -/

@[simp] theorem setEp_fc (s : State) (k : Nat) (c : EpCtx) : (s.setEp k c).fc = s.fc := rfl
@[simp] theorem setEp_tt (s : State) (k : Nat) (c : EpCtx) : (s.setEp k c).tt = s.tt := rfl
@[simp] theorem setEp_readyAt (s : State) (k : Nat) (c : EpCtx) : (s.setEp k c).readyAt = s.readyAt := rfl
@[simp] theorem setEp_role (s : State) (k : Nat) (c : EpCtx) : (s.setEp k c).role = s.role := rfl
@[simp] theorem setEp_neverFramed (s : State) (k : Nat) (c : EpCtx) : (s.setEp k c).neverFramed = s.neverFramed := rfl
@[simp] theorem setEp_hubNo (s : State) (k : Nat) (c : EpCtx) : (s.setEp k c).hubNo = s.hubNo := rfl
@[simp] theorem setEp_regs (s : State) (k : Nat) (c : EpCtx) : (s.setEp k c).regs = s.regs := rfl
@[simp] theorem setEp_shadows (s : State) (k : Nat) (c : EpCtx) : (s.setEp k c).shadows = s.shadows := rfl
@[simp] theorem setEp_latches (s : State) (k : Nat) (c : EpCtx) : (s.setEp k c).latches = s.latches := rfl
@[simp] theorem setEp_intFn (s : State) (k : Nat) (c : EpCtx) : (s.setEp k c).intFn = s.intFn := rfl
@[simp] theorem setEp_cen (s : State) (k : Nat) (c : EpCtx) : (s.setEp k c).cen = s.cen := rfl
@[simp] theorem setEp_badRegs (s : State) (k : Nat) (c : EpCtx) : (s.setEp k c).badRegs = s.badRegs := rfl
@[simp] theorem setEp_stuckRegs (s : State) (k : Nat) (c : EpCtx) : (s.setEp k c).stuckRegs = s.stuckRegs := rfl
@[simp] theorem setEp_trngBad (s : State) (k : Nat) (c : EpCtx) : (s.setEp k c).trngBad = s.trngBad := rfl
@[simp] theorem setEp_locked (s : State) (k : Nat) (c : EpCtx) : (s.setEp k c).locked = s.locked := rfl
@[simp] theorem setEp_rings (s : State) (k : Nat) (c : EpCtx) : (s.setEp k c).rings = s.rings := rfl
@[simp] theorem setEp_fn0 (s : State) (k : Nat) (c : EpCtx) : (s.setEp k c).fn0 = s.fn0 := rfl
@[simp] theorem setEp_fn1 (s : State) (k : Nat) (c : EpCtx) : (s.setEp k c).fn1 = s.fn1 := rfl
@[simp] theorem setEp_lease (s : State) (k : Nat) (c : EpCtx) : (s.setEp k c).lease = s.lease := rfl
@[simp] theorem setEp_flight (s : State) (k : Nat) (c : EpCtx) : (s.setEp k c).flight = s.flight := rfl
@[simp] theorem setEp_cqWait (s : State) (k : Nat) (c : EpCtx) : (s.setEp k c).cqWait = s.cqWait := rfl
@[simp] theorem setEp_nextId (s : State) (k : Nat) (c : EpCtx) : (s.setEp k c).nextId = s.nextId := rfl
@[simp] theorem setEp_seqs (s : State) (k : Nat) (c : EpCtx) : (s.setEp k c).seqs = s.seqs := rfl
@[simp] theorem setEp_seqOwn (s : State) (k : Nat) (c : EpCtx) : (s.setEp k c).seqOwn = s.seqOwn := rfl
@[simp] theorem setEp_pool (s : State) (k : Nat) (c : EpCtx) : (s.setEp k c).pool = s.pool := rfl
@[simp] theorem setEp_poolMerged (s : State) (k : Nat) (c : EpCtx) : (s.setEp k c).poolMerged = s.poolMerged := rfl
@[simp] theorem setEp_catalogue (s : State) (k : Nat) (c : EpCtx) : (s.setEp k c).catalogue = s.catalogue := rfl
@[simp] theorem setEp_nodes (s : State) (k : Nat) (c : EpCtx) : (s.setEp k c).nodes = s.nodes := rfl
@[simp] theorem setEp_eps (s : State) (k : Nat) (c : EpCtx) : (s.setEp k c).eps = s.eps.put k EpCtx.reset c := rfl
@[simp] theorem setEp_segs (s : State) (k : Nat) (c : EpCtx) : (s.setEp k c).segs = s.segs := rfl
@[simp] theorem setEp_links (s : State) (k : Nat) (c : EpCtx) : (s.setEp k c).links = s.links := rfl
@[simp] theorem setEp_upHeld (s : State) (k : Nat) (c : EpCtx) : (s.setEp k c).upHeld = s.upHeld := rfl
@[simp] theorem setEp_orphans (s : State) (k : Nat) (c : EpCtx) : (s.setEp k c).orphans = s.orphans := rfl
@[simp] theorem setEp_shelves0 (s : State) (k : Nat) (c : EpCtx) : (s.setEp k c).shelves0 = s.shelves0 := rfl
@[simp] theorem setEp_shelves1 (s : State) (k : Nat) (c : EpCtx) : (s.setEp k c).shelves1 = s.shelves1 := rfl
@[simp] theorem setEp_later (s : State) (k : Nat) (c : EpCtx) : (s.setEp k c).later = s.later := rfl
@[simp] theorem setEp_vacated (s : State) (k : Nat) (c : EpCtx) : (s.setEp k c).vacated = s.vacated := rfl
@[simp] theorem setEp_rules (s : State) (k : Nat) (c : EpCtx) : (s.setEp k c).rules = s.rules := rfl
@[simp] theorem setEp_branchRules (s : State) (k : Nat) (c : EpCtx) : (s.setEp k c).branchRules = s.branchRules := rfl
@[simp] theorem setEp_ruleReqs (s : State) (k : Nat) (c : EpCtx) : (s.setEp k c).ruleReqs = s.ruleReqs := rfl
@[simp] theorem setEp_deposits (s : State) (k : Nat) (c : EpCtx) : (s.setEp k c).deposits = s.deposits := rfl
@[simp] theorem setEp_subs (s : State) (k : Nat) (c : EpCtx) : (s.setEp k c).subs = s.subs := rfl
@[simp] theorem setEp_mirror (s : State) (k : Nat) (c : EpCtx) : (s.setEp k c).mirror = s.mirror := rfl
@[simp] theorem setEp_evals (s : State) (k : Nat) (c : EpCtx) : (s.setEp k c).evals = s.evals := rfl
@[simp] theorem setEp_slotEvals (s : State) (k : Nat) (c : EpCtx) : (s.setEp k c).slotEvals = s.slotEvals := rfl
@[simp] theorem setEp_gustActs (s : State) (k : Nat) (c : EpCtx) : (s.setEp k c).gustActs = s.gustActs := rfl
@[simp] theorem setEp_spws (s : State) (k : Nat) (c : EpCtx) : (s.setEp k c).spws = s.spws := rfl
@[simp] theorem setEp_pw (s : State) (k : Nat) (c : EpCtx) : (s.setEp k c).pw = s.pw := rfl
@[simp] theorem setEp_folio (s : State) (k : Nat) (c : EpCtx) : (s.setEp k c).folio = s.folio := rfl
@[simp] theorem setEp_nvm (s : State) (k : Nat) (c : EpCtx) : (s.setEp k c).nvm = s.nvm := rfl
@[simp] theorem setEp_port (s : State) (k : Nat) (c : EpCtx) : (s.setEp k c).port = s.port := rfl
@[simp] theorem setEp_sram (s : State) (k : Nat) (c : EpCtx) : (s.setEp k c).sram = s.sram := rfl
@[simp] theorem setEp_movesThisEpoch (s : State) (k : Nat) (c : EpCtx) : (s.setEp k c).movesThisEpoch = s.movesThisEpoch := rfl
@[simp] theorem setEp_epochFrame (s : State) (k : Nat) (c : EpCtx) : (s.setEp k c).epochFrame = s.epochFrame := rfl
@[simp] theorem setEp_freeCtr (s : State) (k : Nat) (c : EpCtx) : (s.setEp k c).freeCtr = s.freeCtr := rfl
@[simp] theorem setEp_bootAt (s : State) (k : Nat) (c : EpCtx) : (s.setEp k c).bootAt = s.bootAt := rfl
@[simp] theorem setEp_booted (s : State) (k : Nat) (c : EpCtx) : (s.setEp k c).booted = s.booted := rfl
@[simp] theorem setEp_starting (s : State) (k : Nat) (c : EpCtx) : (s.setEp k c).starting = s.starting := rfl
@[simp] theorem setEp_out (s : State) (k : Nat) (c : EpCtx) : (s.setEp k c).out = s.out := rfl
@[simp] theorem setEp_pending (s : State) (k : Nat) (c : EpCtx) : (s.setEp k c).pending = s.pending := rfl

/-! ## setNode -/

@[simp] theorem setNode_fc (s : State) (k : Nat) (c : Node) : (s.setNode k c).fc = s.fc := rfl
@[simp] theorem setNode_tt (s : State) (k : Nat) (c : Node) : (s.setNode k c).tt = s.tt := rfl
@[simp] theorem setNode_readyAt (s : State) (k : Nat) (c : Node) : (s.setNode k c).readyAt = s.readyAt := rfl
@[simp] theorem setNode_role (s : State) (k : Nat) (c : Node) : (s.setNode k c).role = s.role := rfl
@[simp] theorem setNode_neverFramed (s : State) (k : Nat) (c : Node) : (s.setNode k c).neverFramed = s.neverFramed := rfl
@[simp] theorem setNode_hubNo (s : State) (k : Nat) (c : Node) : (s.setNode k c).hubNo = s.hubNo := rfl
@[simp] theorem setNode_regs (s : State) (k : Nat) (c : Node) : (s.setNode k c).regs = s.regs := rfl
@[simp] theorem setNode_shadows (s : State) (k : Nat) (c : Node) : (s.setNode k c).shadows = s.shadows := rfl
@[simp] theorem setNode_latches (s : State) (k : Nat) (c : Node) : (s.setNode k c).latches = s.latches := rfl
@[simp] theorem setNode_intFn (s : State) (k : Nat) (c : Node) : (s.setNode k c).intFn = s.intFn := rfl
@[simp] theorem setNode_cen (s : State) (k : Nat) (c : Node) : (s.setNode k c).cen = s.cen := rfl
@[simp] theorem setNode_badRegs (s : State) (k : Nat) (c : Node) : (s.setNode k c).badRegs = s.badRegs := rfl
@[simp] theorem setNode_stuckRegs (s : State) (k : Nat) (c : Node) : (s.setNode k c).stuckRegs = s.stuckRegs := rfl
@[simp] theorem setNode_trngBad (s : State) (k : Nat) (c : Node) : (s.setNode k c).trngBad = s.trngBad := rfl
@[simp] theorem setNode_locked (s : State) (k : Nat) (c : Node) : (s.setNode k c).locked = s.locked := rfl
@[simp] theorem setNode_rings (s : State) (k : Nat) (c : Node) : (s.setNode k c).rings = s.rings := rfl
@[simp] theorem setNode_fn0 (s : State) (k : Nat) (c : Node) : (s.setNode k c).fn0 = s.fn0 := rfl
@[simp] theorem setNode_fn1 (s : State) (k : Nat) (c : Node) : (s.setNode k c).fn1 = s.fn1 := rfl
@[simp] theorem setNode_lease (s : State) (k : Nat) (c : Node) : (s.setNode k c).lease = s.lease := rfl
@[simp] theorem setNode_flight (s : State) (k : Nat) (c : Node) : (s.setNode k c).flight = s.flight := rfl
@[simp] theorem setNode_cqWait (s : State) (k : Nat) (c : Node) : (s.setNode k c).cqWait = s.cqWait := rfl
@[simp] theorem setNode_nextId (s : State) (k : Nat) (c : Node) : (s.setNode k c).nextId = s.nextId := rfl
@[simp] theorem setNode_seqs (s : State) (k : Nat) (c : Node) : (s.setNode k c).seqs = s.seqs := rfl
@[simp] theorem setNode_seqOwn (s : State) (k : Nat) (c : Node) : (s.setNode k c).seqOwn = s.seqOwn := rfl
@[simp] theorem setNode_pool (s : State) (k : Nat) (c : Node) : (s.setNode k c).pool = s.pool := rfl
@[simp] theorem setNode_poolMerged (s : State) (k : Nat) (c : Node) : (s.setNode k c).poolMerged = s.poolMerged := rfl
@[simp] theorem setNode_catalogue (s : State) (k : Nat) (c : Node) : (s.setNode k c).catalogue = s.catalogue := rfl
@[simp] theorem setNode_nodes (s : State) (k : Nat) (c : Node) : (s.setNode k c).nodes = s.nodes.put k Node.reset c := rfl
@[simp] theorem setNode_eps (s : State) (k : Nat) (c : Node) : (s.setNode k c).eps = s.eps := rfl
@[simp] theorem setNode_segs (s : State) (k : Nat) (c : Node) : (s.setNode k c).segs = s.segs := rfl
@[simp] theorem setNode_links (s : State) (k : Nat) (c : Node) : (s.setNode k c).links = s.links := rfl
@[simp] theorem setNode_upHeld (s : State) (k : Nat) (c : Node) : (s.setNode k c).upHeld = s.upHeld := rfl
@[simp] theorem setNode_orphans (s : State) (k : Nat) (c : Node) : (s.setNode k c).orphans = s.orphans := rfl
@[simp] theorem setNode_shelves0 (s : State) (k : Nat) (c : Node) : (s.setNode k c).shelves0 = s.shelves0 := rfl
@[simp] theorem setNode_shelves1 (s : State) (k : Nat) (c : Node) : (s.setNode k c).shelves1 = s.shelves1 := rfl
@[simp] theorem setNode_later (s : State) (k : Nat) (c : Node) : (s.setNode k c).later = s.later := rfl
@[simp] theorem setNode_vacated (s : State) (k : Nat) (c : Node) : (s.setNode k c).vacated = s.vacated := rfl
@[simp] theorem setNode_rules (s : State) (k : Nat) (c : Node) : (s.setNode k c).rules = s.rules := rfl
@[simp] theorem setNode_branchRules (s : State) (k : Nat) (c : Node) : (s.setNode k c).branchRules = s.branchRules := rfl
@[simp] theorem setNode_ruleReqs (s : State) (k : Nat) (c : Node) : (s.setNode k c).ruleReqs = s.ruleReqs := rfl
@[simp] theorem setNode_deposits (s : State) (k : Nat) (c : Node) : (s.setNode k c).deposits = s.deposits := rfl
@[simp] theorem setNode_subs (s : State) (k : Nat) (c : Node) : (s.setNode k c).subs = s.subs := rfl
@[simp] theorem setNode_mirror (s : State) (k : Nat) (c : Node) : (s.setNode k c).mirror = s.mirror := rfl
@[simp] theorem setNode_evals (s : State) (k : Nat) (c : Node) : (s.setNode k c).evals = s.evals := rfl
@[simp] theorem setNode_slotEvals (s : State) (k : Nat) (c : Node) : (s.setNode k c).slotEvals = s.slotEvals := rfl
@[simp] theorem setNode_gustActs (s : State) (k : Nat) (c : Node) : (s.setNode k c).gustActs = s.gustActs := rfl
@[simp] theorem setNode_spws (s : State) (k : Nat) (c : Node) : (s.setNode k c).spws = s.spws := rfl
@[simp] theorem setNode_pw (s : State) (k : Nat) (c : Node) : (s.setNode k c).pw = s.pw := rfl
@[simp] theorem setNode_folio (s : State) (k : Nat) (c : Node) : (s.setNode k c).folio = s.folio := rfl
@[simp] theorem setNode_nvm (s : State) (k : Nat) (c : Node) : (s.setNode k c).nvm = s.nvm := rfl
@[simp] theorem setNode_port (s : State) (k : Nat) (c : Node) : (s.setNode k c).port = s.port := rfl
@[simp] theorem setNode_sram (s : State) (k : Nat) (c : Node) : (s.setNode k c).sram = s.sram := rfl
@[simp] theorem setNode_movesThisEpoch (s : State) (k : Nat) (c : Node) : (s.setNode k c).movesThisEpoch = s.movesThisEpoch := rfl
@[simp] theorem setNode_epochFrame (s : State) (k : Nat) (c : Node) : (s.setNode k c).epochFrame = s.epochFrame := rfl
@[simp] theorem setNode_freeCtr (s : State) (k : Nat) (c : Node) : (s.setNode k c).freeCtr = s.freeCtr := rfl
@[simp] theorem setNode_bootAt (s : State) (k : Nat) (c : Node) : (s.setNode k c).bootAt = s.bootAt := rfl
@[simp] theorem setNode_booted (s : State) (k : Nat) (c : Node) : (s.setNode k c).booted = s.booted := rfl
@[simp] theorem setNode_starting (s : State) (k : Nat) (c : Node) : (s.setNode k c).starting = s.starting := rfl
@[simp] theorem setNode_out (s : State) (k : Nat) (c : Node) : (s.setNode k c).out = s.out := rfl
@[simp] theorem setNode_pending (s : State) (k : Nat) (c : Node) : (s.setNode k c).pending = s.pending := rfl

/-! ## setSeg -/

@[simp] theorem setSeg_fc (s : State) (p : Nat) (c : Seg) : (s.setSeg p c).fc = s.fc := rfl
@[simp] theorem setSeg_tt (s : State) (p : Nat) (c : Seg) : (s.setSeg p c).tt = s.tt := rfl
@[simp] theorem setSeg_readyAt (s : State) (p : Nat) (c : Seg) : (s.setSeg p c).readyAt = s.readyAt := rfl
@[simp] theorem setSeg_role (s : State) (p : Nat) (c : Seg) : (s.setSeg p c).role = s.role := rfl
@[simp] theorem setSeg_neverFramed (s : State) (p : Nat) (c : Seg) : (s.setSeg p c).neverFramed = s.neverFramed := rfl
@[simp] theorem setSeg_hubNo (s : State) (p : Nat) (c : Seg) : (s.setSeg p c).hubNo = s.hubNo := rfl
@[simp] theorem setSeg_regs (s : State) (p : Nat) (c : Seg) : (s.setSeg p c).regs = s.regs := rfl
@[simp] theorem setSeg_shadows (s : State) (p : Nat) (c : Seg) : (s.setSeg p c).shadows = s.shadows := rfl
@[simp] theorem setSeg_latches (s : State) (p : Nat) (c : Seg) : (s.setSeg p c).latches = s.latches := rfl
@[simp] theorem setSeg_intFn (s : State) (p : Nat) (c : Seg) : (s.setSeg p c).intFn = s.intFn := rfl
@[simp] theorem setSeg_cen (s : State) (p : Nat) (c : Seg) : (s.setSeg p c).cen = s.cen := rfl
@[simp] theorem setSeg_badRegs (s : State) (p : Nat) (c : Seg) : (s.setSeg p c).badRegs = s.badRegs := rfl
@[simp] theorem setSeg_stuckRegs (s : State) (p : Nat) (c : Seg) : (s.setSeg p c).stuckRegs = s.stuckRegs := rfl
@[simp] theorem setSeg_trngBad (s : State) (p : Nat) (c : Seg) : (s.setSeg p c).trngBad = s.trngBad := rfl
@[simp] theorem setSeg_locked (s : State) (p : Nat) (c : Seg) : (s.setSeg p c).locked = s.locked := rfl
@[simp] theorem setSeg_rings (s : State) (p : Nat) (c : Seg) : (s.setSeg p c).rings = s.rings := rfl
@[simp] theorem setSeg_fn0 (s : State) (p : Nat) (c : Seg) : (s.setSeg p c).fn0 = s.fn0 := rfl
@[simp] theorem setSeg_fn1 (s : State) (p : Nat) (c : Seg) : (s.setSeg p c).fn1 = s.fn1 := rfl
@[simp] theorem setSeg_lease (s : State) (p : Nat) (c : Seg) : (s.setSeg p c).lease = s.lease := rfl
@[simp] theorem setSeg_flight (s : State) (p : Nat) (c : Seg) : (s.setSeg p c).flight = s.flight := rfl
@[simp] theorem setSeg_cqWait (s : State) (p : Nat) (c : Seg) : (s.setSeg p c).cqWait = s.cqWait := rfl
@[simp] theorem setSeg_nextId (s : State) (p : Nat) (c : Seg) : (s.setSeg p c).nextId = s.nextId := rfl
@[simp] theorem setSeg_seqs (s : State) (p : Nat) (c : Seg) : (s.setSeg p c).seqs = s.seqs := rfl
@[simp] theorem setSeg_seqOwn (s : State) (p : Nat) (c : Seg) : (s.setSeg p c).seqOwn = s.seqOwn := rfl
@[simp] theorem setSeg_pool (s : State) (p : Nat) (c : Seg) : (s.setSeg p c).pool = s.pool := rfl
@[simp] theorem setSeg_poolMerged (s : State) (p : Nat) (c : Seg) : (s.setSeg p c).poolMerged = s.poolMerged := rfl
@[simp] theorem setSeg_catalogue (s : State) (p : Nat) (c : Seg) : (s.setSeg p c).catalogue = s.catalogue := rfl
@[simp] theorem setSeg_nodes (s : State) (p : Nat) (c : Seg) : (s.setSeg p c).nodes = s.nodes := rfl
@[simp] theorem setSeg_eps (s : State) (p : Nat) (c : Seg) : (s.setSeg p c).eps = s.eps := rfl
@[simp] theorem setSeg_segs (s : State) (p : Nat) (c : Seg) : (s.setSeg p c).segs = s.segs.put p Seg.reset c := rfl
@[simp] theorem setSeg_links (s : State) (p : Nat) (c : Seg) : (s.setSeg p c).links = s.links := rfl
@[simp] theorem setSeg_upHeld (s : State) (p : Nat) (c : Seg) : (s.setSeg p c).upHeld = s.upHeld := rfl
@[simp] theorem setSeg_orphans (s : State) (p : Nat) (c : Seg) : (s.setSeg p c).orphans = s.orphans := rfl
@[simp] theorem setSeg_shelves0 (s : State) (p : Nat) (c : Seg) : (s.setSeg p c).shelves0 = s.shelves0 := rfl
@[simp] theorem setSeg_shelves1 (s : State) (p : Nat) (c : Seg) : (s.setSeg p c).shelves1 = s.shelves1 := rfl
@[simp] theorem setSeg_later (s : State) (p : Nat) (c : Seg) : (s.setSeg p c).later = s.later := rfl
@[simp] theorem setSeg_vacated (s : State) (p : Nat) (c : Seg) : (s.setSeg p c).vacated = s.vacated := rfl
@[simp] theorem setSeg_rules (s : State) (p : Nat) (c : Seg) : (s.setSeg p c).rules = s.rules := rfl
@[simp] theorem setSeg_branchRules (s : State) (p : Nat) (c : Seg) : (s.setSeg p c).branchRules = s.branchRules := rfl
@[simp] theorem setSeg_ruleReqs (s : State) (p : Nat) (c : Seg) : (s.setSeg p c).ruleReqs = s.ruleReqs := rfl
@[simp] theorem setSeg_deposits (s : State) (p : Nat) (c : Seg) : (s.setSeg p c).deposits = s.deposits := rfl
@[simp] theorem setSeg_subs (s : State) (p : Nat) (c : Seg) : (s.setSeg p c).subs = s.subs := rfl
@[simp] theorem setSeg_mirror (s : State) (p : Nat) (c : Seg) : (s.setSeg p c).mirror = s.mirror := rfl
@[simp] theorem setSeg_evals (s : State) (p : Nat) (c : Seg) : (s.setSeg p c).evals = s.evals := rfl
@[simp] theorem setSeg_slotEvals (s : State) (p : Nat) (c : Seg) : (s.setSeg p c).slotEvals = s.slotEvals := rfl
@[simp] theorem setSeg_gustActs (s : State) (p : Nat) (c : Seg) : (s.setSeg p c).gustActs = s.gustActs := rfl
@[simp] theorem setSeg_spws (s : State) (p : Nat) (c : Seg) : (s.setSeg p c).spws = s.spws := rfl
@[simp] theorem setSeg_pw (s : State) (p : Nat) (c : Seg) : (s.setSeg p c).pw = s.pw := rfl
@[simp] theorem setSeg_folio (s : State) (p : Nat) (c : Seg) : (s.setSeg p c).folio = s.folio := rfl
@[simp] theorem setSeg_nvm (s : State) (p : Nat) (c : Seg) : (s.setSeg p c).nvm = s.nvm := rfl
@[simp] theorem setSeg_port (s : State) (p : Nat) (c : Seg) : (s.setSeg p c).port = s.port := rfl
@[simp] theorem setSeg_sram (s : State) (p : Nat) (c : Seg) : (s.setSeg p c).sram = s.sram := rfl
@[simp] theorem setSeg_movesThisEpoch (s : State) (p : Nat) (c : Seg) : (s.setSeg p c).movesThisEpoch = s.movesThisEpoch := rfl
@[simp] theorem setSeg_epochFrame (s : State) (p : Nat) (c : Seg) : (s.setSeg p c).epochFrame = s.epochFrame := rfl
@[simp] theorem setSeg_freeCtr (s : State) (p : Nat) (c : Seg) : (s.setSeg p c).freeCtr = s.freeCtr := rfl
@[simp] theorem setSeg_bootAt (s : State) (p : Nat) (c : Seg) : (s.setSeg p c).bootAt = s.bootAt := rfl
@[simp] theorem setSeg_booted (s : State) (p : Nat) (c : Seg) : (s.setSeg p c).booted = s.booted := rfl
@[simp] theorem setSeg_starting (s : State) (p : Nat) (c : Seg) : (s.setSeg p c).starting = s.starting := rfl
@[simp] theorem setSeg_out (s : State) (p : Nat) (c : Seg) : (s.setSeg p c).out = s.out := rfl
@[simp] theorem setSeg_pending (s : State) (p : Nat) (c : Seg) : (s.setSeg p c).pending = s.pending := rfl

/-! ## setLink -/

@[simp] theorem setLink_fc (s : State) (p : Nat) (c : Link) : (s.setLink p c).fc = s.fc := rfl
@[simp] theorem setLink_tt (s : State) (p : Nat) (c : Link) : (s.setLink p c).tt = s.tt := rfl
@[simp] theorem setLink_readyAt (s : State) (p : Nat) (c : Link) : (s.setLink p c).readyAt = s.readyAt := rfl
@[simp] theorem setLink_role (s : State) (p : Nat) (c : Link) : (s.setLink p c).role = s.role := rfl
@[simp] theorem setLink_neverFramed (s : State) (p : Nat) (c : Link) : (s.setLink p c).neverFramed = s.neverFramed := rfl
@[simp] theorem setLink_hubNo (s : State) (p : Nat) (c : Link) : (s.setLink p c).hubNo = s.hubNo := rfl
@[simp] theorem setLink_regs (s : State) (p : Nat) (c : Link) : (s.setLink p c).regs = s.regs := rfl
@[simp] theorem setLink_shadows (s : State) (p : Nat) (c : Link) : (s.setLink p c).shadows = s.shadows := rfl
@[simp] theorem setLink_latches (s : State) (p : Nat) (c : Link) : (s.setLink p c).latches = s.latches := rfl
@[simp] theorem setLink_intFn (s : State) (p : Nat) (c : Link) : (s.setLink p c).intFn = s.intFn := rfl
@[simp] theorem setLink_cen (s : State) (p : Nat) (c : Link) : (s.setLink p c).cen = s.cen := rfl
@[simp] theorem setLink_badRegs (s : State) (p : Nat) (c : Link) : (s.setLink p c).badRegs = s.badRegs := rfl
@[simp] theorem setLink_stuckRegs (s : State) (p : Nat) (c : Link) : (s.setLink p c).stuckRegs = s.stuckRegs := rfl
@[simp] theorem setLink_trngBad (s : State) (p : Nat) (c : Link) : (s.setLink p c).trngBad = s.trngBad := rfl
@[simp] theorem setLink_locked (s : State) (p : Nat) (c : Link) : (s.setLink p c).locked = s.locked := rfl
@[simp] theorem setLink_rings (s : State) (p : Nat) (c : Link) : (s.setLink p c).rings = s.rings := rfl
@[simp] theorem setLink_fn0 (s : State) (p : Nat) (c : Link) : (s.setLink p c).fn0 = s.fn0 := rfl
@[simp] theorem setLink_fn1 (s : State) (p : Nat) (c : Link) : (s.setLink p c).fn1 = s.fn1 := rfl
@[simp] theorem setLink_lease (s : State) (p : Nat) (c : Link) : (s.setLink p c).lease = s.lease := rfl
@[simp] theorem setLink_flight (s : State) (p : Nat) (c : Link) : (s.setLink p c).flight = s.flight := rfl
@[simp] theorem setLink_cqWait (s : State) (p : Nat) (c : Link) : (s.setLink p c).cqWait = s.cqWait := rfl
@[simp] theorem setLink_nextId (s : State) (p : Nat) (c : Link) : (s.setLink p c).nextId = s.nextId := rfl
@[simp] theorem setLink_seqs (s : State) (p : Nat) (c : Link) : (s.setLink p c).seqs = s.seqs := rfl
@[simp] theorem setLink_seqOwn (s : State) (p : Nat) (c : Link) : (s.setLink p c).seqOwn = s.seqOwn := rfl
@[simp] theorem setLink_pool (s : State) (p : Nat) (c : Link) : (s.setLink p c).pool = s.pool := rfl
@[simp] theorem setLink_poolMerged (s : State) (p : Nat) (c : Link) : (s.setLink p c).poolMerged = s.poolMerged := rfl
@[simp] theorem setLink_catalogue (s : State) (p : Nat) (c : Link) : (s.setLink p c).catalogue = s.catalogue := rfl
@[simp] theorem setLink_nodes (s : State) (p : Nat) (c : Link) : (s.setLink p c).nodes = s.nodes := rfl
@[simp] theorem setLink_eps (s : State) (p : Nat) (c : Link) : (s.setLink p c).eps = s.eps := rfl
@[simp] theorem setLink_segs (s : State) (p : Nat) (c : Link) : (s.setLink p c).segs = s.segs := rfl
@[simp] theorem setLink_links (s : State) (p : Nat) (c : Link) : (s.setLink p c).links = s.links.put p Link.reset c := rfl
@[simp] theorem setLink_upHeld (s : State) (p : Nat) (c : Link) : (s.setLink p c).upHeld = s.upHeld := rfl
@[simp] theorem setLink_orphans (s : State) (p : Nat) (c : Link) : (s.setLink p c).orphans = s.orphans := rfl
@[simp] theorem setLink_shelves0 (s : State) (p : Nat) (c : Link) : (s.setLink p c).shelves0 = s.shelves0 := rfl
@[simp] theorem setLink_shelves1 (s : State) (p : Nat) (c : Link) : (s.setLink p c).shelves1 = s.shelves1 := rfl
@[simp] theorem setLink_later (s : State) (p : Nat) (c : Link) : (s.setLink p c).later = s.later := rfl
@[simp] theorem setLink_vacated (s : State) (p : Nat) (c : Link) : (s.setLink p c).vacated = s.vacated := rfl
@[simp] theorem setLink_rules (s : State) (p : Nat) (c : Link) : (s.setLink p c).rules = s.rules := rfl
@[simp] theorem setLink_branchRules (s : State) (p : Nat) (c : Link) : (s.setLink p c).branchRules = s.branchRules := rfl
@[simp] theorem setLink_ruleReqs (s : State) (p : Nat) (c : Link) : (s.setLink p c).ruleReqs = s.ruleReqs := rfl
@[simp] theorem setLink_deposits (s : State) (p : Nat) (c : Link) : (s.setLink p c).deposits = s.deposits := rfl
@[simp] theorem setLink_subs (s : State) (p : Nat) (c : Link) : (s.setLink p c).subs = s.subs := rfl
@[simp] theorem setLink_mirror (s : State) (p : Nat) (c : Link) : (s.setLink p c).mirror = s.mirror := rfl
@[simp] theorem setLink_evals (s : State) (p : Nat) (c : Link) : (s.setLink p c).evals = s.evals := rfl
@[simp] theorem setLink_slotEvals (s : State) (p : Nat) (c : Link) : (s.setLink p c).slotEvals = s.slotEvals := rfl
@[simp] theorem setLink_gustActs (s : State) (p : Nat) (c : Link) : (s.setLink p c).gustActs = s.gustActs := rfl
@[simp] theorem setLink_spws (s : State) (p : Nat) (c : Link) : (s.setLink p c).spws = s.spws := rfl
@[simp] theorem setLink_pw (s : State) (p : Nat) (c : Link) : (s.setLink p c).pw = s.pw := rfl
@[simp] theorem setLink_folio (s : State) (p : Nat) (c : Link) : (s.setLink p c).folio = s.folio := rfl
@[simp] theorem setLink_nvm (s : State) (p : Nat) (c : Link) : (s.setLink p c).nvm = s.nvm := rfl
@[simp] theorem setLink_port (s : State) (p : Nat) (c : Link) : (s.setLink p c).port = s.port := rfl
@[simp] theorem setLink_sram (s : State) (p : Nat) (c : Link) : (s.setLink p c).sram = s.sram := rfl
@[simp] theorem setLink_movesThisEpoch (s : State) (p : Nat) (c : Link) : (s.setLink p c).movesThisEpoch = s.movesThisEpoch := rfl
@[simp] theorem setLink_epochFrame (s : State) (p : Nat) (c : Link) : (s.setLink p c).epochFrame = s.epochFrame := rfl
@[simp] theorem setLink_freeCtr (s : State) (p : Nat) (c : Link) : (s.setLink p c).freeCtr = s.freeCtr := rfl
@[simp] theorem setLink_bootAt (s : State) (p : Nat) (c : Link) : (s.setLink p c).bootAt = s.bootAt := rfl
@[simp] theorem setLink_booted (s : State) (p : Nat) (c : Link) : (s.setLink p c).booted = s.booted := rfl
@[simp] theorem setLink_starting (s : State) (p : Nat) (c : Link) : (s.setLink p c).starting = s.starting := rfl
@[simp] theorem setLink_out (s : State) (p : Nat) (c : Link) : (s.setLink p c).out = s.out := rfl
@[simp] theorem setLink_pending (s : State) (p : Nat) (c : Link) : (s.setLink p c).pending = s.pending := rfl

/-! ## setSpw -/

@[simp] theorem setSpw_fc (s : State) (p : Nat) (c : Spw) : (s.setSpw p c).fc = s.fc := rfl
@[simp] theorem setSpw_tt (s : State) (p : Nat) (c : Spw) : (s.setSpw p c).tt = s.tt := rfl
@[simp] theorem setSpw_readyAt (s : State) (p : Nat) (c : Spw) : (s.setSpw p c).readyAt = s.readyAt := rfl
@[simp] theorem setSpw_role (s : State) (p : Nat) (c : Spw) : (s.setSpw p c).role = s.role := rfl
@[simp] theorem setSpw_neverFramed (s : State) (p : Nat) (c : Spw) : (s.setSpw p c).neverFramed = s.neverFramed := rfl
@[simp] theorem setSpw_hubNo (s : State) (p : Nat) (c : Spw) : (s.setSpw p c).hubNo = s.hubNo := rfl
@[simp] theorem setSpw_regs (s : State) (p : Nat) (c : Spw) : (s.setSpw p c).regs = s.regs := rfl
@[simp] theorem setSpw_shadows (s : State) (p : Nat) (c : Spw) : (s.setSpw p c).shadows = s.shadows := rfl
@[simp] theorem setSpw_latches (s : State) (p : Nat) (c : Spw) : (s.setSpw p c).latches = s.latches := rfl
@[simp] theorem setSpw_intFn (s : State) (p : Nat) (c : Spw) : (s.setSpw p c).intFn = s.intFn := rfl
@[simp] theorem setSpw_cen (s : State) (p : Nat) (c : Spw) : (s.setSpw p c).cen = s.cen := rfl
@[simp] theorem setSpw_badRegs (s : State) (p : Nat) (c : Spw) : (s.setSpw p c).badRegs = s.badRegs := rfl
@[simp] theorem setSpw_stuckRegs (s : State) (p : Nat) (c : Spw) : (s.setSpw p c).stuckRegs = s.stuckRegs := rfl
@[simp] theorem setSpw_trngBad (s : State) (p : Nat) (c : Spw) : (s.setSpw p c).trngBad = s.trngBad := rfl
@[simp] theorem setSpw_locked (s : State) (p : Nat) (c : Spw) : (s.setSpw p c).locked = s.locked := rfl
@[simp] theorem setSpw_rings (s : State) (p : Nat) (c : Spw) : (s.setSpw p c).rings = s.rings := rfl
@[simp] theorem setSpw_fn0 (s : State) (p : Nat) (c : Spw) : (s.setSpw p c).fn0 = s.fn0 := rfl
@[simp] theorem setSpw_fn1 (s : State) (p : Nat) (c : Spw) : (s.setSpw p c).fn1 = s.fn1 := rfl
@[simp] theorem setSpw_lease (s : State) (p : Nat) (c : Spw) : (s.setSpw p c).lease = s.lease := rfl
@[simp] theorem setSpw_flight (s : State) (p : Nat) (c : Spw) : (s.setSpw p c).flight = s.flight := rfl
@[simp] theorem setSpw_cqWait (s : State) (p : Nat) (c : Spw) : (s.setSpw p c).cqWait = s.cqWait := rfl
@[simp] theorem setSpw_nextId (s : State) (p : Nat) (c : Spw) : (s.setSpw p c).nextId = s.nextId := rfl
@[simp] theorem setSpw_seqs (s : State) (p : Nat) (c : Spw) : (s.setSpw p c).seqs = s.seqs := rfl
@[simp] theorem setSpw_seqOwn (s : State) (p : Nat) (c : Spw) : (s.setSpw p c).seqOwn = s.seqOwn := rfl
@[simp] theorem setSpw_pool (s : State) (p : Nat) (c : Spw) : (s.setSpw p c).pool = s.pool := rfl
@[simp] theorem setSpw_poolMerged (s : State) (p : Nat) (c : Spw) : (s.setSpw p c).poolMerged = s.poolMerged := rfl
@[simp] theorem setSpw_catalogue (s : State) (p : Nat) (c : Spw) : (s.setSpw p c).catalogue = s.catalogue := rfl
@[simp] theorem setSpw_nodes (s : State) (p : Nat) (c : Spw) : (s.setSpw p c).nodes = s.nodes := rfl
@[simp] theorem setSpw_eps (s : State) (p : Nat) (c : Spw) : (s.setSpw p c).eps = s.eps := rfl
@[simp] theorem setSpw_segs (s : State) (p : Nat) (c : Spw) : (s.setSpw p c).segs = s.segs := rfl
@[simp] theorem setSpw_links (s : State) (p : Nat) (c : Spw) : (s.setSpw p c).links = s.links := rfl
@[simp] theorem setSpw_upHeld (s : State) (p : Nat) (c : Spw) : (s.setSpw p c).upHeld = s.upHeld := rfl
@[simp] theorem setSpw_orphans (s : State) (p : Nat) (c : Spw) : (s.setSpw p c).orphans = s.orphans := rfl
@[simp] theorem setSpw_shelves0 (s : State) (p : Nat) (c : Spw) : (s.setSpw p c).shelves0 = s.shelves0 := rfl
@[simp] theorem setSpw_shelves1 (s : State) (p : Nat) (c : Spw) : (s.setSpw p c).shelves1 = s.shelves1 := rfl
@[simp] theorem setSpw_later (s : State) (p : Nat) (c : Spw) : (s.setSpw p c).later = s.later := rfl
@[simp] theorem setSpw_vacated (s : State) (p : Nat) (c : Spw) : (s.setSpw p c).vacated = s.vacated := rfl
@[simp] theorem setSpw_rules (s : State) (p : Nat) (c : Spw) : (s.setSpw p c).rules = s.rules := rfl
@[simp] theorem setSpw_branchRules (s : State) (p : Nat) (c : Spw) : (s.setSpw p c).branchRules = s.branchRules := rfl
@[simp] theorem setSpw_ruleReqs (s : State) (p : Nat) (c : Spw) : (s.setSpw p c).ruleReqs = s.ruleReqs := rfl
@[simp] theorem setSpw_deposits (s : State) (p : Nat) (c : Spw) : (s.setSpw p c).deposits = s.deposits := rfl
@[simp] theorem setSpw_subs (s : State) (p : Nat) (c : Spw) : (s.setSpw p c).subs = s.subs := rfl
@[simp] theorem setSpw_mirror (s : State) (p : Nat) (c : Spw) : (s.setSpw p c).mirror = s.mirror := rfl
@[simp] theorem setSpw_evals (s : State) (p : Nat) (c : Spw) : (s.setSpw p c).evals = s.evals := rfl
@[simp] theorem setSpw_slotEvals (s : State) (p : Nat) (c : Spw) : (s.setSpw p c).slotEvals = s.slotEvals := rfl
@[simp] theorem setSpw_gustActs (s : State) (p : Nat) (c : Spw) : (s.setSpw p c).gustActs = s.gustActs := rfl
@[simp] theorem setSpw_spws (s : State) (p : Nat) (c : Spw) : (s.setSpw p c).spws = s.spws.put p Spw.reset c := rfl
@[simp] theorem setSpw_pw (s : State) (p : Nat) (c : Spw) : (s.setSpw p c).pw = s.pw := rfl
@[simp] theorem setSpw_folio (s : State) (p : Nat) (c : Spw) : (s.setSpw p c).folio = s.folio := rfl
@[simp] theorem setSpw_nvm (s : State) (p : Nat) (c : Spw) : (s.setSpw p c).nvm = s.nvm := rfl
@[simp] theorem setSpw_port (s : State) (p : Nat) (c : Spw) : (s.setSpw p c).port = s.port := rfl
@[simp] theorem setSpw_sram (s : State) (p : Nat) (c : Spw) : (s.setSpw p c).sram = s.sram := rfl
@[simp] theorem setSpw_movesThisEpoch (s : State) (p : Nat) (c : Spw) : (s.setSpw p c).movesThisEpoch = s.movesThisEpoch := rfl
@[simp] theorem setSpw_epochFrame (s : State) (p : Nat) (c : Spw) : (s.setSpw p c).epochFrame = s.epochFrame := rfl
@[simp] theorem setSpw_freeCtr (s : State) (p : Nat) (c : Spw) : (s.setSpw p c).freeCtr = s.freeCtr := rfl
@[simp] theorem setSpw_bootAt (s : State) (p : Nat) (c : Spw) : (s.setSpw p c).bootAt = s.bootAt := rfl
@[simp] theorem setSpw_booted (s : State) (p : Nat) (c : Spw) : (s.setSpw p c).booted = s.booted := rfl
@[simp] theorem setSpw_starting (s : State) (p : Nat) (c : Spw) : (s.setSpw p c).starting = s.starting := rfl
@[simp] theorem setSpw_out (s : State) (p : Nat) (c : Spw) : (s.setSpw p c).out = s.out := rfl
@[simp] theorem setSpw_pending (s : State) (p : Nat) (c : Spw) : (s.setSpw p c).pending = s.pending := rfl

/-! ## setRule -/

@[simp] theorem setRule_fc (s : State) (i : Nat) (c : Rule) : (s.setRule i c).fc = s.fc := rfl
@[simp] theorem setRule_tt (s : State) (i : Nat) (c : Rule) : (s.setRule i c).tt = s.tt := rfl
@[simp] theorem setRule_readyAt (s : State) (i : Nat) (c : Rule) : (s.setRule i c).readyAt = s.readyAt := rfl
@[simp] theorem setRule_role (s : State) (i : Nat) (c : Rule) : (s.setRule i c).role = s.role := rfl
@[simp] theorem setRule_neverFramed (s : State) (i : Nat) (c : Rule) : (s.setRule i c).neverFramed = s.neverFramed := rfl
@[simp] theorem setRule_hubNo (s : State) (i : Nat) (c : Rule) : (s.setRule i c).hubNo = s.hubNo := rfl
@[simp] theorem setRule_regs (s : State) (i : Nat) (c : Rule) : (s.setRule i c).regs = s.regs := rfl
@[simp] theorem setRule_shadows (s : State) (i : Nat) (c : Rule) : (s.setRule i c).shadows = s.shadows := rfl
@[simp] theorem setRule_latches (s : State) (i : Nat) (c : Rule) : (s.setRule i c).latches = s.latches := rfl
@[simp] theorem setRule_intFn (s : State) (i : Nat) (c : Rule) : (s.setRule i c).intFn = s.intFn := rfl
@[simp] theorem setRule_cen (s : State) (i : Nat) (c : Rule) : (s.setRule i c).cen = s.cen := rfl
@[simp] theorem setRule_badRegs (s : State) (i : Nat) (c : Rule) : (s.setRule i c).badRegs = s.badRegs := rfl
@[simp] theorem setRule_stuckRegs (s : State) (i : Nat) (c : Rule) : (s.setRule i c).stuckRegs = s.stuckRegs := rfl
@[simp] theorem setRule_trngBad (s : State) (i : Nat) (c : Rule) : (s.setRule i c).trngBad = s.trngBad := rfl
@[simp] theorem setRule_locked (s : State) (i : Nat) (c : Rule) : (s.setRule i c).locked = s.locked := rfl
@[simp] theorem setRule_rings (s : State) (i : Nat) (c : Rule) : (s.setRule i c).rings = s.rings := rfl
@[simp] theorem setRule_fn0 (s : State) (i : Nat) (c : Rule) : (s.setRule i c).fn0 = s.fn0 := rfl
@[simp] theorem setRule_fn1 (s : State) (i : Nat) (c : Rule) : (s.setRule i c).fn1 = s.fn1 := rfl
@[simp] theorem setRule_lease (s : State) (i : Nat) (c : Rule) : (s.setRule i c).lease = s.lease := rfl
@[simp] theorem setRule_flight (s : State) (i : Nat) (c : Rule) : (s.setRule i c).flight = s.flight := rfl
@[simp] theorem setRule_cqWait (s : State) (i : Nat) (c : Rule) : (s.setRule i c).cqWait = s.cqWait := rfl
@[simp] theorem setRule_nextId (s : State) (i : Nat) (c : Rule) : (s.setRule i c).nextId = s.nextId := rfl
@[simp] theorem setRule_seqs (s : State) (i : Nat) (c : Rule) : (s.setRule i c).seqs = s.seqs := rfl
@[simp] theorem setRule_seqOwn (s : State) (i : Nat) (c : Rule) : (s.setRule i c).seqOwn = s.seqOwn := rfl
@[simp] theorem setRule_pool (s : State) (i : Nat) (c : Rule) : (s.setRule i c).pool = s.pool := rfl
@[simp] theorem setRule_poolMerged (s : State) (i : Nat) (c : Rule) : (s.setRule i c).poolMerged = s.poolMerged := rfl
@[simp] theorem setRule_catalogue (s : State) (i : Nat) (c : Rule) : (s.setRule i c).catalogue = s.catalogue := rfl
@[simp] theorem setRule_nodes (s : State) (i : Nat) (c : Rule) : (s.setRule i c).nodes = s.nodes := rfl
@[simp] theorem setRule_eps (s : State) (i : Nat) (c : Rule) : (s.setRule i c).eps = s.eps := rfl
@[simp] theorem setRule_segs (s : State) (i : Nat) (c : Rule) : (s.setRule i c).segs = s.segs := rfl
@[simp] theorem setRule_links (s : State) (i : Nat) (c : Rule) : (s.setRule i c).links = s.links := rfl
@[simp] theorem setRule_upHeld (s : State) (i : Nat) (c : Rule) : (s.setRule i c).upHeld = s.upHeld := rfl
@[simp] theorem setRule_orphans (s : State) (i : Nat) (c : Rule) : (s.setRule i c).orphans = s.orphans := rfl
@[simp] theorem setRule_shelves0 (s : State) (i : Nat) (c : Rule) : (s.setRule i c).shelves0 = s.shelves0 := rfl
@[simp] theorem setRule_shelves1 (s : State) (i : Nat) (c : Rule) : (s.setRule i c).shelves1 = s.shelves1 := rfl
@[simp] theorem setRule_later (s : State) (i : Nat) (c : Rule) : (s.setRule i c).later = s.later := rfl
@[simp] theorem setRule_vacated (s : State) (i : Nat) (c : Rule) : (s.setRule i c).vacated = s.vacated := rfl
@[simp] theorem setRule_rules (s : State) (i : Nat) (c : Rule) : (s.setRule i c).rules = s.rules.put i Rule.reset c := rfl
@[simp] theorem setRule_branchRules (s : State) (i : Nat) (c : Rule) : (s.setRule i c).branchRules = s.branchRules := rfl
@[simp] theorem setRule_ruleReqs (s : State) (i : Nat) (c : Rule) : (s.setRule i c).ruleReqs = s.ruleReqs := rfl
@[simp] theorem setRule_deposits (s : State) (i : Nat) (c : Rule) : (s.setRule i c).deposits = s.deposits := rfl
@[simp] theorem setRule_subs (s : State) (i : Nat) (c : Rule) : (s.setRule i c).subs = s.subs := rfl
@[simp] theorem setRule_mirror (s : State) (i : Nat) (c : Rule) : (s.setRule i c).mirror = s.mirror := rfl
@[simp] theorem setRule_evals (s : State) (i : Nat) (c : Rule) : (s.setRule i c).evals = s.evals := rfl
@[simp] theorem setRule_slotEvals (s : State) (i : Nat) (c : Rule) : (s.setRule i c).slotEvals = s.slotEvals := rfl
@[simp] theorem setRule_gustActs (s : State) (i : Nat) (c : Rule) : (s.setRule i c).gustActs = s.gustActs := rfl
@[simp] theorem setRule_spws (s : State) (i : Nat) (c : Rule) : (s.setRule i c).spws = s.spws := rfl
@[simp] theorem setRule_pw (s : State) (i : Nat) (c : Rule) : (s.setRule i c).pw = s.pw := rfl
@[simp] theorem setRule_folio (s : State) (i : Nat) (c : Rule) : (s.setRule i c).folio = s.folio := rfl
@[simp] theorem setRule_nvm (s : State) (i : Nat) (c : Rule) : (s.setRule i c).nvm = s.nvm := rfl
@[simp] theorem setRule_port (s : State) (i : Nat) (c : Rule) : (s.setRule i c).port = s.port := rfl
@[simp] theorem setRule_sram (s : State) (i : Nat) (c : Rule) : (s.setRule i c).sram = s.sram := rfl
@[simp] theorem setRule_movesThisEpoch (s : State) (i : Nat) (c : Rule) : (s.setRule i c).movesThisEpoch = s.movesThisEpoch := rfl
@[simp] theorem setRule_epochFrame (s : State) (i : Nat) (c : Rule) : (s.setRule i c).epochFrame = s.epochFrame := rfl
@[simp] theorem setRule_freeCtr (s : State) (i : Nat) (c : Rule) : (s.setRule i c).freeCtr = s.freeCtr := rfl
@[simp] theorem setRule_bootAt (s : State) (i : Nat) (c : Rule) : (s.setRule i c).bootAt = s.bootAt := rfl
@[simp] theorem setRule_booted (s : State) (i : Nat) (c : Rule) : (s.setRule i c).booted = s.booted := rfl
@[simp] theorem setRule_starting (s : State) (i : Nat) (c : Rule) : (s.setRule i c).starting = s.starting := rfl
@[simp] theorem setRule_out (s : State) (i : Nat) (c : Rule) : (s.setRule i c).out = s.out := rfl
@[simp] theorem setRule_pending (s : State) (i : Nat) (c : Rule) : (s.setRule i c).pending = s.pending := rfl

/-! ## modTt -/

@[simp] theorem modTt_fc (s : State) (g : TreeTime → TreeTime) : (s.modTt g).fc = s.fc := rfl
@[simp] theorem modTt_tt (s : State) (g : TreeTime → TreeTime) : (s.modTt g).tt = g s.tt := rfl
@[simp] theorem modTt_readyAt (s : State) (g : TreeTime → TreeTime) : (s.modTt g).readyAt = s.readyAt := rfl
@[simp] theorem modTt_role (s : State) (g : TreeTime → TreeTime) : (s.modTt g).role = s.role := rfl
@[simp] theorem modTt_neverFramed (s : State) (g : TreeTime → TreeTime) : (s.modTt g).neverFramed = s.neverFramed := rfl
@[simp] theorem modTt_hubNo (s : State) (g : TreeTime → TreeTime) : (s.modTt g).hubNo = s.hubNo := rfl
@[simp] theorem modTt_regs (s : State) (g : TreeTime → TreeTime) : (s.modTt g).regs = s.regs := rfl
@[simp] theorem modTt_shadows (s : State) (g : TreeTime → TreeTime) : (s.modTt g).shadows = s.shadows := rfl
@[simp] theorem modTt_latches (s : State) (g : TreeTime → TreeTime) : (s.modTt g).latches = s.latches := rfl
@[simp] theorem modTt_intFn (s : State) (g : TreeTime → TreeTime) : (s.modTt g).intFn = s.intFn := rfl
@[simp] theorem modTt_cen (s : State) (g : TreeTime → TreeTime) : (s.modTt g).cen = s.cen := rfl
@[simp] theorem modTt_badRegs (s : State) (g : TreeTime → TreeTime) : (s.modTt g).badRegs = s.badRegs := rfl
@[simp] theorem modTt_stuckRegs (s : State) (g : TreeTime → TreeTime) : (s.modTt g).stuckRegs = s.stuckRegs := rfl
@[simp] theorem modTt_trngBad (s : State) (g : TreeTime → TreeTime) : (s.modTt g).trngBad = s.trngBad := rfl
@[simp] theorem modTt_locked (s : State) (g : TreeTime → TreeTime) : (s.modTt g).locked = s.locked := rfl
@[simp] theorem modTt_rings (s : State) (g : TreeTime → TreeTime) : (s.modTt g).rings = s.rings := rfl
@[simp] theorem modTt_fn0 (s : State) (g : TreeTime → TreeTime) : (s.modTt g).fn0 = s.fn0 := rfl
@[simp] theorem modTt_fn1 (s : State) (g : TreeTime → TreeTime) : (s.modTt g).fn1 = s.fn1 := rfl
@[simp] theorem modTt_lease (s : State) (g : TreeTime → TreeTime) : (s.modTt g).lease = s.lease := rfl
@[simp] theorem modTt_flight (s : State) (g : TreeTime → TreeTime) : (s.modTt g).flight = s.flight := rfl
@[simp] theorem modTt_cqWait (s : State) (g : TreeTime → TreeTime) : (s.modTt g).cqWait = s.cqWait := rfl
@[simp] theorem modTt_nextId (s : State) (g : TreeTime → TreeTime) : (s.modTt g).nextId = s.nextId := rfl
@[simp] theorem modTt_seqs (s : State) (g : TreeTime → TreeTime) : (s.modTt g).seqs = s.seqs := rfl
@[simp] theorem modTt_seqOwn (s : State) (g : TreeTime → TreeTime) : (s.modTt g).seqOwn = s.seqOwn := rfl
@[simp] theorem modTt_pool (s : State) (g : TreeTime → TreeTime) : (s.modTt g).pool = s.pool := rfl
@[simp] theorem modTt_poolMerged (s : State) (g : TreeTime → TreeTime) : (s.modTt g).poolMerged = s.poolMerged := rfl
@[simp] theorem modTt_catalogue (s : State) (g : TreeTime → TreeTime) : (s.modTt g).catalogue = s.catalogue := rfl
@[simp] theorem modTt_nodes (s : State) (g : TreeTime → TreeTime) : (s.modTt g).nodes = s.nodes := rfl
@[simp] theorem modTt_eps (s : State) (g : TreeTime → TreeTime) : (s.modTt g).eps = s.eps := rfl
@[simp] theorem modTt_segs (s : State) (g : TreeTime → TreeTime) : (s.modTt g).segs = s.segs := rfl
@[simp] theorem modTt_links (s : State) (g : TreeTime → TreeTime) : (s.modTt g).links = s.links := rfl
@[simp] theorem modTt_upHeld (s : State) (g : TreeTime → TreeTime) : (s.modTt g).upHeld = s.upHeld := rfl
@[simp] theorem modTt_orphans (s : State) (g : TreeTime → TreeTime) : (s.modTt g).orphans = s.orphans := rfl
@[simp] theorem modTt_shelves0 (s : State) (g : TreeTime → TreeTime) : (s.modTt g).shelves0 = s.shelves0 := rfl
@[simp] theorem modTt_shelves1 (s : State) (g : TreeTime → TreeTime) : (s.modTt g).shelves1 = s.shelves1 := rfl
@[simp] theorem modTt_later (s : State) (g : TreeTime → TreeTime) : (s.modTt g).later = s.later := rfl
@[simp] theorem modTt_vacated (s : State) (g : TreeTime → TreeTime) : (s.modTt g).vacated = s.vacated := rfl
@[simp] theorem modTt_rules (s : State) (g : TreeTime → TreeTime) : (s.modTt g).rules = s.rules := rfl
@[simp] theorem modTt_branchRules (s : State) (g : TreeTime → TreeTime) : (s.modTt g).branchRules = s.branchRules := rfl
@[simp] theorem modTt_ruleReqs (s : State) (g : TreeTime → TreeTime) : (s.modTt g).ruleReqs = s.ruleReqs := rfl
@[simp] theorem modTt_deposits (s : State) (g : TreeTime → TreeTime) : (s.modTt g).deposits = s.deposits := rfl
@[simp] theorem modTt_subs (s : State) (g : TreeTime → TreeTime) : (s.modTt g).subs = s.subs := rfl
@[simp] theorem modTt_mirror (s : State) (g : TreeTime → TreeTime) : (s.modTt g).mirror = s.mirror := rfl
@[simp] theorem modTt_evals (s : State) (g : TreeTime → TreeTime) : (s.modTt g).evals = s.evals := rfl
@[simp] theorem modTt_slotEvals (s : State) (g : TreeTime → TreeTime) : (s.modTt g).slotEvals = s.slotEvals := rfl
@[simp] theorem modTt_gustActs (s : State) (g : TreeTime → TreeTime) : (s.modTt g).gustActs = s.gustActs := rfl
@[simp] theorem modTt_spws (s : State) (g : TreeTime → TreeTime) : (s.modTt g).spws = s.spws := rfl
@[simp] theorem modTt_pw (s : State) (g : TreeTime → TreeTime) : (s.modTt g).pw = s.pw := rfl
@[simp] theorem modTt_folio (s : State) (g : TreeTime → TreeTime) : (s.modTt g).folio = s.folio := rfl
@[simp] theorem modTt_nvm (s : State) (g : TreeTime → TreeTime) : (s.modTt g).nvm = s.nvm := rfl
@[simp] theorem modTt_port (s : State) (g : TreeTime → TreeTime) : (s.modTt g).port = s.port := rfl
@[simp] theorem modTt_sram (s : State) (g : TreeTime → TreeTime) : (s.modTt g).sram = s.sram := rfl
@[simp] theorem modTt_movesThisEpoch (s : State) (g : TreeTime → TreeTime) : (s.modTt g).movesThisEpoch = s.movesThisEpoch := rfl
@[simp] theorem modTt_epochFrame (s : State) (g : TreeTime → TreeTime) : (s.modTt g).epochFrame = s.epochFrame := rfl
@[simp] theorem modTt_freeCtr (s : State) (g : TreeTime → TreeTime) : (s.modTt g).freeCtr = s.freeCtr := rfl
@[simp] theorem modTt_bootAt (s : State) (g : TreeTime → TreeTime) : (s.modTt g).bootAt = s.bootAt := rfl
@[simp] theorem modTt_booted (s : State) (g : TreeTime → TreeTime) : (s.modTt g).booted = s.booted := rfl
@[simp] theorem modTt_starting (s : State) (g : TreeTime → TreeTime) : (s.modTt g).starting = s.starting := rfl
@[simp] theorem modTt_out (s : State) (g : TreeTime → TreeTime) : (s.modTt g).out = s.out := rfl
@[simp] theorem modTt_pending (s : State) (g : TreeTime → TreeTime) : (s.modTt g).pending = s.pending := rfl

/-! ## modPw -/

@[simp] theorem modPw_fc (s : State) (g : Power → Power) : (s.modPw g).fc = s.fc := rfl
@[simp] theorem modPw_tt (s : State) (g : Power → Power) : (s.modPw g).tt = s.tt := rfl
@[simp] theorem modPw_readyAt (s : State) (g : Power → Power) : (s.modPw g).readyAt = s.readyAt := rfl
@[simp] theorem modPw_role (s : State) (g : Power → Power) : (s.modPw g).role = s.role := rfl
@[simp] theorem modPw_neverFramed (s : State) (g : Power → Power) : (s.modPw g).neverFramed = s.neverFramed := rfl
@[simp] theorem modPw_hubNo (s : State) (g : Power → Power) : (s.modPw g).hubNo = s.hubNo := rfl
@[simp] theorem modPw_regs (s : State) (g : Power → Power) : (s.modPw g).regs = s.regs := rfl
@[simp] theorem modPw_shadows (s : State) (g : Power → Power) : (s.modPw g).shadows = s.shadows := rfl
@[simp] theorem modPw_latches (s : State) (g : Power → Power) : (s.modPw g).latches = s.latches := rfl
@[simp] theorem modPw_intFn (s : State) (g : Power → Power) : (s.modPw g).intFn = s.intFn := rfl
@[simp] theorem modPw_cen (s : State) (g : Power → Power) : (s.modPw g).cen = s.cen := rfl
@[simp] theorem modPw_badRegs (s : State) (g : Power → Power) : (s.modPw g).badRegs = s.badRegs := rfl
@[simp] theorem modPw_stuckRegs (s : State) (g : Power → Power) : (s.modPw g).stuckRegs = s.stuckRegs := rfl
@[simp] theorem modPw_trngBad (s : State) (g : Power → Power) : (s.modPw g).trngBad = s.trngBad := rfl
@[simp] theorem modPw_locked (s : State) (g : Power → Power) : (s.modPw g).locked = s.locked := rfl
@[simp] theorem modPw_rings (s : State) (g : Power → Power) : (s.modPw g).rings = s.rings := rfl
@[simp] theorem modPw_fn0 (s : State) (g : Power → Power) : (s.modPw g).fn0 = s.fn0 := rfl
@[simp] theorem modPw_fn1 (s : State) (g : Power → Power) : (s.modPw g).fn1 = s.fn1 := rfl
@[simp] theorem modPw_lease (s : State) (g : Power → Power) : (s.modPw g).lease = s.lease := rfl
@[simp] theorem modPw_flight (s : State) (g : Power → Power) : (s.modPw g).flight = s.flight := rfl
@[simp] theorem modPw_cqWait (s : State) (g : Power → Power) : (s.modPw g).cqWait = s.cqWait := rfl
@[simp] theorem modPw_nextId (s : State) (g : Power → Power) : (s.modPw g).nextId = s.nextId := rfl
@[simp] theorem modPw_seqs (s : State) (g : Power → Power) : (s.modPw g).seqs = s.seqs := rfl
@[simp] theorem modPw_seqOwn (s : State) (g : Power → Power) : (s.modPw g).seqOwn = s.seqOwn := rfl
@[simp] theorem modPw_pool (s : State) (g : Power → Power) : (s.modPw g).pool = s.pool := rfl
@[simp] theorem modPw_poolMerged (s : State) (g : Power → Power) : (s.modPw g).poolMerged = s.poolMerged := rfl
@[simp] theorem modPw_catalogue (s : State) (g : Power → Power) : (s.modPw g).catalogue = s.catalogue := rfl
@[simp] theorem modPw_nodes (s : State) (g : Power → Power) : (s.modPw g).nodes = s.nodes := rfl
@[simp] theorem modPw_eps (s : State) (g : Power → Power) : (s.modPw g).eps = s.eps := rfl
@[simp] theorem modPw_segs (s : State) (g : Power → Power) : (s.modPw g).segs = s.segs := rfl
@[simp] theorem modPw_links (s : State) (g : Power → Power) : (s.modPw g).links = s.links := rfl
@[simp] theorem modPw_upHeld (s : State) (g : Power → Power) : (s.modPw g).upHeld = s.upHeld := rfl
@[simp] theorem modPw_orphans (s : State) (g : Power → Power) : (s.modPw g).orphans = s.orphans := rfl
@[simp] theorem modPw_shelves0 (s : State) (g : Power → Power) : (s.modPw g).shelves0 = s.shelves0 := rfl
@[simp] theorem modPw_shelves1 (s : State) (g : Power → Power) : (s.modPw g).shelves1 = s.shelves1 := rfl
@[simp] theorem modPw_later (s : State) (g : Power → Power) : (s.modPw g).later = s.later := rfl
@[simp] theorem modPw_vacated (s : State) (g : Power → Power) : (s.modPw g).vacated = s.vacated := rfl
@[simp] theorem modPw_rules (s : State) (g : Power → Power) : (s.modPw g).rules = s.rules := rfl
@[simp] theorem modPw_branchRules (s : State) (g : Power → Power) : (s.modPw g).branchRules = s.branchRules := rfl
@[simp] theorem modPw_ruleReqs (s : State) (g : Power → Power) : (s.modPw g).ruleReqs = s.ruleReqs := rfl
@[simp] theorem modPw_deposits (s : State) (g : Power → Power) : (s.modPw g).deposits = s.deposits := rfl
@[simp] theorem modPw_subs (s : State) (g : Power → Power) : (s.modPw g).subs = s.subs := rfl
@[simp] theorem modPw_mirror (s : State) (g : Power → Power) : (s.modPw g).mirror = s.mirror := rfl
@[simp] theorem modPw_evals (s : State) (g : Power → Power) : (s.modPw g).evals = s.evals := rfl
@[simp] theorem modPw_slotEvals (s : State) (g : Power → Power) : (s.modPw g).slotEvals = s.slotEvals := rfl
@[simp] theorem modPw_gustActs (s : State) (g : Power → Power) : (s.modPw g).gustActs = s.gustActs := rfl
@[simp] theorem modPw_spws (s : State) (g : Power → Power) : (s.modPw g).spws = s.spws := rfl
@[simp] theorem modPw_pw (s : State) (g : Power → Power) : (s.modPw g).pw = g s.pw := rfl
@[simp] theorem modPw_folio (s : State) (g : Power → Power) : (s.modPw g).folio = s.folio := rfl
@[simp] theorem modPw_nvm (s : State) (g : Power → Power) : (s.modPw g).nvm = s.nvm := rfl
@[simp] theorem modPw_port (s : State) (g : Power → Power) : (s.modPw g).port = s.port := rfl
@[simp] theorem modPw_sram (s : State) (g : Power → Power) : (s.modPw g).sram = s.sram := rfl
@[simp] theorem modPw_movesThisEpoch (s : State) (g : Power → Power) : (s.modPw g).movesThisEpoch = s.movesThisEpoch := rfl
@[simp] theorem modPw_epochFrame (s : State) (g : Power → Power) : (s.modPw g).epochFrame = s.epochFrame := rfl
@[simp] theorem modPw_freeCtr (s : State) (g : Power → Power) : (s.modPw g).freeCtr = s.freeCtr := rfl
@[simp] theorem modPw_bootAt (s : State) (g : Power → Power) : (s.modPw g).bootAt = s.bootAt := rfl
@[simp] theorem modPw_booted (s : State) (g : Power → Power) : (s.modPw g).booted = s.booted := rfl
@[simp] theorem modPw_starting (s : State) (g : Power → Power) : (s.modPw g).starting = s.starting := rfl
@[simp] theorem modPw_out (s : State) (g : Power → Power) : (s.modPw g).out = s.out := rfl
@[simp] theorem modPw_pending (s : State) (g : Power → Power) : (s.modPw g).pending = s.pending := rfl

/-! ## modFolio -/

@[simp] theorem modFolio_fc (s : State) (g : Folio → Folio) : (s.modFolio g).fc = s.fc := rfl
@[simp] theorem modFolio_tt (s : State) (g : Folio → Folio) : (s.modFolio g).tt = s.tt := rfl
@[simp] theorem modFolio_readyAt (s : State) (g : Folio → Folio) : (s.modFolio g).readyAt = s.readyAt := rfl
@[simp] theorem modFolio_role (s : State) (g : Folio → Folio) : (s.modFolio g).role = s.role := rfl
@[simp] theorem modFolio_neverFramed (s : State) (g : Folio → Folio) : (s.modFolio g).neverFramed = s.neverFramed := rfl
@[simp] theorem modFolio_hubNo (s : State) (g : Folio → Folio) : (s.modFolio g).hubNo = s.hubNo := rfl
@[simp] theorem modFolio_regs (s : State) (g : Folio → Folio) : (s.modFolio g).regs = s.regs := rfl
@[simp] theorem modFolio_shadows (s : State) (g : Folio → Folio) : (s.modFolio g).shadows = s.shadows := rfl
@[simp] theorem modFolio_latches (s : State) (g : Folio → Folio) : (s.modFolio g).latches = s.latches := rfl
@[simp] theorem modFolio_intFn (s : State) (g : Folio → Folio) : (s.modFolio g).intFn = s.intFn := rfl
@[simp] theorem modFolio_cen (s : State) (g : Folio → Folio) : (s.modFolio g).cen = s.cen := rfl
@[simp] theorem modFolio_badRegs (s : State) (g : Folio → Folio) : (s.modFolio g).badRegs = s.badRegs := rfl
@[simp] theorem modFolio_stuckRegs (s : State) (g : Folio → Folio) : (s.modFolio g).stuckRegs = s.stuckRegs := rfl
@[simp] theorem modFolio_trngBad (s : State) (g : Folio → Folio) : (s.modFolio g).trngBad = s.trngBad := rfl
@[simp] theorem modFolio_locked (s : State) (g : Folio → Folio) : (s.modFolio g).locked = s.locked := rfl
@[simp] theorem modFolio_rings (s : State) (g : Folio → Folio) : (s.modFolio g).rings = s.rings := rfl
@[simp] theorem modFolio_fn0 (s : State) (g : Folio → Folio) : (s.modFolio g).fn0 = s.fn0 := rfl
@[simp] theorem modFolio_fn1 (s : State) (g : Folio → Folio) : (s.modFolio g).fn1 = s.fn1 := rfl
@[simp] theorem modFolio_lease (s : State) (g : Folio → Folio) : (s.modFolio g).lease = s.lease := rfl
@[simp] theorem modFolio_flight (s : State) (g : Folio → Folio) : (s.modFolio g).flight = s.flight := rfl
@[simp] theorem modFolio_cqWait (s : State) (g : Folio → Folio) : (s.modFolio g).cqWait = s.cqWait := rfl
@[simp] theorem modFolio_nextId (s : State) (g : Folio → Folio) : (s.modFolio g).nextId = s.nextId := rfl
@[simp] theorem modFolio_seqs (s : State) (g : Folio → Folio) : (s.modFolio g).seqs = s.seqs := rfl
@[simp] theorem modFolio_seqOwn (s : State) (g : Folio → Folio) : (s.modFolio g).seqOwn = s.seqOwn := rfl
@[simp] theorem modFolio_pool (s : State) (g : Folio → Folio) : (s.modFolio g).pool = s.pool := rfl
@[simp] theorem modFolio_poolMerged (s : State) (g : Folio → Folio) : (s.modFolio g).poolMerged = s.poolMerged := rfl
@[simp] theorem modFolio_catalogue (s : State) (g : Folio → Folio) : (s.modFolio g).catalogue = s.catalogue := rfl
@[simp] theorem modFolio_nodes (s : State) (g : Folio → Folio) : (s.modFolio g).nodes = s.nodes := rfl
@[simp] theorem modFolio_eps (s : State) (g : Folio → Folio) : (s.modFolio g).eps = s.eps := rfl
@[simp] theorem modFolio_segs (s : State) (g : Folio → Folio) : (s.modFolio g).segs = s.segs := rfl
@[simp] theorem modFolio_links (s : State) (g : Folio → Folio) : (s.modFolio g).links = s.links := rfl
@[simp] theorem modFolio_upHeld (s : State) (g : Folio → Folio) : (s.modFolio g).upHeld = s.upHeld := rfl
@[simp] theorem modFolio_orphans (s : State) (g : Folio → Folio) : (s.modFolio g).orphans = s.orphans := rfl
@[simp] theorem modFolio_shelves0 (s : State) (g : Folio → Folio) : (s.modFolio g).shelves0 = s.shelves0 := rfl
@[simp] theorem modFolio_shelves1 (s : State) (g : Folio → Folio) : (s.modFolio g).shelves1 = s.shelves1 := rfl
@[simp] theorem modFolio_later (s : State) (g : Folio → Folio) : (s.modFolio g).later = s.later := rfl
@[simp] theorem modFolio_vacated (s : State) (g : Folio → Folio) : (s.modFolio g).vacated = s.vacated := rfl
@[simp] theorem modFolio_rules (s : State) (g : Folio → Folio) : (s.modFolio g).rules = s.rules := rfl
@[simp] theorem modFolio_branchRules (s : State) (g : Folio → Folio) : (s.modFolio g).branchRules = s.branchRules := rfl
@[simp] theorem modFolio_ruleReqs (s : State) (g : Folio → Folio) : (s.modFolio g).ruleReqs = s.ruleReqs := rfl
@[simp] theorem modFolio_deposits (s : State) (g : Folio → Folio) : (s.modFolio g).deposits = s.deposits := rfl
@[simp] theorem modFolio_subs (s : State) (g : Folio → Folio) : (s.modFolio g).subs = s.subs := rfl
@[simp] theorem modFolio_mirror (s : State) (g : Folio → Folio) : (s.modFolio g).mirror = s.mirror := rfl
@[simp] theorem modFolio_evals (s : State) (g : Folio → Folio) : (s.modFolio g).evals = s.evals := rfl
@[simp] theorem modFolio_slotEvals (s : State) (g : Folio → Folio) : (s.modFolio g).slotEvals = s.slotEvals := rfl
@[simp] theorem modFolio_gustActs (s : State) (g : Folio → Folio) : (s.modFolio g).gustActs = s.gustActs := rfl
@[simp] theorem modFolio_spws (s : State) (g : Folio → Folio) : (s.modFolio g).spws = s.spws := rfl
@[simp] theorem modFolio_pw (s : State) (g : Folio → Folio) : (s.modFolio g).pw = s.pw := rfl
@[simp] theorem modFolio_folio (s : State) (g : Folio → Folio) : (s.modFolio g).folio = g s.folio := rfl
@[simp] theorem modFolio_nvm (s : State) (g : Folio → Folio) : (s.modFolio g).nvm = s.nvm := rfl
@[simp] theorem modFolio_port (s : State) (g : Folio → Folio) : (s.modFolio g).port = s.port := rfl
@[simp] theorem modFolio_sram (s : State) (g : Folio → Folio) : (s.modFolio g).sram = s.sram := rfl
@[simp] theorem modFolio_movesThisEpoch (s : State) (g : Folio → Folio) : (s.modFolio g).movesThisEpoch = s.movesThisEpoch := rfl
@[simp] theorem modFolio_epochFrame (s : State) (g : Folio → Folio) : (s.modFolio g).epochFrame = s.epochFrame := rfl
@[simp] theorem modFolio_freeCtr (s : State) (g : Folio → Folio) : (s.modFolio g).freeCtr = s.freeCtr := rfl
@[simp] theorem modFolio_bootAt (s : State) (g : Folio → Folio) : (s.modFolio g).bootAt = s.bootAt := rfl
@[simp] theorem modFolio_booted (s : State) (g : Folio → Folio) : (s.modFolio g).booted = s.booted := rfl
@[simp] theorem modFolio_starting (s : State) (g : Folio → Folio) : (s.modFolio g).starting = s.starting := rfl
@[simp] theorem modFolio_out (s : State) (g : Folio → Folio) : (s.modFolio g).out = s.out := rfl
@[simp] theorem modFolio_pending (s : State) (g : Folio → Folio) : (s.modFolio g).pending = s.pending := rfl

/-! ## modNvm -/

@[simp] theorem modNvm_fc (s : State) (g : Nvm → Nvm) : (s.modNvm g).fc = s.fc := rfl
@[simp] theorem modNvm_tt (s : State) (g : Nvm → Nvm) : (s.modNvm g).tt = s.tt := rfl
@[simp] theorem modNvm_readyAt (s : State) (g : Nvm → Nvm) : (s.modNvm g).readyAt = s.readyAt := rfl
@[simp] theorem modNvm_role (s : State) (g : Nvm → Nvm) : (s.modNvm g).role = s.role := rfl
@[simp] theorem modNvm_neverFramed (s : State) (g : Nvm → Nvm) : (s.modNvm g).neverFramed = s.neverFramed := rfl
@[simp] theorem modNvm_hubNo (s : State) (g : Nvm → Nvm) : (s.modNvm g).hubNo = s.hubNo := rfl
@[simp] theorem modNvm_regs (s : State) (g : Nvm → Nvm) : (s.modNvm g).regs = s.regs := rfl
@[simp] theorem modNvm_shadows (s : State) (g : Nvm → Nvm) : (s.modNvm g).shadows = s.shadows := rfl
@[simp] theorem modNvm_latches (s : State) (g : Nvm → Nvm) : (s.modNvm g).latches = s.latches := rfl
@[simp] theorem modNvm_intFn (s : State) (g : Nvm → Nvm) : (s.modNvm g).intFn = s.intFn := rfl
@[simp] theorem modNvm_cen (s : State) (g : Nvm → Nvm) : (s.modNvm g).cen = s.cen := rfl
@[simp] theorem modNvm_badRegs (s : State) (g : Nvm → Nvm) : (s.modNvm g).badRegs = s.badRegs := rfl
@[simp] theorem modNvm_stuckRegs (s : State) (g : Nvm → Nvm) : (s.modNvm g).stuckRegs = s.stuckRegs := rfl
@[simp] theorem modNvm_trngBad (s : State) (g : Nvm → Nvm) : (s.modNvm g).trngBad = s.trngBad := rfl
@[simp] theorem modNvm_locked (s : State) (g : Nvm → Nvm) : (s.modNvm g).locked = s.locked := rfl
@[simp] theorem modNvm_rings (s : State) (g : Nvm → Nvm) : (s.modNvm g).rings = s.rings := rfl
@[simp] theorem modNvm_fn0 (s : State) (g : Nvm → Nvm) : (s.modNvm g).fn0 = s.fn0 := rfl
@[simp] theorem modNvm_fn1 (s : State) (g : Nvm → Nvm) : (s.modNvm g).fn1 = s.fn1 := rfl
@[simp] theorem modNvm_lease (s : State) (g : Nvm → Nvm) : (s.modNvm g).lease = s.lease := rfl
@[simp] theorem modNvm_flight (s : State) (g : Nvm → Nvm) : (s.modNvm g).flight = s.flight := rfl
@[simp] theorem modNvm_cqWait (s : State) (g : Nvm → Nvm) : (s.modNvm g).cqWait = s.cqWait := rfl
@[simp] theorem modNvm_nextId (s : State) (g : Nvm → Nvm) : (s.modNvm g).nextId = s.nextId := rfl
@[simp] theorem modNvm_seqs (s : State) (g : Nvm → Nvm) : (s.modNvm g).seqs = s.seqs := rfl
@[simp] theorem modNvm_seqOwn (s : State) (g : Nvm → Nvm) : (s.modNvm g).seqOwn = s.seqOwn := rfl
@[simp] theorem modNvm_pool (s : State) (g : Nvm → Nvm) : (s.modNvm g).pool = s.pool := rfl
@[simp] theorem modNvm_poolMerged (s : State) (g : Nvm → Nvm) : (s.modNvm g).poolMerged = s.poolMerged := rfl
@[simp] theorem modNvm_catalogue (s : State) (g : Nvm → Nvm) : (s.modNvm g).catalogue = s.catalogue := rfl
@[simp] theorem modNvm_nodes (s : State) (g : Nvm → Nvm) : (s.modNvm g).nodes = s.nodes := rfl
@[simp] theorem modNvm_eps (s : State) (g : Nvm → Nvm) : (s.modNvm g).eps = s.eps := rfl
@[simp] theorem modNvm_segs (s : State) (g : Nvm → Nvm) : (s.modNvm g).segs = s.segs := rfl
@[simp] theorem modNvm_links (s : State) (g : Nvm → Nvm) : (s.modNvm g).links = s.links := rfl
@[simp] theorem modNvm_upHeld (s : State) (g : Nvm → Nvm) : (s.modNvm g).upHeld = s.upHeld := rfl
@[simp] theorem modNvm_orphans (s : State) (g : Nvm → Nvm) : (s.modNvm g).orphans = s.orphans := rfl
@[simp] theorem modNvm_shelves0 (s : State) (g : Nvm → Nvm) : (s.modNvm g).shelves0 = s.shelves0 := rfl
@[simp] theorem modNvm_shelves1 (s : State) (g : Nvm → Nvm) : (s.modNvm g).shelves1 = s.shelves1 := rfl
@[simp] theorem modNvm_later (s : State) (g : Nvm → Nvm) : (s.modNvm g).later = s.later := rfl
@[simp] theorem modNvm_vacated (s : State) (g : Nvm → Nvm) : (s.modNvm g).vacated = s.vacated := rfl
@[simp] theorem modNvm_rules (s : State) (g : Nvm → Nvm) : (s.modNvm g).rules = s.rules := rfl
@[simp] theorem modNvm_branchRules (s : State) (g : Nvm → Nvm) : (s.modNvm g).branchRules = s.branchRules := rfl
@[simp] theorem modNvm_ruleReqs (s : State) (g : Nvm → Nvm) : (s.modNvm g).ruleReqs = s.ruleReqs := rfl
@[simp] theorem modNvm_deposits (s : State) (g : Nvm → Nvm) : (s.modNvm g).deposits = s.deposits := rfl
@[simp] theorem modNvm_subs (s : State) (g : Nvm → Nvm) : (s.modNvm g).subs = s.subs := rfl
@[simp] theorem modNvm_mirror (s : State) (g : Nvm → Nvm) : (s.modNvm g).mirror = s.mirror := rfl
@[simp] theorem modNvm_evals (s : State) (g : Nvm → Nvm) : (s.modNvm g).evals = s.evals := rfl
@[simp] theorem modNvm_slotEvals (s : State) (g : Nvm → Nvm) : (s.modNvm g).slotEvals = s.slotEvals := rfl
@[simp] theorem modNvm_gustActs (s : State) (g : Nvm → Nvm) : (s.modNvm g).gustActs = s.gustActs := rfl
@[simp] theorem modNvm_spws (s : State) (g : Nvm → Nvm) : (s.modNvm g).spws = s.spws := rfl
@[simp] theorem modNvm_pw (s : State) (g : Nvm → Nvm) : (s.modNvm g).pw = s.pw := rfl
@[simp] theorem modNvm_folio (s : State) (g : Nvm → Nvm) : (s.modNvm g).folio = s.folio := rfl
@[simp] theorem modNvm_nvm (s : State) (g : Nvm → Nvm) : (s.modNvm g).nvm = g s.nvm := rfl
@[simp] theorem modNvm_port (s : State) (g : Nvm → Nvm) : (s.modNvm g).port = s.port := rfl
@[simp] theorem modNvm_sram (s : State) (g : Nvm → Nvm) : (s.modNvm g).sram = s.sram := rfl
@[simp] theorem modNvm_movesThisEpoch (s : State) (g : Nvm → Nvm) : (s.modNvm g).movesThisEpoch = s.movesThisEpoch := rfl
@[simp] theorem modNvm_epochFrame (s : State) (g : Nvm → Nvm) : (s.modNvm g).epochFrame = s.epochFrame := rfl
@[simp] theorem modNvm_freeCtr (s : State) (g : Nvm → Nvm) : (s.modNvm g).freeCtr = s.freeCtr := rfl
@[simp] theorem modNvm_bootAt (s : State) (g : Nvm → Nvm) : (s.modNvm g).bootAt = s.bootAt := rfl
@[simp] theorem modNvm_booted (s : State) (g : Nvm → Nvm) : (s.modNvm g).booted = s.booted := rfl
@[simp] theorem modNvm_starting (s : State) (g : Nvm → Nvm) : (s.modNvm g).starting = s.starting := rfl
@[simp] theorem modNvm_out (s : State) (g : Nvm → Nvm) : (s.modNvm g).out = s.out := rfl
@[simp] theorem modNvm_pending (s : State) (g : Nvm → Nvm) : (s.modNvm g).pending = s.pending := rfl

/-! ## modPort -/

@[simp] theorem modPort_fc (s : State) (g : Port → Port) : (s.modPort g).fc = s.fc := rfl
@[simp] theorem modPort_tt (s : State) (g : Port → Port) : (s.modPort g).tt = s.tt := rfl
@[simp] theorem modPort_readyAt (s : State) (g : Port → Port) : (s.modPort g).readyAt = s.readyAt := rfl
@[simp] theorem modPort_role (s : State) (g : Port → Port) : (s.modPort g).role = s.role := rfl
@[simp] theorem modPort_neverFramed (s : State) (g : Port → Port) : (s.modPort g).neverFramed = s.neverFramed := rfl
@[simp] theorem modPort_hubNo (s : State) (g : Port → Port) : (s.modPort g).hubNo = s.hubNo := rfl
@[simp] theorem modPort_regs (s : State) (g : Port → Port) : (s.modPort g).regs = s.regs := rfl
@[simp] theorem modPort_shadows (s : State) (g : Port → Port) : (s.modPort g).shadows = s.shadows := rfl
@[simp] theorem modPort_latches (s : State) (g : Port → Port) : (s.modPort g).latches = s.latches := rfl
@[simp] theorem modPort_intFn (s : State) (g : Port → Port) : (s.modPort g).intFn = s.intFn := rfl
@[simp] theorem modPort_cen (s : State) (g : Port → Port) : (s.modPort g).cen = s.cen := rfl
@[simp] theorem modPort_badRegs (s : State) (g : Port → Port) : (s.modPort g).badRegs = s.badRegs := rfl
@[simp] theorem modPort_stuckRegs (s : State) (g : Port → Port) : (s.modPort g).stuckRegs = s.stuckRegs := rfl
@[simp] theorem modPort_trngBad (s : State) (g : Port → Port) : (s.modPort g).trngBad = s.trngBad := rfl
@[simp] theorem modPort_locked (s : State) (g : Port → Port) : (s.modPort g).locked = s.locked := rfl
@[simp] theorem modPort_rings (s : State) (g : Port → Port) : (s.modPort g).rings = s.rings := rfl
@[simp] theorem modPort_fn0 (s : State) (g : Port → Port) : (s.modPort g).fn0 = s.fn0 := rfl
@[simp] theorem modPort_fn1 (s : State) (g : Port → Port) : (s.modPort g).fn1 = s.fn1 := rfl
@[simp] theorem modPort_lease (s : State) (g : Port → Port) : (s.modPort g).lease = s.lease := rfl
@[simp] theorem modPort_flight (s : State) (g : Port → Port) : (s.modPort g).flight = s.flight := rfl
@[simp] theorem modPort_cqWait (s : State) (g : Port → Port) : (s.modPort g).cqWait = s.cqWait := rfl
@[simp] theorem modPort_nextId (s : State) (g : Port → Port) : (s.modPort g).nextId = s.nextId := rfl
@[simp] theorem modPort_seqs (s : State) (g : Port → Port) : (s.modPort g).seqs = s.seqs := rfl
@[simp] theorem modPort_seqOwn (s : State) (g : Port → Port) : (s.modPort g).seqOwn = s.seqOwn := rfl
@[simp] theorem modPort_pool (s : State) (g : Port → Port) : (s.modPort g).pool = s.pool := rfl
@[simp] theorem modPort_poolMerged (s : State) (g : Port → Port) : (s.modPort g).poolMerged = s.poolMerged := rfl
@[simp] theorem modPort_catalogue (s : State) (g : Port → Port) : (s.modPort g).catalogue = s.catalogue := rfl
@[simp] theorem modPort_nodes (s : State) (g : Port → Port) : (s.modPort g).nodes = s.nodes := rfl
@[simp] theorem modPort_eps (s : State) (g : Port → Port) : (s.modPort g).eps = s.eps := rfl
@[simp] theorem modPort_segs (s : State) (g : Port → Port) : (s.modPort g).segs = s.segs := rfl
@[simp] theorem modPort_links (s : State) (g : Port → Port) : (s.modPort g).links = s.links := rfl
@[simp] theorem modPort_upHeld (s : State) (g : Port → Port) : (s.modPort g).upHeld = s.upHeld := rfl
@[simp] theorem modPort_orphans (s : State) (g : Port → Port) : (s.modPort g).orphans = s.orphans := rfl
@[simp] theorem modPort_shelves0 (s : State) (g : Port → Port) : (s.modPort g).shelves0 = s.shelves0 := rfl
@[simp] theorem modPort_shelves1 (s : State) (g : Port → Port) : (s.modPort g).shelves1 = s.shelves1 := rfl
@[simp] theorem modPort_later (s : State) (g : Port → Port) : (s.modPort g).later = s.later := rfl
@[simp] theorem modPort_vacated (s : State) (g : Port → Port) : (s.modPort g).vacated = s.vacated := rfl
@[simp] theorem modPort_rules (s : State) (g : Port → Port) : (s.modPort g).rules = s.rules := rfl
@[simp] theorem modPort_branchRules (s : State) (g : Port → Port) : (s.modPort g).branchRules = s.branchRules := rfl
@[simp] theorem modPort_ruleReqs (s : State) (g : Port → Port) : (s.modPort g).ruleReqs = s.ruleReqs := rfl
@[simp] theorem modPort_deposits (s : State) (g : Port → Port) : (s.modPort g).deposits = s.deposits := rfl
@[simp] theorem modPort_subs (s : State) (g : Port → Port) : (s.modPort g).subs = s.subs := rfl
@[simp] theorem modPort_mirror (s : State) (g : Port → Port) : (s.modPort g).mirror = s.mirror := rfl
@[simp] theorem modPort_evals (s : State) (g : Port → Port) : (s.modPort g).evals = s.evals := rfl
@[simp] theorem modPort_slotEvals (s : State) (g : Port → Port) : (s.modPort g).slotEvals = s.slotEvals := rfl
@[simp] theorem modPort_gustActs (s : State) (g : Port → Port) : (s.modPort g).gustActs = s.gustActs := rfl
@[simp] theorem modPort_spws (s : State) (g : Port → Port) : (s.modPort g).spws = s.spws := rfl
@[simp] theorem modPort_pw (s : State) (g : Port → Port) : (s.modPort g).pw = s.pw := rfl
@[simp] theorem modPort_folio (s : State) (g : Port → Port) : (s.modPort g).folio = s.folio := rfl
@[simp] theorem modPort_nvm (s : State) (g : Port → Port) : (s.modPort g).nvm = s.nvm := rfl
@[simp] theorem modPort_port (s : State) (g : Port → Port) : (s.modPort g).port = g s.port := rfl
@[simp] theorem modPort_sram (s : State) (g : Port → Port) : (s.modPort g).sram = s.sram := rfl
@[simp] theorem modPort_movesThisEpoch (s : State) (g : Port → Port) : (s.modPort g).movesThisEpoch = s.movesThisEpoch := rfl
@[simp] theorem modPort_epochFrame (s : State) (g : Port → Port) : (s.modPort g).epochFrame = s.epochFrame := rfl
@[simp] theorem modPort_freeCtr (s : State) (g : Port → Port) : (s.modPort g).freeCtr = s.freeCtr := rfl
@[simp] theorem modPort_bootAt (s : State) (g : Port → Port) : (s.modPort g).bootAt = s.bootAt := rfl
@[simp] theorem modPort_booted (s : State) (g : Port → Port) : (s.modPort g).booted = s.booted := rfl
@[simp] theorem modPort_starting (s : State) (g : Port → Port) : (s.modPort g).starting = s.starting := rfl
@[simp] theorem modPort_out (s : State) (g : Port → Port) : (s.modPort g).out = s.out := rfl
@[simp] theorem modPort_pending (s : State) (g : Port → Port) : (s.modPort g).pending = s.pending := rfl

/-! ## emit -/

@[simp] theorem emit_fc (s : State) (o : Out) : (s.emit o).fc = s.fc := rfl
@[simp] theorem emit_tt (s : State) (o : Out) : (s.emit o).tt = s.tt := rfl
@[simp] theorem emit_readyAt (s : State) (o : Out) : (s.emit o).readyAt = s.readyAt := rfl
@[simp] theorem emit_role (s : State) (o : Out) : (s.emit o).role = s.role := rfl
@[simp] theorem emit_neverFramed (s : State) (o : Out) : (s.emit o).neverFramed = s.neverFramed := rfl
@[simp] theorem emit_hubNo (s : State) (o : Out) : (s.emit o).hubNo = s.hubNo := rfl
@[simp] theorem emit_regs (s : State) (o : Out) : (s.emit o).regs = s.regs := rfl
@[simp] theorem emit_shadows (s : State) (o : Out) : (s.emit o).shadows = s.shadows := rfl
@[simp] theorem emit_latches (s : State) (o : Out) : (s.emit o).latches = s.latches := rfl
@[simp] theorem emit_intFn (s : State) (o : Out) : (s.emit o).intFn = s.intFn := rfl
@[simp] theorem emit_cen (s : State) (o : Out) : (s.emit o).cen = s.cen := rfl
@[simp] theorem emit_badRegs (s : State) (o : Out) : (s.emit o).badRegs = s.badRegs := rfl
@[simp] theorem emit_stuckRegs (s : State) (o : Out) : (s.emit o).stuckRegs = s.stuckRegs := rfl
@[simp] theorem emit_trngBad (s : State) (o : Out) : (s.emit o).trngBad = s.trngBad := rfl
@[simp] theorem emit_locked (s : State) (o : Out) : (s.emit o).locked = s.locked := rfl
@[simp] theorem emit_rings (s : State) (o : Out) : (s.emit o).rings = s.rings := rfl
@[simp] theorem emit_fn0 (s : State) (o : Out) : (s.emit o).fn0 = s.fn0 := rfl
@[simp] theorem emit_fn1 (s : State) (o : Out) : (s.emit o).fn1 = s.fn1 := rfl
@[simp] theorem emit_lease (s : State) (o : Out) : (s.emit o).lease = s.lease := rfl
@[simp] theorem emit_flight (s : State) (o : Out) : (s.emit o).flight = s.flight := rfl
@[simp] theorem emit_cqWait (s : State) (o : Out) : (s.emit o).cqWait = s.cqWait := rfl
@[simp] theorem emit_nextId (s : State) (o : Out) : (s.emit o).nextId = s.nextId := rfl
@[simp] theorem emit_seqs (s : State) (o : Out) : (s.emit o).seqs = s.seqs := rfl
@[simp] theorem emit_seqOwn (s : State) (o : Out) : (s.emit o).seqOwn = s.seqOwn := rfl
@[simp] theorem emit_pool (s : State) (o : Out) : (s.emit o).pool = s.pool := rfl
@[simp] theorem emit_poolMerged (s : State) (o : Out) : (s.emit o).poolMerged = s.poolMerged := rfl
@[simp] theorem emit_catalogue (s : State) (o : Out) : (s.emit o).catalogue = s.catalogue := rfl
@[simp] theorem emit_nodes (s : State) (o : Out) : (s.emit o).nodes = s.nodes := rfl
@[simp] theorem emit_eps (s : State) (o : Out) : (s.emit o).eps = s.eps := rfl
@[simp] theorem emit_segs (s : State) (o : Out) : (s.emit o).segs = s.segs := rfl
@[simp] theorem emit_links (s : State) (o : Out) : (s.emit o).links = s.links := rfl
@[simp] theorem emit_upHeld (s : State) (o : Out) : (s.emit o).upHeld = s.upHeld := rfl
@[simp] theorem emit_orphans (s : State) (o : Out) : (s.emit o).orphans = s.orphans := rfl
@[simp] theorem emit_shelves0 (s : State) (o : Out) : (s.emit o).shelves0 = s.shelves0 := rfl
@[simp] theorem emit_shelves1 (s : State) (o : Out) : (s.emit o).shelves1 = s.shelves1 := rfl
@[simp] theorem emit_later (s : State) (o : Out) : (s.emit o).later = s.later := rfl
@[simp] theorem emit_vacated (s : State) (o : Out) : (s.emit o).vacated = s.vacated := rfl
@[simp] theorem emit_rules (s : State) (o : Out) : (s.emit o).rules = s.rules := rfl
@[simp] theorem emit_branchRules (s : State) (o : Out) : (s.emit o).branchRules = s.branchRules := rfl
@[simp] theorem emit_ruleReqs (s : State) (o : Out) : (s.emit o).ruleReqs = s.ruleReqs := rfl
@[simp] theorem emit_deposits (s : State) (o : Out) : (s.emit o).deposits = s.deposits := rfl
@[simp] theorem emit_subs (s : State) (o : Out) : (s.emit o).subs = s.subs := rfl
@[simp] theorem emit_mirror (s : State) (o : Out) : (s.emit o).mirror = s.mirror := rfl
@[simp] theorem emit_evals (s : State) (o : Out) : (s.emit o).evals = s.evals := rfl
@[simp] theorem emit_slotEvals (s : State) (o : Out) : (s.emit o).slotEvals = s.slotEvals := rfl
@[simp] theorem emit_gustActs (s : State) (o : Out) : (s.emit o).gustActs = s.gustActs := rfl
@[simp] theorem emit_spws (s : State) (o : Out) : (s.emit o).spws = s.spws := rfl
@[simp] theorem emit_pw (s : State) (o : Out) : (s.emit o).pw = s.pw := rfl
@[simp] theorem emit_folio (s : State) (o : Out) : (s.emit o).folio = s.folio := rfl
@[simp] theorem emit_nvm (s : State) (o : Out) : (s.emit o).nvm = s.nvm := rfl
@[simp] theorem emit_port (s : State) (o : Out) : (s.emit o).port = s.port := rfl
@[simp] theorem emit_sram (s : State) (o : Out) : (s.emit o).sram = s.sram := rfl
@[simp] theorem emit_movesThisEpoch (s : State) (o : Out) : (s.emit o).movesThisEpoch = s.movesThisEpoch := rfl
@[simp] theorem emit_epochFrame (s : State) (o : Out) : (s.emit o).epochFrame = s.epochFrame := rfl
@[simp] theorem emit_freeCtr (s : State) (o : Out) : (s.emit o).freeCtr = s.freeCtr := rfl
@[simp] theorem emit_bootAt (s : State) (o : Out) : (s.emit o).bootAt = s.bootAt := rfl
@[simp] theorem emit_booted (s : State) (o : Out) : (s.emit o).booted = s.booted := rfl
@[simp] theorem emit_starting (s : State) (o : Out) : (s.emit o).starting = s.starting := rfl
@[simp] theorem emit_out (s : State) (o : Out) : (s.emit o).out = s.out ++ [o] := rfl
@[simp] theorem emit_pending (s : State) (o : Out) : (s.emit o).pending = s.pending := rfl

/-! ## atFrame -/

@[simp] theorem atFrame_fc (s : State) (l : Later) : (s.atFrame l).fc = s.fc := rfl
@[simp] theorem atFrame_tt (s : State) (l : Later) : (s.atFrame l).tt = s.tt := rfl
@[simp] theorem atFrame_readyAt (s : State) (l : Later) : (s.atFrame l).readyAt = s.readyAt := rfl
@[simp] theorem atFrame_role (s : State) (l : Later) : (s.atFrame l).role = s.role := rfl
@[simp] theorem atFrame_neverFramed (s : State) (l : Later) : (s.atFrame l).neverFramed = s.neverFramed := rfl
@[simp] theorem atFrame_hubNo (s : State) (l : Later) : (s.atFrame l).hubNo = s.hubNo := rfl
@[simp] theorem atFrame_regs (s : State) (l : Later) : (s.atFrame l).regs = s.regs := rfl
@[simp] theorem atFrame_shadows (s : State) (l : Later) : (s.atFrame l).shadows = s.shadows := rfl
@[simp] theorem atFrame_latches (s : State) (l : Later) : (s.atFrame l).latches = s.latches := rfl
@[simp] theorem atFrame_intFn (s : State) (l : Later) : (s.atFrame l).intFn = s.intFn := rfl
@[simp] theorem atFrame_cen (s : State) (l : Later) : (s.atFrame l).cen = s.cen := rfl
@[simp] theorem atFrame_badRegs (s : State) (l : Later) : (s.atFrame l).badRegs = s.badRegs := rfl
@[simp] theorem atFrame_stuckRegs (s : State) (l : Later) : (s.atFrame l).stuckRegs = s.stuckRegs := rfl
@[simp] theorem atFrame_trngBad (s : State) (l : Later) : (s.atFrame l).trngBad = s.trngBad := rfl
@[simp] theorem atFrame_locked (s : State) (l : Later) : (s.atFrame l).locked = s.locked := rfl
@[simp] theorem atFrame_rings (s : State) (l : Later) : (s.atFrame l).rings = s.rings := rfl
@[simp] theorem atFrame_fn0 (s : State) (l : Later) : (s.atFrame l).fn0 = s.fn0 := rfl
@[simp] theorem atFrame_fn1 (s : State) (l : Later) : (s.atFrame l).fn1 = s.fn1 := rfl
@[simp] theorem atFrame_lease (s : State) (l : Later) : (s.atFrame l).lease = s.lease := rfl
@[simp] theorem atFrame_flight (s : State) (l : Later) : (s.atFrame l).flight = s.flight := rfl
@[simp] theorem atFrame_cqWait (s : State) (l : Later) : (s.atFrame l).cqWait = s.cqWait := rfl
@[simp] theorem atFrame_nextId (s : State) (l : Later) : (s.atFrame l).nextId = s.nextId := rfl
@[simp] theorem atFrame_seqs (s : State) (l : Later) : (s.atFrame l).seqs = s.seqs := rfl
@[simp] theorem atFrame_seqOwn (s : State) (l : Later) : (s.atFrame l).seqOwn = s.seqOwn := rfl
@[simp] theorem atFrame_pool (s : State) (l : Later) : (s.atFrame l).pool = s.pool := rfl
@[simp] theorem atFrame_poolMerged (s : State) (l : Later) : (s.atFrame l).poolMerged = s.poolMerged := rfl
@[simp] theorem atFrame_catalogue (s : State) (l : Later) : (s.atFrame l).catalogue = s.catalogue := rfl
@[simp] theorem atFrame_nodes (s : State) (l : Later) : (s.atFrame l).nodes = s.nodes := rfl
@[simp] theorem atFrame_eps (s : State) (l : Later) : (s.atFrame l).eps = s.eps := rfl
@[simp] theorem atFrame_segs (s : State) (l : Later) : (s.atFrame l).segs = s.segs := rfl
@[simp] theorem atFrame_links (s : State) (l : Later) : (s.atFrame l).links = s.links := rfl
@[simp] theorem atFrame_upHeld (s : State) (l : Later) : (s.atFrame l).upHeld = s.upHeld := rfl
@[simp] theorem atFrame_orphans (s : State) (l : Later) : (s.atFrame l).orphans = s.orphans := rfl
@[simp] theorem atFrame_shelves0 (s : State) (l : Later) : (s.atFrame l).shelves0 = s.shelves0 := rfl
@[simp] theorem atFrame_shelves1 (s : State) (l : Later) : (s.atFrame l).shelves1 = s.shelves1 := rfl
@[simp] theorem atFrame_later (s : State) (l : Later) : (s.atFrame l).later = s.later ++ [l] := rfl
@[simp] theorem atFrame_vacated (s : State) (l : Later) : (s.atFrame l).vacated = s.vacated := rfl
@[simp] theorem atFrame_rules (s : State) (l : Later) : (s.atFrame l).rules = s.rules := rfl
@[simp] theorem atFrame_branchRules (s : State) (l : Later) : (s.atFrame l).branchRules = s.branchRules := rfl
@[simp] theorem atFrame_ruleReqs (s : State) (l : Later) : (s.atFrame l).ruleReqs = s.ruleReqs := rfl
@[simp] theorem atFrame_deposits (s : State) (l : Later) : (s.atFrame l).deposits = s.deposits := rfl
@[simp] theorem atFrame_subs (s : State) (l : Later) : (s.atFrame l).subs = s.subs := rfl
@[simp] theorem atFrame_mirror (s : State) (l : Later) : (s.atFrame l).mirror = s.mirror := rfl
@[simp] theorem atFrame_evals (s : State) (l : Later) : (s.atFrame l).evals = s.evals := rfl
@[simp] theorem atFrame_slotEvals (s : State) (l : Later) : (s.atFrame l).slotEvals = s.slotEvals := rfl
@[simp] theorem atFrame_gustActs (s : State) (l : Later) : (s.atFrame l).gustActs = s.gustActs := rfl
@[simp] theorem atFrame_spws (s : State) (l : Later) : (s.atFrame l).spws = s.spws := rfl
@[simp] theorem atFrame_pw (s : State) (l : Later) : (s.atFrame l).pw = s.pw := rfl
@[simp] theorem atFrame_folio (s : State) (l : Later) : (s.atFrame l).folio = s.folio := rfl
@[simp] theorem atFrame_nvm (s : State) (l : Later) : (s.atFrame l).nvm = s.nvm := rfl
@[simp] theorem atFrame_port (s : State) (l : Later) : (s.atFrame l).port = s.port := rfl
@[simp] theorem atFrame_sram (s : State) (l : Later) : (s.atFrame l).sram = s.sram := rfl
@[simp] theorem atFrame_movesThisEpoch (s : State) (l : Later) : (s.atFrame l).movesThisEpoch = s.movesThisEpoch := rfl
@[simp] theorem atFrame_epochFrame (s : State) (l : Later) : (s.atFrame l).epochFrame = s.epochFrame := rfl
@[simp] theorem atFrame_freeCtr (s : State) (l : Later) : (s.atFrame l).freeCtr = s.freeCtr := rfl
@[simp] theorem atFrame_bootAt (s : State) (l : Later) : (s.atFrame l).bootAt = s.bootAt := rfl
@[simp] theorem atFrame_booted (s : State) (l : Later) : (s.atFrame l).booted = s.booted := rfl
@[simp] theorem atFrame_starting (s : State) (l : Later) : (s.atFrame l).starting = s.starting := rfl
@[simp] theorem atFrame_out (s : State) (l : Later) : (s.atFrame l).out = s.out := rfl
@[simp] theorem atFrame_pending (s : State) (l : Later) : (s.atFrame l).pending = s.pending := rfl

/-! ## setFn -/

@[simp] theorem setFn_fc (s : State) (f : Fn) (x : FnState) : (s.setFn f x).fc = s.fc := by cases f <;> rfl
@[simp] theorem setFn_tt (s : State) (f : Fn) (x : FnState) : (s.setFn f x).tt = s.tt := by cases f <;> rfl
@[simp] theorem setFn_readyAt (s : State) (f : Fn) (x : FnState) : (s.setFn f x).readyAt = s.readyAt := by cases f <;> rfl
@[simp] theorem setFn_role (s : State) (f : Fn) (x : FnState) : (s.setFn f x).role = s.role := by cases f <;> rfl
@[simp] theorem setFn_neverFramed (s : State) (f : Fn) (x : FnState) : (s.setFn f x).neverFramed = s.neverFramed := by cases f <;> rfl
@[simp] theorem setFn_hubNo (s : State) (f : Fn) (x : FnState) : (s.setFn f x).hubNo = s.hubNo := by cases f <;> rfl
@[simp] theorem setFn_regs (s : State) (f : Fn) (x : FnState) : (s.setFn f x).regs = s.regs := by cases f <;> rfl
@[simp] theorem setFn_shadows (s : State) (f : Fn) (x : FnState) : (s.setFn f x).shadows = s.shadows := by cases f <;> rfl
@[simp] theorem setFn_latches (s : State) (f : Fn) (x : FnState) : (s.setFn f x).latches = s.latches := by cases f <;> rfl
@[simp] theorem setFn_intFn (s : State) (f : Fn) (x : FnState) : (s.setFn f x).intFn = s.intFn := by cases f <;> rfl
@[simp] theorem setFn_cen (s : State) (f : Fn) (x : FnState) : (s.setFn f x).cen = s.cen := by cases f <;> rfl
@[simp] theorem setFn_badRegs (s : State) (f : Fn) (x : FnState) : (s.setFn f x).badRegs = s.badRegs := by cases f <;> rfl
@[simp] theorem setFn_stuckRegs (s : State) (f : Fn) (x : FnState) : (s.setFn f x).stuckRegs = s.stuckRegs := by cases f <;> rfl
@[simp] theorem setFn_trngBad (s : State) (f : Fn) (x : FnState) : (s.setFn f x).trngBad = s.trngBad := by cases f <;> rfl
@[simp] theorem setFn_locked (s : State) (f : Fn) (x : FnState) : (s.setFn f x).locked = s.locked := by cases f <;> rfl
@[simp] theorem setFn_rings (s : State) (f : Fn) (x : FnState) : (s.setFn f x).rings = s.rings := by cases f <;> rfl
@[simp] theorem setFn_lease (s : State) (f : Fn) (x : FnState) : (s.setFn f x).lease = s.lease := by cases f <;> rfl
@[simp] theorem setFn_flight (s : State) (f : Fn) (x : FnState) : (s.setFn f x).flight = s.flight := by cases f <;> rfl
@[simp] theorem setFn_cqWait (s : State) (f : Fn) (x : FnState) : (s.setFn f x).cqWait = s.cqWait := by cases f <;> rfl
@[simp] theorem setFn_nextId (s : State) (f : Fn) (x : FnState) : (s.setFn f x).nextId = s.nextId := by cases f <;> rfl
@[simp] theorem setFn_seqs (s : State) (f : Fn) (x : FnState) : (s.setFn f x).seqs = s.seqs := by cases f <;> rfl
@[simp] theorem setFn_seqOwn (s : State) (f : Fn) (x : FnState) : (s.setFn f x).seqOwn = s.seqOwn := by cases f <;> rfl
@[simp] theorem setFn_pool (s : State) (f : Fn) (x : FnState) : (s.setFn f x).pool = s.pool := by cases f <;> rfl
@[simp] theorem setFn_poolMerged (s : State) (f : Fn) (x : FnState) : (s.setFn f x).poolMerged = s.poolMerged := by cases f <;> rfl
@[simp] theorem setFn_catalogue (s : State) (f : Fn) (x : FnState) : (s.setFn f x).catalogue = s.catalogue := by cases f <;> rfl
@[simp] theorem setFn_nodes (s : State) (f : Fn) (x : FnState) : (s.setFn f x).nodes = s.nodes := by cases f <;> rfl
@[simp] theorem setFn_eps (s : State) (f : Fn) (x : FnState) : (s.setFn f x).eps = s.eps := by cases f <;> rfl
@[simp] theorem setFn_segs (s : State) (f : Fn) (x : FnState) : (s.setFn f x).segs = s.segs := by cases f <;> rfl
@[simp] theorem setFn_links (s : State) (f : Fn) (x : FnState) : (s.setFn f x).links = s.links := by cases f <;> rfl
@[simp] theorem setFn_upHeld (s : State) (f : Fn) (x : FnState) : (s.setFn f x).upHeld = s.upHeld := by cases f <;> rfl
@[simp] theorem setFn_orphans (s : State) (f : Fn) (x : FnState) : (s.setFn f x).orphans = s.orphans := by cases f <;> rfl
@[simp] theorem setFn_shelves0 (s : State) (f : Fn) (x : FnState) : (s.setFn f x).shelves0 = s.shelves0 := by cases f <;> rfl
@[simp] theorem setFn_shelves1 (s : State) (f : Fn) (x : FnState) : (s.setFn f x).shelves1 = s.shelves1 := by cases f <;> rfl
@[simp] theorem setFn_later (s : State) (f : Fn) (x : FnState) : (s.setFn f x).later = s.later := by cases f <;> rfl
@[simp] theorem setFn_vacated (s : State) (f : Fn) (x : FnState) : (s.setFn f x).vacated = s.vacated := by cases f <;> rfl
@[simp] theorem setFn_rules (s : State) (f : Fn) (x : FnState) : (s.setFn f x).rules = s.rules := by cases f <;> rfl
@[simp] theorem setFn_branchRules (s : State) (f : Fn) (x : FnState) : (s.setFn f x).branchRules = s.branchRules := by cases f <;> rfl
@[simp] theorem setFn_ruleReqs (s : State) (f : Fn) (x : FnState) : (s.setFn f x).ruleReqs = s.ruleReqs := by cases f <;> rfl
@[simp] theorem setFn_deposits (s : State) (f : Fn) (x : FnState) : (s.setFn f x).deposits = s.deposits := by cases f <;> rfl
@[simp] theorem setFn_subs (s : State) (f : Fn) (x : FnState) : (s.setFn f x).subs = s.subs := by cases f <;> rfl
@[simp] theorem setFn_mirror (s : State) (f : Fn) (x : FnState) : (s.setFn f x).mirror = s.mirror := by cases f <;> rfl
@[simp] theorem setFn_evals (s : State) (f : Fn) (x : FnState) : (s.setFn f x).evals = s.evals := by cases f <;> rfl
@[simp] theorem setFn_slotEvals (s : State) (f : Fn) (x : FnState) : (s.setFn f x).slotEvals = s.slotEvals := by cases f <;> rfl
@[simp] theorem setFn_gustActs (s : State) (f : Fn) (x : FnState) : (s.setFn f x).gustActs = s.gustActs := by cases f <;> rfl
@[simp] theorem setFn_spws (s : State) (f : Fn) (x : FnState) : (s.setFn f x).spws = s.spws := by cases f <;> rfl
@[simp] theorem setFn_pw (s : State) (f : Fn) (x : FnState) : (s.setFn f x).pw = s.pw := by cases f <;> rfl
@[simp] theorem setFn_folio (s : State) (f : Fn) (x : FnState) : (s.setFn f x).folio = s.folio := by cases f <;> rfl
@[simp] theorem setFn_nvm (s : State) (f : Fn) (x : FnState) : (s.setFn f x).nvm = s.nvm := by cases f <;> rfl
@[simp] theorem setFn_port (s : State) (f : Fn) (x : FnState) : (s.setFn f x).port = s.port := by cases f <;> rfl
@[simp] theorem setFn_sram (s : State) (f : Fn) (x : FnState) : (s.setFn f x).sram = s.sram := by cases f <;> rfl
@[simp] theorem setFn_movesThisEpoch (s : State) (f : Fn) (x : FnState) : (s.setFn f x).movesThisEpoch = s.movesThisEpoch := by cases f <;> rfl
@[simp] theorem setFn_epochFrame (s : State) (f : Fn) (x : FnState) : (s.setFn f x).epochFrame = s.epochFrame := by cases f <;> rfl
@[simp] theorem setFn_freeCtr (s : State) (f : Fn) (x : FnState) : (s.setFn f x).freeCtr = s.freeCtr := by cases f <;> rfl
@[simp] theorem setFn_bootAt (s : State) (f : Fn) (x : FnState) : (s.setFn f x).bootAt = s.bootAt := by cases f <;> rfl
@[simp] theorem setFn_booted (s : State) (f : Fn) (x : FnState) : (s.setFn f x).booted = s.booted := by cases f <;> rfl
@[simp] theorem setFn_starting (s : State) (f : Fn) (x : FnState) : (s.setFn f x).starting = s.starting := by cases f <;> rfl
@[simp] theorem setFn_out (s : State) (f : Fn) (x : FnState) : (s.setFn f x).out = s.out := by cases f <;> rfl
@[simp] theorem setFn_pending (s : State) (f : Fn) (x : FnState) : (s.setFn f x).pending = s.pending := by cases f <;> rfl

/-! ## setShelves -/

@[simp] theorem setShelves_fc (s : State) (f : Fn) (x : Table Shelf) : (s.setShelves f x).fc = s.fc := by cases f <;> rfl
@[simp] theorem setShelves_tt (s : State) (f : Fn) (x : Table Shelf) : (s.setShelves f x).tt = s.tt := by cases f <;> rfl
@[simp] theorem setShelves_readyAt (s : State) (f : Fn) (x : Table Shelf) : (s.setShelves f x).readyAt = s.readyAt := by cases f <;> rfl
@[simp] theorem setShelves_role (s : State) (f : Fn) (x : Table Shelf) : (s.setShelves f x).role = s.role := by cases f <;> rfl
@[simp] theorem setShelves_neverFramed (s : State) (f : Fn) (x : Table Shelf) : (s.setShelves f x).neverFramed = s.neverFramed := by cases f <;> rfl
@[simp] theorem setShelves_hubNo (s : State) (f : Fn) (x : Table Shelf) : (s.setShelves f x).hubNo = s.hubNo := by cases f <;> rfl
@[simp] theorem setShelves_regs (s : State) (f : Fn) (x : Table Shelf) : (s.setShelves f x).regs = s.regs := by cases f <;> rfl
@[simp] theorem setShelves_shadows (s : State) (f : Fn) (x : Table Shelf) : (s.setShelves f x).shadows = s.shadows := by cases f <;> rfl
@[simp] theorem setShelves_latches (s : State) (f : Fn) (x : Table Shelf) : (s.setShelves f x).latches = s.latches := by cases f <;> rfl
@[simp] theorem setShelves_intFn (s : State) (f : Fn) (x : Table Shelf) : (s.setShelves f x).intFn = s.intFn := by cases f <;> rfl
@[simp] theorem setShelves_cen (s : State) (f : Fn) (x : Table Shelf) : (s.setShelves f x).cen = s.cen := by cases f <;> rfl
@[simp] theorem setShelves_badRegs (s : State) (f : Fn) (x : Table Shelf) : (s.setShelves f x).badRegs = s.badRegs := by cases f <;> rfl
@[simp] theorem setShelves_stuckRegs (s : State) (f : Fn) (x : Table Shelf) : (s.setShelves f x).stuckRegs = s.stuckRegs := by cases f <;> rfl
@[simp] theorem setShelves_trngBad (s : State) (f : Fn) (x : Table Shelf) : (s.setShelves f x).trngBad = s.trngBad := by cases f <;> rfl
@[simp] theorem setShelves_locked (s : State) (f : Fn) (x : Table Shelf) : (s.setShelves f x).locked = s.locked := by cases f <;> rfl
@[simp] theorem setShelves_rings (s : State) (f : Fn) (x : Table Shelf) : (s.setShelves f x).rings = s.rings := by cases f <;> rfl
@[simp] theorem setShelves_fn0 (s : State) (f : Fn) (x : Table Shelf) : (s.setShelves f x).fn0 = s.fn0 := by cases f <;> rfl
@[simp] theorem setShelves_fn1 (s : State) (f : Fn) (x : Table Shelf) : (s.setShelves f x).fn1 = s.fn1 := by cases f <;> rfl
@[simp] theorem setShelves_lease (s : State) (f : Fn) (x : Table Shelf) : (s.setShelves f x).lease = s.lease := by cases f <;> rfl
@[simp] theorem setShelves_flight (s : State) (f : Fn) (x : Table Shelf) : (s.setShelves f x).flight = s.flight := by cases f <;> rfl
@[simp] theorem setShelves_cqWait (s : State) (f : Fn) (x : Table Shelf) : (s.setShelves f x).cqWait = s.cqWait := by cases f <;> rfl
@[simp] theorem setShelves_nextId (s : State) (f : Fn) (x : Table Shelf) : (s.setShelves f x).nextId = s.nextId := by cases f <;> rfl
@[simp] theorem setShelves_seqs (s : State) (f : Fn) (x : Table Shelf) : (s.setShelves f x).seqs = s.seqs := by cases f <;> rfl
@[simp] theorem setShelves_seqOwn (s : State) (f : Fn) (x : Table Shelf) : (s.setShelves f x).seqOwn = s.seqOwn := by cases f <;> rfl
@[simp] theorem setShelves_pool (s : State) (f : Fn) (x : Table Shelf) : (s.setShelves f x).pool = s.pool := by cases f <;> rfl
@[simp] theorem setShelves_poolMerged (s : State) (f : Fn) (x : Table Shelf) : (s.setShelves f x).poolMerged = s.poolMerged := by cases f <;> rfl
@[simp] theorem setShelves_catalogue (s : State) (f : Fn) (x : Table Shelf) : (s.setShelves f x).catalogue = s.catalogue := by cases f <;> rfl
@[simp] theorem setShelves_nodes (s : State) (f : Fn) (x : Table Shelf) : (s.setShelves f x).nodes = s.nodes := by cases f <;> rfl
@[simp] theorem setShelves_eps (s : State) (f : Fn) (x : Table Shelf) : (s.setShelves f x).eps = s.eps := by cases f <;> rfl
@[simp] theorem setShelves_segs (s : State) (f : Fn) (x : Table Shelf) : (s.setShelves f x).segs = s.segs := by cases f <;> rfl
@[simp] theorem setShelves_links (s : State) (f : Fn) (x : Table Shelf) : (s.setShelves f x).links = s.links := by cases f <;> rfl
@[simp] theorem setShelves_upHeld (s : State) (f : Fn) (x : Table Shelf) : (s.setShelves f x).upHeld = s.upHeld := by cases f <;> rfl
@[simp] theorem setShelves_orphans (s : State) (f : Fn) (x : Table Shelf) : (s.setShelves f x).orphans = s.orphans := by cases f <;> rfl
@[simp] theorem setShelves_later (s : State) (f : Fn) (x : Table Shelf) : (s.setShelves f x).later = s.later := by cases f <;> rfl
@[simp] theorem setShelves_vacated (s : State) (f : Fn) (x : Table Shelf) : (s.setShelves f x).vacated = s.vacated := by cases f <;> rfl
@[simp] theorem setShelves_rules (s : State) (f : Fn) (x : Table Shelf) : (s.setShelves f x).rules = s.rules := by cases f <;> rfl
@[simp] theorem setShelves_branchRules (s : State) (f : Fn) (x : Table Shelf) : (s.setShelves f x).branchRules = s.branchRules := by cases f <;> rfl
@[simp] theorem setShelves_ruleReqs (s : State) (f : Fn) (x : Table Shelf) : (s.setShelves f x).ruleReqs = s.ruleReqs := by cases f <;> rfl
@[simp] theorem setShelves_deposits (s : State) (f : Fn) (x : Table Shelf) : (s.setShelves f x).deposits = s.deposits := by cases f <;> rfl
@[simp] theorem setShelves_subs (s : State) (f : Fn) (x : Table Shelf) : (s.setShelves f x).subs = s.subs := by cases f <;> rfl
@[simp] theorem setShelves_mirror (s : State) (f : Fn) (x : Table Shelf) : (s.setShelves f x).mirror = s.mirror := by cases f <;> rfl
@[simp] theorem setShelves_evals (s : State) (f : Fn) (x : Table Shelf) : (s.setShelves f x).evals = s.evals := by cases f <;> rfl
@[simp] theorem setShelves_slotEvals (s : State) (f : Fn) (x : Table Shelf) : (s.setShelves f x).slotEvals = s.slotEvals := by cases f <;> rfl
@[simp] theorem setShelves_gustActs (s : State) (f : Fn) (x : Table Shelf) : (s.setShelves f x).gustActs = s.gustActs := by cases f <;> rfl
@[simp] theorem setShelves_spws (s : State) (f : Fn) (x : Table Shelf) : (s.setShelves f x).spws = s.spws := by cases f <;> rfl
@[simp] theorem setShelves_pw (s : State) (f : Fn) (x : Table Shelf) : (s.setShelves f x).pw = s.pw := by cases f <;> rfl
@[simp] theorem setShelves_folio (s : State) (f : Fn) (x : Table Shelf) : (s.setShelves f x).folio = s.folio := by cases f <;> rfl
@[simp] theorem setShelves_nvm (s : State) (f : Fn) (x : Table Shelf) : (s.setShelves f x).nvm = s.nvm := by cases f <;> rfl
@[simp] theorem setShelves_port (s : State) (f : Fn) (x : Table Shelf) : (s.setShelves f x).port = s.port := by cases f <;> rfl
@[simp] theorem setShelves_sram (s : State) (f : Fn) (x : Table Shelf) : (s.setShelves f x).sram = s.sram := by cases f <;> rfl
@[simp] theorem setShelves_movesThisEpoch (s : State) (f : Fn) (x : Table Shelf) : (s.setShelves f x).movesThisEpoch = s.movesThisEpoch := by cases f <;> rfl
@[simp] theorem setShelves_epochFrame (s : State) (f : Fn) (x : Table Shelf) : (s.setShelves f x).epochFrame = s.epochFrame := by cases f <;> rfl
@[simp] theorem setShelves_freeCtr (s : State) (f : Fn) (x : Table Shelf) : (s.setShelves f x).freeCtr = s.freeCtr := by cases f <;> rfl
@[simp] theorem setShelves_bootAt (s : State) (f : Fn) (x : Table Shelf) : (s.setShelves f x).bootAt = s.bootAt := by cases f <;> rfl
@[simp] theorem setShelves_booted (s : State) (f : Fn) (x : Table Shelf) : (s.setShelves f x).booted = s.booted := by cases f <;> rfl
@[simp] theorem setShelves_starting (s : State) (f : Fn) (x : Table Shelf) : (s.setShelves f x).starting = s.starting := by cases f <;> rfl
@[simp] theorem setShelves_out (s : State) (f : Fn) (x : Table Shelf) : (s.setShelves f x).out = s.out := by cases f <;> rfl
@[simp] theorem setShelves_pending (s : State) (f : Fn) (x : Table Shelf) : (s.setShelves f x).pending = s.pending := by cases f <;> rfl

/-! ## glb -/

@[simp] theorem glb_fc (s : State) (k n : Nat) : (s.glb k n).fc = s.fc := rfl
@[simp] theorem glb_tt (s : State) (k n : Nat) : (s.glb k n).tt = s.tt := rfl
@[simp] theorem glb_readyAt (s : State) (k n : Nat) : (s.glb k n).readyAt = s.readyAt := rfl
@[simp] theorem glb_role (s : State) (k n : Nat) : (s.glb k n).role = s.role := rfl
@[simp] theorem glb_neverFramed (s : State) (k n : Nat) : (s.glb k n).neverFramed = s.neverFramed := rfl
@[simp] theorem glb_hubNo (s : State) (k n : Nat) : (s.glb k n).hubNo = s.hubNo := rfl
@[simp] theorem glb_shadows (s : State) (k n : Nat) : (s.glb k n).shadows = s.shadows := rfl
@[simp] theorem glb_latches (s : State) (k n : Nat) : (s.glb k n).latches = s.latches := rfl
@[simp] theorem glb_intFn (s : State) (k n : Nat) : (s.glb k n).intFn = s.intFn := rfl
@[simp] theorem glb_cen (s : State) (k n : Nat) : (s.glb k n).cen = s.cen := rfl
@[simp] theorem glb_badRegs (s : State) (k n : Nat) : (s.glb k n).badRegs = s.badRegs := rfl
@[simp] theorem glb_stuckRegs (s : State) (k n : Nat) : (s.glb k n).stuckRegs = s.stuckRegs := rfl
@[simp] theorem glb_trngBad (s : State) (k n : Nat) : (s.glb k n).trngBad = s.trngBad := rfl
@[simp] theorem glb_locked (s : State) (k n : Nat) : (s.glb k n).locked = s.locked := rfl
@[simp] theorem glb_rings (s : State) (k n : Nat) : (s.glb k n).rings = s.rings := rfl
@[simp] theorem glb_fn0 (s : State) (k n : Nat) : (s.glb k n).fn0 = s.fn0 := rfl
@[simp] theorem glb_fn1 (s : State) (k n : Nat) : (s.glb k n).fn1 = s.fn1 := rfl
@[simp] theorem glb_lease (s : State) (k n : Nat) : (s.glb k n).lease = s.lease := rfl
@[simp] theorem glb_flight (s : State) (k n : Nat) : (s.glb k n).flight = s.flight := rfl
@[simp] theorem glb_cqWait (s : State) (k n : Nat) : (s.glb k n).cqWait = s.cqWait := rfl
@[simp] theorem glb_nextId (s : State) (k n : Nat) : (s.glb k n).nextId = s.nextId := rfl
@[simp] theorem glb_seqs (s : State) (k n : Nat) : (s.glb k n).seqs = s.seqs := rfl
@[simp] theorem glb_seqOwn (s : State) (k n : Nat) : (s.glb k n).seqOwn = s.seqOwn := rfl
@[simp] theorem glb_pool (s : State) (k n : Nat) : (s.glb k n).pool = s.pool := rfl
@[simp] theorem glb_poolMerged (s : State) (k n : Nat) : (s.glb k n).poolMerged = s.poolMerged := rfl
@[simp] theorem glb_catalogue (s : State) (k n : Nat) : (s.glb k n).catalogue = s.catalogue := rfl
@[simp] theorem glb_nodes (s : State) (k n : Nat) : (s.glb k n).nodes = s.nodes := rfl
@[simp] theorem glb_eps (s : State) (k n : Nat) : (s.glb k n).eps = s.eps := rfl
@[simp] theorem glb_segs (s : State) (k n : Nat) : (s.glb k n).segs = s.segs := rfl
@[simp] theorem glb_links (s : State) (k n : Nat) : (s.glb k n).links = s.links := rfl
@[simp] theorem glb_upHeld (s : State) (k n : Nat) : (s.glb k n).upHeld = s.upHeld := rfl
@[simp] theorem glb_orphans (s : State) (k n : Nat) : (s.glb k n).orphans = s.orphans := rfl
@[simp] theorem glb_shelves0 (s : State) (k n : Nat) : (s.glb k n).shelves0 = s.shelves0 := rfl
@[simp] theorem glb_shelves1 (s : State) (k n : Nat) : (s.glb k n).shelves1 = s.shelves1 := rfl
@[simp] theorem glb_later (s : State) (k n : Nat) : (s.glb k n).later = s.later := rfl
@[simp] theorem glb_vacated (s : State) (k n : Nat) : (s.glb k n).vacated = s.vacated := rfl
@[simp] theorem glb_rules (s : State) (k n : Nat) : (s.glb k n).rules = s.rules := rfl
@[simp] theorem glb_branchRules (s : State) (k n : Nat) : (s.glb k n).branchRules = s.branchRules := rfl
@[simp] theorem glb_ruleReqs (s : State) (k n : Nat) : (s.glb k n).ruleReqs = s.ruleReqs := rfl
@[simp] theorem glb_deposits (s : State) (k n : Nat) : (s.glb k n).deposits = s.deposits := rfl
@[simp] theorem glb_subs (s : State) (k n : Nat) : (s.glb k n).subs = s.subs := rfl
@[simp] theorem glb_mirror (s : State) (k n : Nat) : (s.glb k n).mirror = s.mirror := rfl
@[simp] theorem glb_evals (s : State) (k n : Nat) : (s.glb k n).evals = s.evals := rfl
@[simp] theorem glb_slotEvals (s : State) (k n : Nat) : (s.glb k n).slotEvals = s.slotEvals := rfl
@[simp] theorem glb_gustActs (s : State) (k n : Nat) : (s.glb k n).gustActs = s.gustActs := rfl
@[simp] theorem glb_spws (s : State) (k n : Nat) : (s.glb k n).spws = s.spws := rfl
@[simp] theorem glb_pw (s : State) (k n : Nat) : (s.glb k n).pw = s.pw := rfl
@[simp] theorem glb_folio (s : State) (k n : Nat) : (s.glb k n).folio = s.folio := rfl
@[simp] theorem glb_nvm (s : State) (k n : Nat) : (s.glb k n).nvm = s.nvm := rfl
@[simp] theorem glb_port (s : State) (k n : Nat) : (s.glb k n).port = s.port := rfl
@[simp] theorem glb_sram (s : State) (k n : Nat) : (s.glb k n).sram = s.sram := rfl
@[simp] theorem glb_movesThisEpoch (s : State) (k n : Nat) : (s.glb k n).movesThisEpoch = s.movesThisEpoch := rfl
@[simp] theorem glb_epochFrame (s : State) (k n : Nat) : (s.glb k n).epochFrame = s.epochFrame := rfl
@[simp] theorem glb_freeCtr (s : State) (k n : Nat) : (s.glb k n).freeCtr = s.freeCtr := rfl
@[simp] theorem glb_bootAt (s : State) (k n : Nat) : (s.glb k n).bootAt = s.bootAt := rfl
@[simp] theorem glb_booted (s : State) (k n : Nat) : (s.glb k n).booted = s.booted := rfl
@[simp] theorem glb_starting (s : State) (k n : Nat) : (s.glb k n).starting = s.starting := rfl
@[simp] theorem glb_out (s : State) (k n : Nat) : (s.glb k n).out = s.out := rfl
@[simp] theorem glb_pending (s : State) (k n : Nat) : (s.glb k n).pending = s.pending := rfl

/-! ## clamped -/

@[simp] theorem clamped_fc (s : State) : (s.clamped).fc = s.fc := rfl
@[simp] theorem clamped_tt (s : State) : (s.clamped).tt = s.tt := rfl
@[simp] theorem clamped_readyAt (s : State) : (s.clamped).readyAt = s.readyAt := rfl
@[simp] theorem clamped_role (s : State) : (s.clamped).role = s.role := rfl
@[simp] theorem clamped_neverFramed (s : State) : (s.clamped).neverFramed = s.neverFramed := rfl
@[simp] theorem clamped_hubNo (s : State) : (s.clamped).hubNo = s.hubNo := rfl
@[simp] theorem clamped_shadows (s : State) : (s.clamped).shadows = s.shadows := rfl
@[simp] theorem clamped_latches (s : State) : (s.clamped).latches = s.latches := rfl
@[simp] theorem clamped_intFn (s : State) : (s.clamped).intFn = s.intFn := rfl
@[simp] theorem clamped_cen (s : State) : (s.clamped).cen = s.cen := rfl
@[simp] theorem clamped_badRegs (s : State) : (s.clamped).badRegs = s.badRegs := rfl
@[simp] theorem clamped_stuckRegs (s : State) : (s.clamped).stuckRegs = s.stuckRegs := rfl
@[simp] theorem clamped_trngBad (s : State) : (s.clamped).trngBad = s.trngBad := rfl
@[simp] theorem clamped_locked (s : State) : (s.clamped).locked = s.locked := rfl
@[simp] theorem clamped_rings (s : State) : (s.clamped).rings = s.rings := rfl
@[simp] theorem clamped_fn0 (s : State) : (s.clamped).fn0 = s.fn0 := rfl
@[simp] theorem clamped_fn1 (s : State) : (s.clamped).fn1 = s.fn1 := rfl
@[simp] theorem clamped_lease (s : State) : (s.clamped).lease = s.lease := rfl
@[simp] theorem clamped_flight (s : State) : (s.clamped).flight = s.flight := rfl
@[simp] theorem clamped_cqWait (s : State) : (s.clamped).cqWait = s.cqWait := rfl
@[simp] theorem clamped_nextId (s : State) : (s.clamped).nextId = s.nextId := rfl
@[simp] theorem clamped_seqs (s : State) : (s.clamped).seqs = s.seqs := rfl
@[simp] theorem clamped_seqOwn (s : State) : (s.clamped).seqOwn = s.seqOwn := rfl
@[simp] theorem clamped_pool (s : State) : (s.clamped).pool = s.pool := rfl
@[simp] theorem clamped_poolMerged (s : State) : (s.clamped).poolMerged = s.poolMerged := rfl
@[simp] theorem clamped_catalogue (s : State) : (s.clamped).catalogue = s.catalogue := rfl
@[simp] theorem clamped_nodes (s : State) : (s.clamped).nodes = s.nodes := rfl
@[simp] theorem clamped_eps (s : State) : (s.clamped).eps = s.eps := rfl
@[simp] theorem clamped_segs (s : State) : (s.clamped).segs = s.segs := rfl
@[simp] theorem clamped_links (s : State) : (s.clamped).links = s.links := rfl
@[simp] theorem clamped_upHeld (s : State) : (s.clamped).upHeld = s.upHeld := rfl
@[simp] theorem clamped_orphans (s : State) : (s.clamped).orphans = s.orphans := rfl
@[simp] theorem clamped_shelves0 (s : State) : (s.clamped).shelves0 = s.shelves0 := rfl
@[simp] theorem clamped_shelves1 (s : State) : (s.clamped).shelves1 = s.shelves1 := rfl
@[simp] theorem clamped_later (s : State) : (s.clamped).later = s.later := rfl
@[simp] theorem clamped_vacated (s : State) : (s.clamped).vacated = s.vacated := rfl
@[simp] theorem clamped_rules (s : State) : (s.clamped).rules = s.rules := rfl
@[simp] theorem clamped_branchRules (s : State) : (s.clamped).branchRules = s.branchRules := rfl
@[simp] theorem clamped_ruleReqs (s : State) : (s.clamped).ruleReqs = s.ruleReqs := rfl
@[simp] theorem clamped_deposits (s : State) : (s.clamped).deposits = s.deposits := rfl
@[simp] theorem clamped_subs (s : State) : (s.clamped).subs = s.subs := rfl
@[simp] theorem clamped_mirror (s : State) : (s.clamped).mirror = s.mirror := rfl
@[simp] theorem clamped_evals (s : State) : (s.clamped).evals = s.evals := rfl
@[simp] theorem clamped_slotEvals (s : State) : (s.clamped).slotEvals = s.slotEvals := rfl
@[simp] theorem clamped_gustActs (s : State) : (s.clamped).gustActs = s.gustActs := rfl
@[simp] theorem clamped_spws (s : State) : (s.clamped).spws = s.spws := rfl
@[simp] theorem clamped_pw (s : State) : (s.clamped).pw = s.pw := rfl
@[simp] theorem clamped_folio (s : State) : (s.clamped).folio = s.folio := rfl
@[simp] theorem clamped_nvm (s : State) : (s.clamped).nvm = s.nvm := rfl
@[simp] theorem clamped_port (s : State) : (s.clamped).port = s.port := rfl
@[simp] theorem clamped_sram (s : State) : (s.clamped).sram = s.sram := rfl
@[simp] theorem clamped_movesThisEpoch (s : State) : (s.clamped).movesThisEpoch = s.movesThisEpoch := rfl
@[simp] theorem clamped_epochFrame (s : State) : (s.clamped).epochFrame = s.epochFrame := rfl
@[simp] theorem clamped_freeCtr (s : State) : (s.clamped).freeCtr = s.freeCtr := rfl
@[simp] theorem clamped_bootAt (s : State) : (s.clamped).bootAt = s.bootAt := rfl
@[simp] theorem clamped_booted (s : State) : (s.clamped).booted = s.booted := rfl
@[simp] theorem clamped_starting (s : State) : (s.clamped).starting = s.starting := rfl
@[simp] theorem clamped_out (s : State) : (s.clamped).out = s.out := rfl
@[simp] theorem clamped_pending (s : State) : (s.clamped).pending = s.pending := rfl

/-! ## clampIf -/

@[simp] theorem clampIf_fc (s : State) (b : Bool) : (s.clampIf b).fc = s.fc := by cases b <;> rfl
@[simp] theorem clampIf_tt (s : State) (b : Bool) : (s.clampIf b).tt = s.tt := by cases b <;> rfl
@[simp] theorem clampIf_readyAt (s : State) (b : Bool) : (s.clampIf b).readyAt = s.readyAt := by cases b <;> rfl
@[simp] theorem clampIf_role (s : State) (b : Bool) : (s.clampIf b).role = s.role := by cases b <;> rfl
@[simp] theorem clampIf_neverFramed (s : State) (b : Bool) : (s.clampIf b).neverFramed = s.neverFramed := by cases b <;> rfl
@[simp] theorem clampIf_hubNo (s : State) (b : Bool) : (s.clampIf b).hubNo = s.hubNo := by cases b <;> rfl
@[simp] theorem clampIf_shadows (s : State) (b : Bool) : (s.clampIf b).shadows = s.shadows := by cases b <;> rfl
@[simp] theorem clampIf_latches (s : State) (b : Bool) : (s.clampIf b).latches = s.latches := by cases b <;> rfl
@[simp] theorem clampIf_intFn (s : State) (b : Bool) : (s.clampIf b).intFn = s.intFn := by cases b <;> rfl
@[simp] theorem clampIf_cen (s : State) (b : Bool) : (s.clampIf b).cen = s.cen := by cases b <;> rfl
@[simp] theorem clampIf_badRegs (s : State) (b : Bool) : (s.clampIf b).badRegs = s.badRegs := by cases b <;> rfl
@[simp] theorem clampIf_stuckRegs (s : State) (b : Bool) : (s.clampIf b).stuckRegs = s.stuckRegs := by cases b <;> rfl
@[simp] theorem clampIf_trngBad (s : State) (b : Bool) : (s.clampIf b).trngBad = s.trngBad := by cases b <;> rfl
@[simp] theorem clampIf_locked (s : State) (b : Bool) : (s.clampIf b).locked = s.locked := by cases b <;> rfl
@[simp] theorem clampIf_rings (s : State) (b : Bool) : (s.clampIf b).rings = s.rings := by cases b <;> rfl
@[simp] theorem clampIf_fn0 (s : State) (b : Bool) : (s.clampIf b).fn0 = s.fn0 := by cases b <;> rfl
@[simp] theorem clampIf_fn1 (s : State) (b : Bool) : (s.clampIf b).fn1 = s.fn1 := by cases b <;> rfl
@[simp] theorem clampIf_lease (s : State) (b : Bool) : (s.clampIf b).lease = s.lease := by cases b <;> rfl
@[simp] theorem clampIf_flight (s : State) (b : Bool) : (s.clampIf b).flight = s.flight := by cases b <;> rfl
@[simp] theorem clampIf_cqWait (s : State) (b : Bool) : (s.clampIf b).cqWait = s.cqWait := by cases b <;> rfl
@[simp] theorem clampIf_nextId (s : State) (b : Bool) : (s.clampIf b).nextId = s.nextId := by cases b <;> rfl
@[simp] theorem clampIf_seqs (s : State) (b : Bool) : (s.clampIf b).seqs = s.seqs := by cases b <;> rfl
@[simp] theorem clampIf_seqOwn (s : State) (b : Bool) : (s.clampIf b).seqOwn = s.seqOwn := by cases b <;> rfl
@[simp] theorem clampIf_pool (s : State) (b : Bool) : (s.clampIf b).pool = s.pool := by cases b <;> rfl
@[simp] theorem clampIf_poolMerged (s : State) (b : Bool) : (s.clampIf b).poolMerged = s.poolMerged := by cases b <;> rfl
@[simp] theorem clampIf_catalogue (s : State) (b : Bool) : (s.clampIf b).catalogue = s.catalogue := by cases b <;> rfl
@[simp] theorem clampIf_nodes (s : State) (b : Bool) : (s.clampIf b).nodes = s.nodes := by cases b <;> rfl
@[simp] theorem clampIf_eps (s : State) (b : Bool) : (s.clampIf b).eps = s.eps := by cases b <;> rfl
@[simp] theorem clampIf_segs (s : State) (b : Bool) : (s.clampIf b).segs = s.segs := by cases b <;> rfl
@[simp] theorem clampIf_links (s : State) (b : Bool) : (s.clampIf b).links = s.links := by cases b <;> rfl
@[simp] theorem clampIf_upHeld (s : State) (b : Bool) : (s.clampIf b).upHeld = s.upHeld := by cases b <;> rfl
@[simp] theorem clampIf_orphans (s : State) (b : Bool) : (s.clampIf b).orphans = s.orphans := by cases b <;> rfl
@[simp] theorem clampIf_shelves0 (s : State) (b : Bool) : (s.clampIf b).shelves0 = s.shelves0 := by cases b <;> rfl
@[simp] theorem clampIf_shelves1 (s : State) (b : Bool) : (s.clampIf b).shelves1 = s.shelves1 := by cases b <;> rfl
@[simp] theorem clampIf_later (s : State) (b : Bool) : (s.clampIf b).later = s.later := by cases b <;> rfl
@[simp] theorem clampIf_vacated (s : State) (b : Bool) : (s.clampIf b).vacated = s.vacated := by cases b <;> rfl
@[simp] theorem clampIf_rules (s : State) (b : Bool) : (s.clampIf b).rules = s.rules := by cases b <;> rfl
@[simp] theorem clampIf_branchRules (s : State) (b : Bool) : (s.clampIf b).branchRules = s.branchRules := by cases b <;> rfl
@[simp] theorem clampIf_ruleReqs (s : State) (b : Bool) : (s.clampIf b).ruleReqs = s.ruleReqs := by cases b <;> rfl
@[simp] theorem clampIf_deposits (s : State) (b : Bool) : (s.clampIf b).deposits = s.deposits := by cases b <;> rfl
@[simp] theorem clampIf_subs (s : State) (b : Bool) : (s.clampIf b).subs = s.subs := by cases b <;> rfl
@[simp] theorem clampIf_mirror (s : State) (b : Bool) : (s.clampIf b).mirror = s.mirror := by cases b <;> rfl
@[simp] theorem clampIf_evals (s : State) (b : Bool) : (s.clampIf b).evals = s.evals := by cases b <;> rfl
@[simp] theorem clampIf_slotEvals (s : State) (b : Bool) : (s.clampIf b).slotEvals = s.slotEvals := by cases b <;> rfl
@[simp] theorem clampIf_gustActs (s : State) (b : Bool) : (s.clampIf b).gustActs = s.gustActs := by cases b <;> rfl
@[simp] theorem clampIf_spws (s : State) (b : Bool) : (s.clampIf b).spws = s.spws := by cases b <;> rfl
@[simp] theorem clampIf_pw (s : State) (b : Bool) : (s.clampIf b).pw = s.pw := by cases b <;> rfl
@[simp] theorem clampIf_folio (s : State) (b : Bool) : (s.clampIf b).folio = s.folio := by cases b <;> rfl
@[simp] theorem clampIf_nvm (s : State) (b : Bool) : (s.clampIf b).nvm = s.nvm := by cases b <;> rfl
@[simp] theorem clampIf_port (s : State) (b : Bool) : (s.clampIf b).port = s.port := by cases b <;> rfl
@[simp] theorem clampIf_sram (s : State) (b : Bool) : (s.clampIf b).sram = s.sram := by cases b <;> rfl
@[simp] theorem clampIf_movesThisEpoch (s : State) (b : Bool) : (s.clampIf b).movesThisEpoch = s.movesThisEpoch := by cases b <;> rfl
@[simp] theorem clampIf_epochFrame (s : State) (b : Bool) : (s.clampIf b).epochFrame = s.epochFrame := by cases b <;> rfl
@[simp] theorem clampIf_freeCtr (s : State) (b : Bool) : (s.clampIf b).freeCtr = s.freeCtr := by cases b <;> rfl
@[simp] theorem clampIf_bootAt (s : State) (b : Bool) : (s.clampIf b).bootAt = s.bootAt := by cases b <;> rfl
@[simp] theorem clampIf_booted (s : State) (b : Bool) : (s.clampIf b).booted = s.booted := by cases b <;> rfl
@[simp] theorem clampIf_starting (s : State) (b : Bool) : (s.clampIf b).starting = s.starting := by cases b <;> rfl
@[simp] theorem clampIf_out (s : State) (b : Bool) : (s.clampIf b).out = s.out := by cases b <;> rfl
@[simp] theorem clampIf_pending (s : State) (b : Bool) : (s.clampIf b).pending = s.pending := by cases b <;> rfl

/-! ## bumpFld -/

@[simp] theorem bumpFld_fc (s : State) (a : Nat) (r : BitRange) : (s.bumpFld a r).fc = s.fc := rfl
@[simp] theorem bumpFld_tt (s : State) (a : Nat) (r : BitRange) : (s.bumpFld a r).tt = s.tt := rfl
@[simp] theorem bumpFld_readyAt (s : State) (a : Nat) (r : BitRange) : (s.bumpFld a r).readyAt = s.readyAt := rfl
@[simp] theorem bumpFld_role (s : State) (a : Nat) (r : BitRange) : (s.bumpFld a r).role = s.role := rfl
@[simp] theorem bumpFld_neverFramed (s : State) (a : Nat) (r : BitRange) : (s.bumpFld a r).neverFramed = s.neverFramed := rfl
@[simp] theorem bumpFld_hubNo (s : State) (a : Nat) (r : BitRange) : (s.bumpFld a r).hubNo = s.hubNo := rfl
@[simp] theorem bumpFld_shadows (s : State) (a : Nat) (r : BitRange) : (s.bumpFld a r).shadows = s.shadows := rfl
@[simp] theorem bumpFld_latches (s : State) (a : Nat) (r : BitRange) : (s.bumpFld a r).latches = s.latches := rfl
@[simp] theorem bumpFld_intFn (s : State) (a : Nat) (r : BitRange) : (s.bumpFld a r).intFn = s.intFn := rfl
@[simp] theorem bumpFld_cen (s : State) (a : Nat) (r : BitRange) : (s.bumpFld a r).cen = s.cen := rfl
@[simp] theorem bumpFld_badRegs (s : State) (a : Nat) (r : BitRange) : (s.bumpFld a r).badRegs = s.badRegs := rfl
@[simp] theorem bumpFld_stuckRegs (s : State) (a : Nat) (r : BitRange) : (s.bumpFld a r).stuckRegs = s.stuckRegs := rfl
@[simp] theorem bumpFld_trngBad (s : State) (a : Nat) (r : BitRange) : (s.bumpFld a r).trngBad = s.trngBad := rfl
@[simp] theorem bumpFld_locked (s : State) (a : Nat) (r : BitRange) : (s.bumpFld a r).locked = s.locked := rfl
@[simp] theorem bumpFld_rings (s : State) (a : Nat) (r : BitRange) : (s.bumpFld a r).rings = s.rings := rfl
@[simp] theorem bumpFld_fn0 (s : State) (a : Nat) (r : BitRange) : (s.bumpFld a r).fn0 = s.fn0 := rfl
@[simp] theorem bumpFld_fn1 (s : State) (a : Nat) (r : BitRange) : (s.bumpFld a r).fn1 = s.fn1 := rfl
@[simp] theorem bumpFld_lease (s : State) (a : Nat) (r : BitRange) : (s.bumpFld a r).lease = s.lease := rfl
@[simp] theorem bumpFld_flight (s : State) (a : Nat) (r : BitRange) : (s.bumpFld a r).flight = s.flight := rfl
@[simp] theorem bumpFld_cqWait (s : State) (a : Nat) (r : BitRange) : (s.bumpFld a r).cqWait = s.cqWait := rfl
@[simp] theorem bumpFld_nextId (s : State) (a : Nat) (r : BitRange) : (s.bumpFld a r).nextId = s.nextId := rfl
@[simp] theorem bumpFld_seqs (s : State) (a : Nat) (r : BitRange) : (s.bumpFld a r).seqs = s.seqs := rfl
@[simp] theorem bumpFld_seqOwn (s : State) (a : Nat) (r : BitRange) : (s.bumpFld a r).seqOwn = s.seqOwn := rfl
@[simp] theorem bumpFld_pool (s : State) (a : Nat) (r : BitRange) : (s.bumpFld a r).pool = s.pool := rfl
@[simp] theorem bumpFld_poolMerged (s : State) (a : Nat) (r : BitRange) : (s.bumpFld a r).poolMerged = s.poolMerged := rfl
@[simp] theorem bumpFld_catalogue (s : State) (a : Nat) (r : BitRange) : (s.bumpFld a r).catalogue = s.catalogue := rfl
@[simp] theorem bumpFld_nodes (s : State) (a : Nat) (r : BitRange) : (s.bumpFld a r).nodes = s.nodes := rfl
@[simp] theorem bumpFld_eps (s : State) (a : Nat) (r : BitRange) : (s.bumpFld a r).eps = s.eps := rfl
@[simp] theorem bumpFld_segs (s : State) (a : Nat) (r : BitRange) : (s.bumpFld a r).segs = s.segs := rfl
@[simp] theorem bumpFld_links (s : State) (a : Nat) (r : BitRange) : (s.bumpFld a r).links = s.links := rfl
@[simp] theorem bumpFld_upHeld (s : State) (a : Nat) (r : BitRange) : (s.bumpFld a r).upHeld = s.upHeld := rfl
@[simp] theorem bumpFld_orphans (s : State) (a : Nat) (r : BitRange) : (s.bumpFld a r).orphans = s.orphans := rfl
@[simp] theorem bumpFld_shelves0 (s : State) (a : Nat) (r : BitRange) : (s.bumpFld a r).shelves0 = s.shelves0 := rfl
@[simp] theorem bumpFld_shelves1 (s : State) (a : Nat) (r : BitRange) : (s.bumpFld a r).shelves1 = s.shelves1 := rfl
@[simp] theorem bumpFld_later (s : State) (a : Nat) (r : BitRange) : (s.bumpFld a r).later = s.later := rfl
@[simp] theorem bumpFld_vacated (s : State) (a : Nat) (r : BitRange) : (s.bumpFld a r).vacated = s.vacated := rfl
@[simp] theorem bumpFld_rules (s : State) (a : Nat) (r : BitRange) : (s.bumpFld a r).rules = s.rules := rfl
@[simp] theorem bumpFld_branchRules (s : State) (a : Nat) (r : BitRange) : (s.bumpFld a r).branchRules = s.branchRules := rfl
@[simp] theorem bumpFld_ruleReqs (s : State) (a : Nat) (r : BitRange) : (s.bumpFld a r).ruleReqs = s.ruleReqs := rfl
@[simp] theorem bumpFld_deposits (s : State) (a : Nat) (r : BitRange) : (s.bumpFld a r).deposits = s.deposits := rfl
@[simp] theorem bumpFld_subs (s : State) (a : Nat) (r : BitRange) : (s.bumpFld a r).subs = s.subs := rfl
@[simp] theorem bumpFld_mirror (s : State) (a : Nat) (r : BitRange) : (s.bumpFld a r).mirror = s.mirror := rfl
@[simp] theorem bumpFld_evals (s : State) (a : Nat) (r : BitRange) : (s.bumpFld a r).evals = s.evals := rfl
@[simp] theorem bumpFld_slotEvals (s : State) (a : Nat) (r : BitRange) : (s.bumpFld a r).slotEvals = s.slotEvals := rfl
@[simp] theorem bumpFld_gustActs (s : State) (a : Nat) (r : BitRange) : (s.bumpFld a r).gustActs = s.gustActs := rfl
@[simp] theorem bumpFld_spws (s : State) (a : Nat) (r : BitRange) : (s.bumpFld a r).spws = s.spws := rfl
@[simp] theorem bumpFld_pw (s : State) (a : Nat) (r : BitRange) : (s.bumpFld a r).pw = s.pw := rfl
@[simp] theorem bumpFld_folio (s : State) (a : Nat) (r : BitRange) : (s.bumpFld a r).folio = s.folio := rfl
@[simp] theorem bumpFld_nvm (s : State) (a : Nat) (r : BitRange) : (s.bumpFld a r).nvm = s.nvm := rfl
@[simp] theorem bumpFld_port (s : State) (a : Nat) (r : BitRange) : (s.bumpFld a r).port = s.port := rfl
@[simp] theorem bumpFld_sram (s : State) (a : Nat) (r : BitRange) : (s.bumpFld a r).sram = s.sram := rfl
@[simp] theorem bumpFld_movesThisEpoch (s : State) (a : Nat) (r : BitRange) : (s.bumpFld a r).movesThisEpoch = s.movesThisEpoch := rfl
@[simp] theorem bumpFld_epochFrame (s : State) (a : Nat) (r : BitRange) : (s.bumpFld a r).epochFrame = s.epochFrame := rfl
@[simp] theorem bumpFld_freeCtr (s : State) (a : Nat) (r : BitRange) : (s.bumpFld a r).freeCtr = s.freeCtr := rfl
@[simp] theorem bumpFld_bootAt (s : State) (a : Nat) (r : BitRange) : (s.bumpFld a r).bootAt = s.bootAt := rfl
@[simp] theorem bumpFld_booted (s : State) (a : Nat) (r : BitRange) : (s.bumpFld a r).booted = s.booted := rfl
@[simp] theorem bumpFld_starting (s : State) (a : Nat) (r : BitRange) : (s.bumpFld a r).starting = s.starting := rfl
@[simp] theorem bumpFld_out (s : State) (a : Nat) (r : BitRange) : (s.bumpFld a r).out = s.out := rfl
@[simp] theorem bumpFld_pending (s : State) (a : Nat) (r : BitRange) : (s.bumpFld a r).pending = s.pending := rfl

/-! ## modRing -/

@[simp] theorem modRing_fc (s : State) (f : Fn) (i : Nat) (g : Ring → Ring) : (s.modRing f i g).fc = s.fc := rfl
@[simp] theorem modRing_tt (s : State) (f : Fn) (i : Nat) (g : Ring → Ring) : (s.modRing f i g).tt = s.tt := rfl
@[simp] theorem modRing_readyAt (s : State) (f : Fn) (i : Nat) (g : Ring → Ring) : (s.modRing f i g).readyAt = s.readyAt := rfl
@[simp] theorem modRing_role (s : State) (f : Fn) (i : Nat) (g : Ring → Ring) : (s.modRing f i g).role = s.role := rfl
@[simp] theorem modRing_neverFramed (s : State) (f : Fn) (i : Nat) (g : Ring → Ring) : (s.modRing f i g).neverFramed = s.neverFramed := rfl
@[simp] theorem modRing_hubNo (s : State) (f : Fn) (i : Nat) (g : Ring → Ring) : (s.modRing f i g).hubNo = s.hubNo := rfl
@[simp] theorem modRing_regs (s : State) (f : Fn) (i : Nat) (g : Ring → Ring) : (s.modRing f i g).regs = s.regs := rfl
@[simp] theorem modRing_shadows (s : State) (f : Fn) (i : Nat) (g : Ring → Ring) : (s.modRing f i g).shadows = s.shadows := rfl
@[simp] theorem modRing_latches (s : State) (f : Fn) (i : Nat) (g : Ring → Ring) : (s.modRing f i g).latches = s.latches := rfl
@[simp] theorem modRing_intFn (s : State) (f : Fn) (i : Nat) (g : Ring → Ring) : (s.modRing f i g).intFn = s.intFn := rfl
@[simp] theorem modRing_cen (s : State) (f : Fn) (i : Nat) (g : Ring → Ring) : (s.modRing f i g).cen = s.cen := rfl
@[simp] theorem modRing_badRegs (s : State) (f : Fn) (i : Nat) (g : Ring → Ring) : (s.modRing f i g).badRegs = s.badRegs := rfl
@[simp] theorem modRing_stuckRegs (s : State) (f : Fn) (i : Nat) (g : Ring → Ring) : (s.modRing f i g).stuckRegs = s.stuckRegs := rfl
@[simp] theorem modRing_trngBad (s : State) (f : Fn) (i : Nat) (g : Ring → Ring) : (s.modRing f i g).trngBad = s.trngBad := rfl
@[simp] theorem modRing_locked (s : State) (f : Fn) (i : Nat) (g : Ring → Ring) : (s.modRing f i g).locked = s.locked := rfl
@[simp] theorem modRing_fn0 (s : State) (f : Fn) (i : Nat) (g : Ring → Ring) : (s.modRing f i g).fn0 = s.fn0 := rfl
@[simp] theorem modRing_fn1 (s : State) (f : Fn) (i : Nat) (g : Ring → Ring) : (s.modRing f i g).fn1 = s.fn1 := rfl
@[simp] theorem modRing_lease (s : State) (f : Fn) (i : Nat) (g : Ring → Ring) : (s.modRing f i g).lease = s.lease := rfl
@[simp] theorem modRing_flight (s : State) (f : Fn) (i : Nat) (g : Ring → Ring) : (s.modRing f i g).flight = s.flight := rfl
@[simp] theorem modRing_cqWait (s : State) (f : Fn) (i : Nat) (g : Ring → Ring) : (s.modRing f i g).cqWait = s.cqWait := rfl
@[simp] theorem modRing_nextId (s : State) (f : Fn) (i : Nat) (g : Ring → Ring) : (s.modRing f i g).nextId = s.nextId := rfl
@[simp] theorem modRing_seqs (s : State) (f : Fn) (i : Nat) (g : Ring → Ring) : (s.modRing f i g).seqs = s.seqs := rfl
@[simp] theorem modRing_seqOwn (s : State) (f : Fn) (i : Nat) (g : Ring → Ring) : (s.modRing f i g).seqOwn = s.seqOwn := rfl
@[simp] theorem modRing_pool (s : State) (f : Fn) (i : Nat) (g : Ring → Ring) : (s.modRing f i g).pool = s.pool := rfl
@[simp] theorem modRing_poolMerged (s : State) (f : Fn) (i : Nat) (g : Ring → Ring) : (s.modRing f i g).poolMerged = s.poolMerged := rfl
@[simp] theorem modRing_catalogue (s : State) (f : Fn) (i : Nat) (g : Ring → Ring) : (s.modRing f i g).catalogue = s.catalogue := rfl
@[simp] theorem modRing_nodes (s : State) (f : Fn) (i : Nat) (g : Ring → Ring) : (s.modRing f i g).nodes = s.nodes := rfl
@[simp] theorem modRing_eps (s : State) (f : Fn) (i : Nat) (g : Ring → Ring) : (s.modRing f i g).eps = s.eps := rfl
@[simp] theorem modRing_segs (s : State) (f : Fn) (i : Nat) (g : Ring → Ring) : (s.modRing f i g).segs = s.segs := rfl
@[simp] theorem modRing_links (s : State) (f : Fn) (i : Nat) (g : Ring → Ring) : (s.modRing f i g).links = s.links := rfl
@[simp] theorem modRing_upHeld (s : State) (f : Fn) (i : Nat) (g : Ring → Ring) : (s.modRing f i g).upHeld = s.upHeld := rfl
@[simp] theorem modRing_orphans (s : State) (f : Fn) (i : Nat) (g : Ring → Ring) : (s.modRing f i g).orphans = s.orphans := rfl
@[simp] theorem modRing_shelves0 (s : State) (f : Fn) (i : Nat) (g : Ring → Ring) : (s.modRing f i g).shelves0 = s.shelves0 := rfl
@[simp] theorem modRing_shelves1 (s : State) (f : Fn) (i : Nat) (g : Ring → Ring) : (s.modRing f i g).shelves1 = s.shelves1 := rfl
@[simp] theorem modRing_later (s : State) (f : Fn) (i : Nat) (g : Ring → Ring) : (s.modRing f i g).later = s.later := rfl
@[simp] theorem modRing_vacated (s : State) (f : Fn) (i : Nat) (g : Ring → Ring) : (s.modRing f i g).vacated = s.vacated := rfl
@[simp] theorem modRing_rules (s : State) (f : Fn) (i : Nat) (g : Ring → Ring) : (s.modRing f i g).rules = s.rules := rfl
@[simp] theorem modRing_branchRules (s : State) (f : Fn) (i : Nat) (g : Ring → Ring) : (s.modRing f i g).branchRules = s.branchRules := rfl
@[simp] theorem modRing_ruleReqs (s : State) (f : Fn) (i : Nat) (g : Ring → Ring) : (s.modRing f i g).ruleReqs = s.ruleReqs := rfl
@[simp] theorem modRing_deposits (s : State) (f : Fn) (i : Nat) (g : Ring → Ring) : (s.modRing f i g).deposits = s.deposits := rfl
@[simp] theorem modRing_subs (s : State) (f : Fn) (i : Nat) (g : Ring → Ring) : (s.modRing f i g).subs = s.subs := rfl
@[simp] theorem modRing_mirror (s : State) (f : Fn) (i : Nat) (g : Ring → Ring) : (s.modRing f i g).mirror = s.mirror := rfl
@[simp] theorem modRing_evals (s : State) (f : Fn) (i : Nat) (g : Ring → Ring) : (s.modRing f i g).evals = s.evals := rfl
@[simp] theorem modRing_slotEvals (s : State) (f : Fn) (i : Nat) (g : Ring → Ring) : (s.modRing f i g).slotEvals = s.slotEvals := rfl
@[simp] theorem modRing_gustActs (s : State) (f : Fn) (i : Nat) (g : Ring → Ring) : (s.modRing f i g).gustActs = s.gustActs := rfl
@[simp] theorem modRing_spws (s : State) (f : Fn) (i : Nat) (g : Ring → Ring) : (s.modRing f i g).spws = s.spws := rfl
@[simp] theorem modRing_pw (s : State) (f : Fn) (i : Nat) (g : Ring → Ring) : (s.modRing f i g).pw = s.pw := rfl
@[simp] theorem modRing_folio (s : State) (f : Fn) (i : Nat) (g : Ring → Ring) : (s.modRing f i g).folio = s.folio := rfl
@[simp] theorem modRing_nvm (s : State) (f : Fn) (i : Nat) (g : Ring → Ring) : (s.modRing f i g).nvm = s.nvm := rfl
@[simp] theorem modRing_port (s : State) (f : Fn) (i : Nat) (g : Ring → Ring) : (s.modRing f i g).port = s.port := rfl
@[simp] theorem modRing_sram (s : State) (f : Fn) (i : Nat) (g : Ring → Ring) : (s.modRing f i g).sram = s.sram := rfl
@[simp] theorem modRing_movesThisEpoch (s : State) (f : Fn) (i : Nat) (g : Ring → Ring) : (s.modRing f i g).movesThisEpoch = s.movesThisEpoch := rfl
@[simp] theorem modRing_epochFrame (s : State) (f : Fn) (i : Nat) (g : Ring → Ring) : (s.modRing f i g).epochFrame = s.epochFrame := rfl
@[simp] theorem modRing_freeCtr (s : State) (f : Fn) (i : Nat) (g : Ring → Ring) : (s.modRing f i g).freeCtr = s.freeCtr := rfl
@[simp] theorem modRing_bootAt (s : State) (f : Fn) (i : Nat) (g : Ring → Ring) : (s.modRing f i g).bootAt = s.bootAt := rfl
@[simp] theorem modRing_booted (s : State) (f : Fn) (i : Nat) (g : Ring → Ring) : (s.modRing f i g).booted = s.booted := rfl
@[simp] theorem modRing_starting (s : State) (f : Fn) (i : Nat) (g : Ring → Ring) : (s.modRing f i g).starting = s.starting := rfl
@[simp] theorem modRing_out (s : State) (f : Fn) (i : Nat) (g : Ring → Ring) : (s.modRing f i g).out = s.out := rfl
@[simp] theorem modRing_pending (s : State) (f : Fn) (i : Nat) (g : Ring → Ring) : (s.modRing f i g).pending = s.pending := rfl

/-! ## modEp -/

@[simp] theorem modEp_fc (s : State) (k : Nat) (g : EpCtx → EpCtx) : (s.modEp k g).fc = s.fc := rfl
@[simp] theorem modEp_tt (s : State) (k : Nat) (g : EpCtx → EpCtx) : (s.modEp k g).tt = s.tt := rfl
@[simp] theorem modEp_readyAt (s : State) (k : Nat) (g : EpCtx → EpCtx) : (s.modEp k g).readyAt = s.readyAt := rfl
@[simp] theorem modEp_role (s : State) (k : Nat) (g : EpCtx → EpCtx) : (s.modEp k g).role = s.role := rfl
@[simp] theorem modEp_neverFramed (s : State) (k : Nat) (g : EpCtx → EpCtx) : (s.modEp k g).neverFramed = s.neverFramed := rfl
@[simp] theorem modEp_hubNo (s : State) (k : Nat) (g : EpCtx → EpCtx) : (s.modEp k g).hubNo = s.hubNo := rfl
@[simp] theorem modEp_regs (s : State) (k : Nat) (g : EpCtx → EpCtx) : (s.modEp k g).regs = s.regs := rfl
@[simp] theorem modEp_shadows (s : State) (k : Nat) (g : EpCtx → EpCtx) : (s.modEp k g).shadows = s.shadows := rfl
@[simp] theorem modEp_latches (s : State) (k : Nat) (g : EpCtx → EpCtx) : (s.modEp k g).latches = s.latches := rfl
@[simp] theorem modEp_intFn (s : State) (k : Nat) (g : EpCtx → EpCtx) : (s.modEp k g).intFn = s.intFn := rfl
@[simp] theorem modEp_cen (s : State) (k : Nat) (g : EpCtx → EpCtx) : (s.modEp k g).cen = s.cen := rfl
@[simp] theorem modEp_badRegs (s : State) (k : Nat) (g : EpCtx → EpCtx) : (s.modEp k g).badRegs = s.badRegs := rfl
@[simp] theorem modEp_stuckRegs (s : State) (k : Nat) (g : EpCtx → EpCtx) : (s.modEp k g).stuckRegs = s.stuckRegs := rfl
@[simp] theorem modEp_trngBad (s : State) (k : Nat) (g : EpCtx → EpCtx) : (s.modEp k g).trngBad = s.trngBad := rfl
@[simp] theorem modEp_locked (s : State) (k : Nat) (g : EpCtx → EpCtx) : (s.modEp k g).locked = s.locked := rfl
@[simp] theorem modEp_rings (s : State) (k : Nat) (g : EpCtx → EpCtx) : (s.modEp k g).rings = s.rings := rfl
@[simp] theorem modEp_fn0 (s : State) (k : Nat) (g : EpCtx → EpCtx) : (s.modEp k g).fn0 = s.fn0 := rfl
@[simp] theorem modEp_fn1 (s : State) (k : Nat) (g : EpCtx → EpCtx) : (s.modEp k g).fn1 = s.fn1 := rfl
@[simp] theorem modEp_lease (s : State) (k : Nat) (g : EpCtx → EpCtx) : (s.modEp k g).lease = s.lease := rfl
@[simp] theorem modEp_flight (s : State) (k : Nat) (g : EpCtx → EpCtx) : (s.modEp k g).flight = s.flight := rfl
@[simp] theorem modEp_cqWait (s : State) (k : Nat) (g : EpCtx → EpCtx) : (s.modEp k g).cqWait = s.cqWait := rfl
@[simp] theorem modEp_nextId (s : State) (k : Nat) (g : EpCtx → EpCtx) : (s.modEp k g).nextId = s.nextId := rfl
@[simp] theorem modEp_seqs (s : State) (k : Nat) (g : EpCtx → EpCtx) : (s.modEp k g).seqs = s.seqs := rfl
@[simp] theorem modEp_seqOwn (s : State) (k : Nat) (g : EpCtx → EpCtx) : (s.modEp k g).seqOwn = s.seqOwn := rfl
@[simp] theorem modEp_pool (s : State) (k : Nat) (g : EpCtx → EpCtx) : (s.modEp k g).pool = s.pool := rfl
@[simp] theorem modEp_poolMerged (s : State) (k : Nat) (g : EpCtx → EpCtx) : (s.modEp k g).poolMerged = s.poolMerged := rfl
@[simp] theorem modEp_catalogue (s : State) (k : Nat) (g : EpCtx → EpCtx) : (s.modEp k g).catalogue = s.catalogue := rfl
@[simp] theorem modEp_nodes (s : State) (k : Nat) (g : EpCtx → EpCtx) : (s.modEp k g).nodes = s.nodes := rfl
@[simp] theorem modEp_segs (s : State) (k : Nat) (g : EpCtx → EpCtx) : (s.modEp k g).segs = s.segs := rfl
@[simp] theorem modEp_links (s : State) (k : Nat) (g : EpCtx → EpCtx) : (s.modEp k g).links = s.links := rfl
@[simp] theorem modEp_upHeld (s : State) (k : Nat) (g : EpCtx → EpCtx) : (s.modEp k g).upHeld = s.upHeld := rfl
@[simp] theorem modEp_orphans (s : State) (k : Nat) (g : EpCtx → EpCtx) : (s.modEp k g).orphans = s.orphans := rfl
@[simp] theorem modEp_shelves0 (s : State) (k : Nat) (g : EpCtx → EpCtx) : (s.modEp k g).shelves0 = s.shelves0 := rfl
@[simp] theorem modEp_shelves1 (s : State) (k : Nat) (g : EpCtx → EpCtx) : (s.modEp k g).shelves1 = s.shelves1 := rfl
@[simp] theorem modEp_later (s : State) (k : Nat) (g : EpCtx → EpCtx) : (s.modEp k g).later = s.later := rfl
@[simp] theorem modEp_vacated (s : State) (k : Nat) (g : EpCtx → EpCtx) : (s.modEp k g).vacated = s.vacated := rfl
@[simp] theorem modEp_rules (s : State) (k : Nat) (g : EpCtx → EpCtx) : (s.modEp k g).rules = s.rules := rfl
@[simp] theorem modEp_branchRules (s : State) (k : Nat) (g : EpCtx → EpCtx) : (s.modEp k g).branchRules = s.branchRules := rfl
@[simp] theorem modEp_ruleReqs (s : State) (k : Nat) (g : EpCtx → EpCtx) : (s.modEp k g).ruleReqs = s.ruleReqs := rfl
@[simp] theorem modEp_deposits (s : State) (k : Nat) (g : EpCtx → EpCtx) : (s.modEp k g).deposits = s.deposits := rfl
@[simp] theorem modEp_subs (s : State) (k : Nat) (g : EpCtx → EpCtx) : (s.modEp k g).subs = s.subs := rfl
@[simp] theorem modEp_mirror (s : State) (k : Nat) (g : EpCtx → EpCtx) : (s.modEp k g).mirror = s.mirror := rfl
@[simp] theorem modEp_evals (s : State) (k : Nat) (g : EpCtx → EpCtx) : (s.modEp k g).evals = s.evals := rfl
@[simp] theorem modEp_slotEvals (s : State) (k : Nat) (g : EpCtx → EpCtx) : (s.modEp k g).slotEvals = s.slotEvals := rfl
@[simp] theorem modEp_gustActs (s : State) (k : Nat) (g : EpCtx → EpCtx) : (s.modEp k g).gustActs = s.gustActs := rfl
@[simp] theorem modEp_spws (s : State) (k : Nat) (g : EpCtx → EpCtx) : (s.modEp k g).spws = s.spws := rfl
@[simp] theorem modEp_pw (s : State) (k : Nat) (g : EpCtx → EpCtx) : (s.modEp k g).pw = s.pw := rfl
@[simp] theorem modEp_folio (s : State) (k : Nat) (g : EpCtx → EpCtx) : (s.modEp k g).folio = s.folio := rfl
@[simp] theorem modEp_nvm (s : State) (k : Nat) (g : EpCtx → EpCtx) : (s.modEp k g).nvm = s.nvm := rfl
@[simp] theorem modEp_port (s : State) (k : Nat) (g : EpCtx → EpCtx) : (s.modEp k g).port = s.port := rfl
@[simp] theorem modEp_sram (s : State) (k : Nat) (g : EpCtx → EpCtx) : (s.modEp k g).sram = s.sram := rfl
@[simp] theorem modEp_movesThisEpoch (s : State) (k : Nat) (g : EpCtx → EpCtx) : (s.modEp k g).movesThisEpoch = s.movesThisEpoch := rfl
@[simp] theorem modEp_epochFrame (s : State) (k : Nat) (g : EpCtx → EpCtx) : (s.modEp k g).epochFrame = s.epochFrame := rfl
@[simp] theorem modEp_freeCtr (s : State) (k : Nat) (g : EpCtx → EpCtx) : (s.modEp k g).freeCtr = s.freeCtr := rfl
@[simp] theorem modEp_bootAt (s : State) (k : Nat) (g : EpCtx → EpCtx) : (s.modEp k g).bootAt = s.bootAt := rfl
@[simp] theorem modEp_booted (s : State) (k : Nat) (g : EpCtx → EpCtx) : (s.modEp k g).booted = s.booted := rfl
@[simp] theorem modEp_starting (s : State) (k : Nat) (g : EpCtx → EpCtx) : (s.modEp k g).starting = s.starting := rfl
@[simp] theorem modEp_out (s : State) (k : Nat) (g : EpCtx → EpCtx) : (s.modEp k g).out = s.out := rfl
@[simp] theorem modEp_pending (s : State) (k : Nat) (g : EpCtx → EpCtx) : (s.modEp k g).pending = s.pending := rfl

/-! ## modNode -/

@[simp] theorem modNode_fc (s : State) (k : Nat) (g : Node → Node) : (s.modNode k g).fc = s.fc := rfl
@[simp] theorem modNode_tt (s : State) (k : Nat) (g : Node → Node) : (s.modNode k g).tt = s.tt := rfl
@[simp] theorem modNode_readyAt (s : State) (k : Nat) (g : Node → Node) : (s.modNode k g).readyAt = s.readyAt := rfl
@[simp] theorem modNode_role (s : State) (k : Nat) (g : Node → Node) : (s.modNode k g).role = s.role := rfl
@[simp] theorem modNode_neverFramed (s : State) (k : Nat) (g : Node → Node) : (s.modNode k g).neverFramed = s.neverFramed := rfl
@[simp] theorem modNode_hubNo (s : State) (k : Nat) (g : Node → Node) : (s.modNode k g).hubNo = s.hubNo := rfl
@[simp] theorem modNode_regs (s : State) (k : Nat) (g : Node → Node) : (s.modNode k g).regs = s.regs := rfl
@[simp] theorem modNode_shadows (s : State) (k : Nat) (g : Node → Node) : (s.modNode k g).shadows = s.shadows := rfl
@[simp] theorem modNode_latches (s : State) (k : Nat) (g : Node → Node) : (s.modNode k g).latches = s.latches := rfl
@[simp] theorem modNode_intFn (s : State) (k : Nat) (g : Node → Node) : (s.modNode k g).intFn = s.intFn := rfl
@[simp] theorem modNode_cen (s : State) (k : Nat) (g : Node → Node) : (s.modNode k g).cen = s.cen := rfl
@[simp] theorem modNode_badRegs (s : State) (k : Nat) (g : Node → Node) : (s.modNode k g).badRegs = s.badRegs := rfl
@[simp] theorem modNode_stuckRegs (s : State) (k : Nat) (g : Node → Node) : (s.modNode k g).stuckRegs = s.stuckRegs := rfl
@[simp] theorem modNode_trngBad (s : State) (k : Nat) (g : Node → Node) : (s.modNode k g).trngBad = s.trngBad := rfl
@[simp] theorem modNode_locked (s : State) (k : Nat) (g : Node → Node) : (s.modNode k g).locked = s.locked := rfl
@[simp] theorem modNode_rings (s : State) (k : Nat) (g : Node → Node) : (s.modNode k g).rings = s.rings := rfl
@[simp] theorem modNode_fn0 (s : State) (k : Nat) (g : Node → Node) : (s.modNode k g).fn0 = s.fn0 := rfl
@[simp] theorem modNode_fn1 (s : State) (k : Nat) (g : Node → Node) : (s.modNode k g).fn1 = s.fn1 := rfl
@[simp] theorem modNode_lease (s : State) (k : Nat) (g : Node → Node) : (s.modNode k g).lease = s.lease := rfl
@[simp] theorem modNode_flight (s : State) (k : Nat) (g : Node → Node) : (s.modNode k g).flight = s.flight := rfl
@[simp] theorem modNode_cqWait (s : State) (k : Nat) (g : Node → Node) : (s.modNode k g).cqWait = s.cqWait := rfl
@[simp] theorem modNode_nextId (s : State) (k : Nat) (g : Node → Node) : (s.modNode k g).nextId = s.nextId := rfl
@[simp] theorem modNode_seqs (s : State) (k : Nat) (g : Node → Node) : (s.modNode k g).seqs = s.seqs := rfl
@[simp] theorem modNode_seqOwn (s : State) (k : Nat) (g : Node → Node) : (s.modNode k g).seqOwn = s.seqOwn := rfl
@[simp] theorem modNode_pool (s : State) (k : Nat) (g : Node → Node) : (s.modNode k g).pool = s.pool := rfl
@[simp] theorem modNode_poolMerged (s : State) (k : Nat) (g : Node → Node) : (s.modNode k g).poolMerged = s.poolMerged := rfl
@[simp] theorem modNode_catalogue (s : State) (k : Nat) (g : Node → Node) : (s.modNode k g).catalogue = s.catalogue := rfl
@[simp] theorem modNode_eps (s : State) (k : Nat) (g : Node → Node) : (s.modNode k g).eps = s.eps := rfl
@[simp] theorem modNode_segs (s : State) (k : Nat) (g : Node → Node) : (s.modNode k g).segs = s.segs := rfl
@[simp] theorem modNode_links (s : State) (k : Nat) (g : Node → Node) : (s.modNode k g).links = s.links := rfl
@[simp] theorem modNode_upHeld (s : State) (k : Nat) (g : Node → Node) : (s.modNode k g).upHeld = s.upHeld := rfl
@[simp] theorem modNode_orphans (s : State) (k : Nat) (g : Node → Node) : (s.modNode k g).orphans = s.orphans := rfl
@[simp] theorem modNode_shelves0 (s : State) (k : Nat) (g : Node → Node) : (s.modNode k g).shelves0 = s.shelves0 := rfl
@[simp] theorem modNode_shelves1 (s : State) (k : Nat) (g : Node → Node) : (s.modNode k g).shelves1 = s.shelves1 := rfl
@[simp] theorem modNode_later (s : State) (k : Nat) (g : Node → Node) : (s.modNode k g).later = s.later := rfl
@[simp] theorem modNode_vacated (s : State) (k : Nat) (g : Node → Node) : (s.modNode k g).vacated = s.vacated := rfl
@[simp] theorem modNode_rules (s : State) (k : Nat) (g : Node → Node) : (s.modNode k g).rules = s.rules := rfl
@[simp] theorem modNode_branchRules (s : State) (k : Nat) (g : Node → Node) : (s.modNode k g).branchRules = s.branchRules := rfl
@[simp] theorem modNode_ruleReqs (s : State) (k : Nat) (g : Node → Node) : (s.modNode k g).ruleReqs = s.ruleReqs := rfl
@[simp] theorem modNode_deposits (s : State) (k : Nat) (g : Node → Node) : (s.modNode k g).deposits = s.deposits := rfl
@[simp] theorem modNode_subs (s : State) (k : Nat) (g : Node → Node) : (s.modNode k g).subs = s.subs := rfl
@[simp] theorem modNode_mirror (s : State) (k : Nat) (g : Node → Node) : (s.modNode k g).mirror = s.mirror := rfl
@[simp] theorem modNode_evals (s : State) (k : Nat) (g : Node → Node) : (s.modNode k g).evals = s.evals := rfl
@[simp] theorem modNode_slotEvals (s : State) (k : Nat) (g : Node → Node) : (s.modNode k g).slotEvals = s.slotEvals := rfl
@[simp] theorem modNode_gustActs (s : State) (k : Nat) (g : Node → Node) : (s.modNode k g).gustActs = s.gustActs := rfl
@[simp] theorem modNode_spws (s : State) (k : Nat) (g : Node → Node) : (s.modNode k g).spws = s.spws := rfl
@[simp] theorem modNode_pw (s : State) (k : Nat) (g : Node → Node) : (s.modNode k g).pw = s.pw := rfl
@[simp] theorem modNode_folio (s : State) (k : Nat) (g : Node → Node) : (s.modNode k g).folio = s.folio := rfl
@[simp] theorem modNode_nvm (s : State) (k : Nat) (g : Node → Node) : (s.modNode k g).nvm = s.nvm := rfl
@[simp] theorem modNode_port (s : State) (k : Nat) (g : Node → Node) : (s.modNode k g).port = s.port := rfl
@[simp] theorem modNode_sram (s : State) (k : Nat) (g : Node → Node) : (s.modNode k g).sram = s.sram := rfl
@[simp] theorem modNode_movesThisEpoch (s : State) (k : Nat) (g : Node → Node) : (s.modNode k g).movesThisEpoch = s.movesThisEpoch := rfl
@[simp] theorem modNode_epochFrame (s : State) (k : Nat) (g : Node → Node) : (s.modNode k g).epochFrame = s.epochFrame := rfl
@[simp] theorem modNode_freeCtr (s : State) (k : Nat) (g : Node → Node) : (s.modNode k g).freeCtr = s.freeCtr := rfl
@[simp] theorem modNode_bootAt (s : State) (k : Nat) (g : Node → Node) : (s.modNode k g).bootAt = s.bootAt := rfl
@[simp] theorem modNode_booted (s : State) (k : Nat) (g : Node → Node) : (s.modNode k g).booted = s.booted := rfl
@[simp] theorem modNode_starting (s : State) (k : Nat) (g : Node → Node) : (s.modNode k g).starting = s.starting := rfl
@[simp] theorem modNode_out (s : State) (k : Nat) (g : Node → Node) : (s.modNode k g).out = s.out := rfl
@[simp] theorem modNode_pending (s : State) (k : Nat) (g : Node → Node) : (s.modNode k g).pending = s.pending := rfl

/-! ## modSeg -/

@[simp] theorem modSeg_fc (s : State) (p : Nat) (g : Seg → Seg) : (s.modSeg p g).fc = s.fc := rfl
@[simp] theorem modSeg_tt (s : State) (p : Nat) (g : Seg → Seg) : (s.modSeg p g).tt = s.tt := rfl
@[simp] theorem modSeg_readyAt (s : State) (p : Nat) (g : Seg → Seg) : (s.modSeg p g).readyAt = s.readyAt := rfl
@[simp] theorem modSeg_role (s : State) (p : Nat) (g : Seg → Seg) : (s.modSeg p g).role = s.role := rfl
@[simp] theorem modSeg_neverFramed (s : State) (p : Nat) (g : Seg → Seg) : (s.modSeg p g).neverFramed = s.neverFramed := rfl
@[simp] theorem modSeg_hubNo (s : State) (p : Nat) (g : Seg → Seg) : (s.modSeg p g).hubNo = s.hubNo := rfl
@[simp] theorem modSeg_regs (s : State) (p : Nat) (g : Seg → Seg) : (s.modSeg p g).regs = s.regs := rfl
@[simp] theorem modSeg_shadows (s : State) (p : Nat) (g : Seg → Seg) : (s.modSeg p g).shadows = s.shadows := rfl
@[simp] theorem modSeg_latches (s : State) (p : Nat) (g : Seg → Seg) : (s.modSeg p g).latches = s.latches := rfl
@[simp] theorem modSeg_intFn (s : State) (p : Nat) (g : Seg → Seg) : (s.modSeg p g).intFn = s.intFn := rfl
@[simp] theorem modSeg_cen (s : State) (p : Nat) (g : Seg → Seg) : (s.modSeg p g).cen = s.cen := rfl
@[simp] theorem modSeg_badRegs (s : State) (p : Nat) (g : Seg → Seg) : (s.modSeg p g).badRegs = s.badRegs := rfl
@[simp] theorem modSeg_stuckRegs (s : State) (p : Nat) (g : Seg → Seg) : (s.modSeg p g).stuckRegs = s.stuckRegs := rfl
@[simp] theorem modSeg_trngBad (s : State) (p : Nat) (g : Seg → Seg) : (s.modSeg p g).trngBad = s.trngBad := rfl
@[simp] theorem modSeg_locked (s : State) (p : Nat) (g : Seg → Seg) : (s.modSeg p g).locked = s.locked := rfl
@[simp] theorem modSeg_rings (s : State) (p : Nat) (g : Seg → Seg) : (s.modSeg p g).rings = s.rings := rfl
@[simp] theorem modSeg_fn0 (s : State) (p : Nat) (g : Seg → Seg) : (s.modSeg p g).fn0 = s.fn0 := rfl
@[simp] theorem modSeg_fn1 (s : State) (p : Nat) (g : Seg → Seg) : (s.modSeg p g).fn1 = s.fn1 := rfl
@[simp] theorem modSeg_lease (s : State) (p : Nat) (g : Seg → Seg) : (s.modSeg p g).lease = s.lease := rfl
@[simp] theorem modSeg_flight (s : State) (p : Nat) (g : Seg → Seg) : (s.modSeg p g).flight = s.flight := rfl
@[simp] theorem modSeg_cqWait (s : State) (p : Nat) (g : Seg → Seg) : (s.modSeg p g).cqWait = s.cqWait := rfl
@[simp] theorem modSeg_nextId (s : State) (p : Nat) (g : Seg → Seg) : (s.modSeg p g).nextId = s.nextId := rfl
@[simp] theorem modSeg_seqs (s : State) (p : Nat) (g : Seg → Seg) : (s.modSeg p g).seqs = s.seqs := rfl
@[simp] theorem modSeg_seqOwn (s : State) (p : Nat) (g : Seg → Seg) : (s.modSeg p g).seqOwn = s.seqOwn := rfl
@[simp] theorem modSeg_pool (s : State) (p : Nat) (g : Seg → Seg) : (s.modSeg p g).pool = s.pool := rfl
@[simp] theorem modSeg_poolMerged (s : State) (p : Nat) (g : Seg → Seg) : (s.modSeg p g).poolMerged = s.poolMerged := rfl
@[simp] theorem modSeg_catalogue (s : State) (p : Nat) (g : Seg → Seg) : (s.modSeg p g).catalogue = s.catalogue := rfl
@[simp] theorem modSeg_nodes (s : State) (p : Nat) (g : Seg → Seg) : (s.modSeg p g).nodes = s.nodes := rfl
@[simp] theorem modSeg_eps (s : State) (p : Nat) (g : Seg → Seg) : (s.modSeg p g).eps = s.eps := rfl
@[simp] theorem modSeg_links (s : State) (p : Nat) (g : Seg → Seg) : (s.modSeg p g).links = s.links := rfl
@[simp] theorem modSeg_upHeld (s : State) (p : Nat) (g : Seg → Seg) : (s.modSeg p g).upHeld = s.upHeld := rfl
@[simp] theorem modSeg_orphans (s : State) (p : Nat) (g : Seg → Seg) : (s.modSeg p g).orphans = s.orphans := rfl
@[simp] theorem modSeg_shelves0 (s : State) (p : Nat) (g : Seg → Seg) : (s.modSeg p g).shelves0 = s.shelves0 := rfl
@[simp] theorem modSeg_shelves1 (s : State) (p : Nat) (g : Seg → Seg) : (s.modSeg p g).shelves1 = s.shelves1 := rfl
@[simp] theorem modSeg_later (s : State) (p : Nat) (g : Seg → Seg) : (s.modSeg p g).later = s.later := rfl
@[simp] theorem modSeg_vacated (s : State) (p : Nat) (g : Seg → Seg) : (s.modSeg p g).vacated = s.vacated := rfl
@[simp] theorem modSeg_rules (s : State) (p : Nat) (g : Seg → Seg) : (s.modSeg p g).rules = s.rules := rfl
@[simp] theorem modSeg_branchRules (s : State) (p : Nat) (g : Seg → Seg) : (s.modSeg p g).branchRules = s.branchRules := rfl
@[simp] theorem modSeg_ruleReqs (s : State) (p : Nat) (g : Seg → Seg) : (s.modSeg p g).ruleReqs = s.ruleReqs := rfl
@[simp] theorem modSeg_deposits (s : State) (p : Nat) (g : Seg → Seg) : (s.modSeg p g).deposits = s.deposits := rfl
@[simp] theorem modSeg_subs (s : State) (p : Nat) (g : Seg → Seg) : (s.modSeg p g).subs = s.subs := rfl
@[simp] theorem modSeg_mirror (s : State) (p : Nat) (g : Seg → Seg) : (s.modSeg p g).mirror = s.mirror := rfl
@[simp] theorem modSeg_evals (s : State) (p : Nat) (g : Seg → Seg) : (s.modSeg p g).evals = s.evals := rfl
@[simp] theorem modSeg_slotEvals (s : State) (p : Nat) (g : Seg → Seg) : (s.modSeg p g).slotEvals = s.slotEvals := rfl
@[simp] theorem modSeg_gustActs (s : State) (p : Nat) (g : Seg → Seg) : (s.modSeg p g).gustActs = s.gustActs := rfl
@[simp] theorem modSeg_spws (s : State) (p : Nat) (g : Seg → Seg) : (s.modSeg p g).spws = s.spws := rfl
@[simp] theorem modSeg_pw (s : State) (p : Nat) (g : Seg → Seg) : (s.modSeg p g).pw = s.pw := rfl
@[simp] theorem modSeg_folio (s : State) (p : Nat) (g : Seg → Seg) : (s.modSeg p g).folio = s.folio := rfl
@[simp] theorem modSeg_nvm (s : State) (p : Nat) (g : Seg → Seg) : (s.modSeg p g).nvm = s.nvm := rfl
@[simp] theorem modSeg_port (s : State) (p : Nat) (g : Seg → Seg) : (s.modSeg p g).port = s.port := rfl
@[simp] theorem modSeg_sram (s : State) (p : Nat) (g : Seg → Seg) : (s.modSeg p g).sram = s.sram := rfl
@[simp] theorem modSeg_movesThisEpoch (s : State) (p : Nat) (g : Seg → Seg) : (s.modSeg p g).movesThisEpoch = s.movesThisEpoch := rfl
@[simp] theorem modSeg_epochFrame (s : State) (p : Nat) (g : Seg → Seg) : (s.modSeg p g).epochFrame = s.epochFrame := rfl
@[simp] theorem modSeg_freeCtr (s : State) (p : Nat) (g : Seg → Seg) : (s.modSeg p g).freeCtr = s.freeCtr := rfl
@[simp] theorem modSeg_bootAt (s : State) (p : Nat) (g : Seg → Seg) : (s.modSeg p g).bootAt = s.bootAt := rfl
@[simp] theorem modSeg_booted (s : State) (p : Nat) (g : Seg → Seg) : (s.modSeg p g).booted = s.booted := rfl
@[simp] theorem modSeg_starting (s : State) (p : Nat) (g : Seg → Seg) : (s.modSeg p g).starting = s.starting := rfl
@[simp] theorem modSeg_out (s : State) (p : Nat) (g : Seg → Seg) : (s.modSeg p g).out = s.out := rfl
@[simp] theorem modSeg_pending (s : State) (p : Nat) (g : Seg → Seg) : (s.modSeg p g).pending = s.pending := rfl

/-! ## modLink -/

@[simp] theorem modLink_fc (s : State) (p : Nat) (g : Link → Link) : (s.modLink p g).fc = s.fc := rfl
@[simp] theorem modLink_tt (s : State) (p : Nat) (g : Link → Link) : (s.modLink p g).tt = s.tt := rfl
@[simp] theorem modLink_readyAt (s : State) (p : Nat) (g : Link → Link) : (s.modLink p g).readyAt = s.readyAt := rfl
@[simp] theorem modLink_role (s : State) (p : Nat) (g : Link → Link) : (s.modLink p g).role = s.role := rfl
@[simp] theorem modLink_neverFramed (s : State) (p : Nat) (g : Link → Link) : (s.modLink p g).neverFramed = s.neverFramed := rfl
@[simp] theorem modLink_hubNo (s : State) (p : Nat) (g : Link → Link) : (s.modLink p g).hubNo = s.hubNo := rfl
@[simp] theorem modLink_regs (s : State) (p : Nat) (g : Link → Link) : (s.modLink p g).regs = s.regs := rfl
@[simp] theorem modLink_shadows (s : State) (p : Nat) (g : Link → Link) : (s.modLink p g).shadows = s.shadows := rfl
@[simp] theorem modLink_latches (s : State) (p : Nat) (g : Link → Link) : (s.modLink p g).latches = s.latches := rfl
@[simp] theorem modLink_intFn (s : State) (p : Nat) (g : Link → Link) : (s.modLink p g).intFn = s.intFn := rfl
@[simp] theorem modLink_cen (s : State) (p : Nat) (g : Link → Link) : (s.modLink p g).cen = s.cen := rfl
@[simp] theorem modLink_badRegs (s : State) (p : Nat) (g : Link → Link) : (s.modLink p g).badRegs = s.badRegs := rfl
@[simp] theorem modLink_stuckRegs (s : State) (p : Nat) (g : Link → Link) : (s.modLink p g).stuckRegs = s.stuckRegs := rfl
@[simp] theorem modLink_trngBad (s : State) (p : Nat) (g : Link → Link) : (s.modLink p g).trngBad = s.trngBad := rfl
@[simp] theorem modLink_locked (s : State) (p : Nat) (g : Link → Link) : (s.modLink p g).locked = s.locked := rfl
@[simp] theorem modLink_rings (s : State) (p : Nat) (g : Link → Link) : (s.modLink p g).rings = s.rings := rfl
@[simp] theorem modLink_fn0 (s : State) (p : Nat) (g : Link → Link) : (s.modLink p g).fn0 = s.fn0 := rfl
@[simp] theorem modLink_fn1 (s : State) (p : Nat) (g : Link → Link) : (s.modLink p g).fn1 = s.fn1 := rfl
@[simp] theorem modLink_lease (s : State) (p : Nat) (g : Link → Link) : (s.modLink p g).lease = s.lease := rfl
@[simp] theorem modLink_flight (s : State) (p : Nat) (g : Link → Link) : (s.modLink p g).flight = s.flight := rfl
@[simp] theorem modLink_cqWait (s : State) (p : Nat) (g : Link → Link) : (s.modLink p g).cqWait = s.cqWait := rfl
@[simp] theorem modLink_nextId (s : State) (p : Nat) (g : Link → Link) : (s.modLink p g).nextId = s.nextId := rfl
@[simp] theorem modLink_seqs (s : State) (p : Nat) (g : Link → Link) : (s.modLink p g).seqs = s.seqs := rfl
@[simp] theorem modLink_seqOwn (s : State) (p : Nat) (g : Link → Link) : (s.modLink p g).seqOwn = s.seqOwn := rfl
@[simp] theorem modLink_pool (s : State) (p : Nat) (g : Link → Link) : (s.modLink p g).pool = s.pool := rfl
@[simp] theorem modLink_poolMerged (s : State) (p : Nat) (g : Link → Link) : (s.modLink p g).poolMerged = s.poolMerged := rfl
@[simp] theorem modLink_catalogue (s : State) (p : Nat) (g : Link → Link) : (s.modLink p g).catalogue = s.catalogue := rfl
@[simp] theorem modLink_nodes (s : State) (p : Nat) (g : Link → Link) : (s.modLink p g).nodes = s.nodes := rfl
@[simp] theorem modLink_eps (s : State) (p : Nat) (g : Link → Link) : (s.modLink p g).eps = s.eps := rfl
@[simp] theorem modLink_segs (s : State) (p : Nat) (g : Link → Link) : (s.modLink p g).segs = s.segs := rfl
@[simp] theorem modLink_upHeld (s : State) (p : Nat) (g : Link → Link) : (s.modLink p g).upHeld = s.upHeld := rfl
@[simp] theorem modLink_orphans (s : State) (p : Nat) (g : Link → Link) : (s.modLink p g).orphans = s.orphans := rfl
@[simp] theorem modLink_shelves0 (s : State) (p : Nat) (g : Link → Link) : (s.modLink p g).shelves0 = s.shelves0 := rfl
@[simp] theorem modLink_shelves1 (s : State) (p : Nat) (g : Link → Link) : (s.modLink p g).shelves1 = s.shelves1 := rfl
@[simp] theorem modLink_later (s : State) (p : Nat) (g : Link → Link) : (s.modLink p g).later = s.later := rfl
@[simp] theorem modLink_vacated (s : State) (p : Nat) (g : Link → Link) : (s.modLink p g).vacated = s.vacated := rfl
@[simp] theorem modLink_rules (s : State) (p : Nat) (g : Link → Link) : (s.modLink p g).rules = s.rules := rfl
@[simp] theorem modLink_branchRules (s : State) (p : Nat) (g : Link → Link) : (s.modLink p g).branchRules = s.branchRules := rfl
@[simp] theorem modLink_ruleReqs (s : State) (p : Nat) (g : Link → Link) : (s.modLink p g).ruleReqs = s.ruleReqs := rfl
@[simp] theorem modLink_deposits (s : State) (p : Nat) (g : Link → Link) : (s.modLink p g).deposits = s.deposits := rfl
@[simp] theorem modLink_subs (s : State) (p : Nat) (g : Link → Link) : (s.modLink p g).subs = s.subs := rfl
@[simp] theorem modLink_mirror (s : State) (p : Nat) (g : Link → Link) : (s.modLink p g).mirror = s.mirror := rfl
@[simp] theorem modLink_evals (s : State) (p : Nat) (g : Link → Link) : (s.modLink p g).evals = s.evals := rfl
@[simp] theorem modLink_slotEvals (s : State) (p : Nat) (g : Link → Link) : (s.modLink p g).slotEvals = s.slotEvals := rfl
@[simp] theorem modLink_gustActs (s : State) (p : Nat) (g : Link → Link) : (s.modLink p g).gustActs = s.gustActs := rfl
@[simp] theorem modLink_spws (s : State) (p : Nat) (g : Link → Link) : (s.modLink p g).spws = s.spws := rfl
@[simp] theorem modLink_pw (s : State) (p : Nat) (g : Link → Link) : (s.modLink p g).pw = s.pw := rfl
@[simp] theorem modLink_folio (s : State) (p : Nat) (g : Link → Link) : (s.modLink p g).folio = s.folio := rfl
@[simp] theorem modLink_nvm (s : State) (p : Nat) (g : Link → Link) : (s.modLink p g).nvm = s.nvm := rfl
@[simp] theorem modLink_port (s : State) (p : Nat) (g : Link → Link) : (s.modLink p g).port = s.port := rfl
@[simp] theorem modLink_sram (s : State) (p : Nat) (g : Link → Link) : (s.modLink p g).sram = s.sram := rfl
@[simp] theorem modLink_movesThisEpoch (s : State) (p : Nat) (g : Link → Link) : (s.modLink p g).movesThisEpoch = s.movesThisEpoch := rfl
@[simp] theorem modLink_epochFrame (s : State) (p : Nat) (g : Link → Link) : (s.modLink p g).epochFrame = s.epochFrame := rfl
@[simp] theorem modLink_freeCtr (s : State) (p : Nat) (g : Link → Link) : (s.modLink p g).freeCtr = s.freeCtr := rfl
@[simp] theorem modLink_bootAt (s : State) (p : Nat) (g : Link → Link) : (s.modLink p g).bootAt = s.bootAt := rfl
@[simp] theorem modLink_booted (s : State) (p : Nat) (g : Link → Link) : (s.modLink p g).booted = s.booted := rfl
@[simp] theorem modLink_starting (s : State) (p : Nat) (g : Link → Link) : (s.modLink p g).starting = s.starting := rfl
@[simp] theorem modLink_out (s : State) (p : Nat) (g : Link → Link) : (s.modLink p g).out = s.out := rfl
@[simp] theorem modLink_pending (s : State) (p : Nat) (g : Link → Link) : (s.modLink p g).pending = s.pending := rfl

/-! ## modSpw -/

@[simp] theorem modSpw_fc (s : State) (p : Nat) (g : Spw → Spw) : (s.modSpw p g).fc = s.fc := rfl
@[simp] theorem modSpw_tt (s : State) (p : Nat) (g : Spw → Spw) : (s.modSpw p g).tt = s.tt := rfl
@[simp] theorem modSpw_readyAt (s : State) (p : Nat) (g : Spw → Spw) : (s.modSpw p g).readyAt = s.readyAt := rfl
@[simp] theorem modSpw_role (s : State) (p : Nat) (g : Spw → Spw) : (s.modSpw p g).role = s.role := rfl
@[simp] theorem modSpw_neverFramed (s : State) (p : Nat) (g : Spw → Spw) : (s.modSpw p g).neverFramed = s.neverFramed := rfl
@[simp] theorem modSpw_hubNo (s : State) (p : Nat) (g : Spw → Spw) : (s.modSpw p g).hubNo = s.hubNo := rfl
@[simp] theorem modSpw_regs (s : State) (p : Nat) (g : Spw → Spw) : (s.modSpw p g).regs = s.regs := rfl
@[simp] theorem modSpw_shadows (s : State) (p : Nat) (g : Spw → Spw) : (s.modSpw p g).shadows = s.shadows := rfl
@[simp] theorem modSpw_latches (s : State) (p : Nat) (g : Spw → Spw) : (s.modSpw p g).latches = s.latches := rfl
@[simp] theorem modSpw_intFn (s : State) (p : Nat) (g : Spw → Spw) : (s.modSpw p g).intFn = s.intFn := rfl
@[simp] theorem modSpw_cen (s : State) (p : Nat) (g : Spw → Spw) : (s.modSpw p g).cen = s.cen := rfl
@[simp] theorem modSpw_badRegs (s : State) (p : Nat) (g : Spw → Spw) : (s.modSpw p g).badRegs = s.badRegs := rfl
@[simp] theorem modSpw_stuckRegs (s : State) (p : Nat) (g : Spw → Spw) : (s.modSpw p g).stuckRegs = s.stuckRegs := rfl
@[simp] theorem modSpw_trngBad (s : State) (p : Nat) (g : Spw → Spw) : (s.modSpw p g).trngBad = s.trngBad := rfl
@[simp] theorem modSpw_locked (s : State) (p : Nat) (g : Spw → Spw) : (s.modSpw p g).locked = s.locked := rfl
@[simp] theorem modSpw_rings (s : State) (p : Nat) (g : Spw → Spw) : (s.modSpw p g).rings = s.rings := rfl
@[simp] theorem modSpw_fn0 (s : State) (p : Nat) (g : Spw → Spw) : (s.modSpw p g).fn0 = s.fn0 := rfl
@[simp] theorem modSpw_fn1 (s : State) (p : Nat) (g : Spw → Spw) : (s.modSpw p g).fn1 = s.fn1 := rfl
@[simp] theorem modSpw_lease (s : State) (p : Nat) (g : Spw → Spw) : (s.modSpw p g).lease = s.lease := rfl
@[simp] theorem modSpw_flight (s : State) (p : Nat) (g : Spw → Spw) : (s.modSpw p g).flight = s.flight := rfl
@[simp] theorem modSpw_cqWait (s : State) (p : Nat) (g : Spw → Spw) : (s.modSpw p g).cqWait = s.cqWait := rfl
@[simp] theorem modSpw_nextId (s : State) (p : Nat) (g : Spw → Spw) : (s.modSpw p g).nextId = s.nextId := rfl
@[simp] theorem modSpw_seqs (s : State) (p : Nat) (g : Spw → Spw) : (s.modSpw p g).seqs = s.seqs := rfl
@[simp] theorem modSpw_seqOwn (s : State) (p : Nat) (g : Spw → Spw) : (s.modSpw p g).seqOwn = s.seqOwn := rfl
@[simp] theorem modSpw_pool (s : State) (p : Nat) (g : Spw → Spw) : (s.modSpw p g).pool = s.pool := rfl
@[simp] theorem modSpw_poolMerged (s : State) (p : Nat) (g : Spw → Spw) : (s.modSpw p g).poolMerged = s.poolMerged := rfl
@[simp] theorem modSpw_catalogue (s : State) (p : Nat) (g : Spw → Spw) : (s.modSpw p g).catalogue = s.catalogue := rfl
@[simp] theorem modSpw_nodes (s : State) (p : Nat) (g : Spw → Spw) : (s.modSpw p g).nodes = s.nodes := rfl
@[simp] theorem modSpw_eps (s : State) (p : Nat) (g : Spw → Spw) : (s.modSpw p g).eps = s.eps := rfl
@[simp] theorem modSpw_segs (s : State) (p : Nat) (g : Spw → Spw) : (s.modSpw p g).segs = s.segs := rfl
@[simp] theorem modSpw_links (s : State) (p : Nat) (g : Spw → Spw) : (s.modSpw p g).links = s.links := rfl
@[simp] theorem modSpw_upHeld (s : State) (p : Nat) (g : Spw → Spw) : (s.modSpw p g).upHeld = s.upHeld := rfl
@[simp] theorem modSpw_orphans (s : State) (p : Nat) (g : Spw → Spw) : (s.modSpw p g).orphans = s.orphans := rfl
@[simp] theorem modSpw_shelves0 (s : State) (p : Nat) (g : Spw → Spw) : (s.modSpw p g).shelves0 = s.shelves0 := rfl
@[simp] theorem modSpw_shelves1 (s : State) (p : Nat) (g : Spw → Spw) : (s.modSpw p g).shelves1 = s.shelves1 := rfl
@[simp] theorem modSpw_later (s : State) (p : Nat) (g : Spw → Spw) : (s.modSpw p g).later = s.later := rfl
@[simp] theorem modSpw_vacated (s : State) (p : Nat) (g : Spw → Spw) : (s.modSpw p g).vacated = s.vacated := rfl
@[simp] theorem modSpw_rules (s : State) (p : Nat) (g : Spw → Spw) : (s.modSpw p g).rules = s.rules := rfl
@[simp] theorem modSpw_branchRules (s : State) (p : Nat) (g : Spw → Spw) : (s.modSpw p g).branchRules = s.branchRules := rfl
@[simp] theorem modSpw_ruleReqs (s : State) (p : Nat) (g : Spw → Spw) : (s.modSpw p g).ruleReqs = s.ruleReqs := rfl
@[simp] theorem modSpw_deposits (s : State) (p : Nat) (g : Spw → Spw) : (s.modSpw p g).deposits = s.deposits := rfl
@[simp] theorem modSpw_subs (s : State) (p : Nat) (g : Spw → Spw) : (s.modSpw p g).subs = s.subs := rfl
@[simp] theorem modSpw_mirror (s : State) (p : Nat) (g : Spw → Spw) : (s.modSpw p g).mirror = s.mirror := rfl
@[simp] theorem modSpw_evals (s : State) (p : Nat) (g : Spw → Spw) : (s.modSpw p g).evals = s.evals := rfl
@[simp] theorem modSpw_slotEvals (s : State) (p : Nat) (g : Spw → Spw) : (s.modSpw p g).slotEvals = s.slotEvals := rfl
@[simp] theorem modSpw_gustActs (s : State) (p : Nat) (g : Spw → Spw) : (s.modSpw p g).gustActs = s.gustActs := rfl
@[simp] theorem modSpw_pw (s : State) (p : Nat) (g : Spw → Spw) : (s.modSpw p g).pw = s.pw := rfl
@[simp] theorem modSpw_folio (s : State) (p : Nat) (g : Spw → Spw) : (s.modSpw p g).folio = s.folio := rfl
@[simp] theorem modSpw_nvm (s : State) (p : Nat) (g : Spw → Spw) : (s.modSpw p g).nvm = s.nvm := rfl
@[simp] theorem modSpw_port (s : State) (p : Nat) (g : Spw → Spw) : (s.modSpw p g).port = s.port := rfl
@[simp] theorem modSpw_sram (s : State) (p : Nat) (g : Spw → Spw) : (s.modSpw p g).sram = s.sram := rfl
@[simp] theorem modSpw_movesThisEpoch (s : State) (p : Nat) (g : Spw → Spw) : (s.modSpw p g).movesThisEpoch = s.movesThisEpoch := rfl
@[simp] theorem modSpw_epochFrame (s : State) (p : Nat) (g : Spw → Spw) : (s.modSpw p g).epochFrame = s.epochFrame := rfl
@[simp] theorem modSpw_freeCtr (s : State) (p : Nat) (g : Spw → Spw) : (s.modSpw p g).freeCtr = s.freeCtr := rfl
@[simp] theorem modSpw_bootAt (s : State) (p : Nat) (g : Spw → Spw) : (s.modSpw p g).bootAt = s.bootAt := rfl
@[simp] theorem modSpw_booted (s : State) (p : Nat) (g : Spw → Spw) : (s.modSpw p g).booted = s.booted := rfl
@[simp] theorem modSpw_starting (s : State) (p : Nat) (g : Spw → Spw) : (s.modSpw p g).starting = s.starting := rfl
@[simp] theorem modSpw_out (s : State) (p : Nat) (g : Spw → Spw) : (s.modSpw p g).out = s.out := rfl
@[simp] theorem modSpw_pending (s : State) (p : Nat) (g : Spw → Spw) : (s.modSpw p g).pending = s.pending := rfl

/-! ## modRule -/

@[simp] theorem modRule_fc (s : State) (i : Nat) (g : Rule → Rule) : (s.modRule i g).fc = s.fc := rfl
@[simp] theorem modRule_tt (s : State) (i : Nat) (g : Rule → Rule) : (s.modRule i g).tt = s.tt := rfl
@[simp] theorem modRule_readyAt (s : State) (i : Nat) (g : Rule → Rule) : (s.modRule i g).readyAt = s.readyAt := rfl
@[simp] theorem modRule_role (s : State) (i : Nat) (g : Rule → Rule) : (s.modRule i g).role = s.role := rfl
@[simp] theorem modRule_neverFramed (s : State) (i : Nat) (g : Rule → Rule) : (s.modRule i g).neverFramed = s.neverFramed := rfl
@[simp] theorem modRule_hubNo (s : State) (i : Nat) (g : Rule → Rule) : (s.modRule i g).hubNo = s.hubNo := rfl
@[simp] theorem modRule_regs (s : State) (i : Nat) (g : Rule → Rule) : (s.modRule i g).regs = s.regs := rfl
@[simp] theorem modRule_shadows (s : State) (i : Nat) (g : Rule → Rule) : (s.modRule i g).shadows = s.shadows := rfl
@[simp] theorem modRule_latches (s : State) (i : Nat) (g : Rule → Rule) : (s.modRule i g).latches = s.latches := rfl
@[simp] theorem modRule_intFn (s : State) (i : Nat) (g : Rule → Rule) : (s.modRule i g).intFn = s.intFn := rfl
@[simp] theorem modRule_cen (s : State) (i : Nat) (g : Rule → Rule) : (s.modRule i g).cen = s.cen := rfl
@[simp] theorem modRule_badRegs (s : State) (i : Nat) (g : Rule → Rule) : (s.modRule i g).badRegs = s.badRegs := rfl
@[simp] theorem modRule_stuckRegs (s : State) (i : Nat) (g : Rule → Rule) : (s.modRule i g).stuckRegs = s.stuckRegs := rfl
@[simp] theorem modRule_trngBad (s : State) (i : Nat) (g : Rule → Rule) : (s.modRule i g).trngBad = s.trngBad := rfl
@[simp] theorem modRule_locked (s : State) (i : Nat) (g : Rule → Rule) : (s.modRule i g).locked = s.locked := rfl
@[simp] theorem modRule_rings (s : State) (i : Nat) (g : Rule → Rule) : (s.modRule i g).rings = s.rings := rfl
@[simp] theorem modRule_fn0 (s : State) (i : Nat) (g : Rule → Rule) : (s.modRule i g).fn0 = s.fn0 := rfl
@[simp] theorem modRule_fn1 (s : State) (i : Nat) (g : Rule → Rule) : (s.modRule i g).fn1 = s.fn1 := rfl
@[simp] theorem modRule_lease (s : State) (i : Nat) (g : Rule → Rule) : (s.modRule i g).lease = s.lease := rfl
@[simp] theorem modRule_flight (s : State) (i : Nat) (g : Rule → Rule) : (s.modRule i g).flight = s.flight := rfl
@[simp] theorem modRule_cqWait (s : State) (i : Nat) (g : Rule → Rule) : (s.modRule i g).cqWait = s.cqWait := rfl
@[simp] theorem modRule_nextId (s : State) (i : Nat) (g : Rule → Rule) : (s.modRule i g).nextId = s.nextId := rfl
@[simp] theorem modRule_seqs (s : State) (i : Nat) (g : Rule → Rule) : (s.modRule i g).seqs = s.seqs := rfl
@[simp] theorem modRule_seqOwn (s : State) (i : Nat) (g : Rule → Rule) : (s.modRule i g).seqOwn = s.seqOwn := rfl
@[simp] theorem modRule_pool (s : State) (i : Nat) (g : Rule → Rule) : (s.modRule i g).pool = s.pool := rfl
@[simp] theorem modRule_poolMerged (s : State) (i : Nat) (g : Rule → Rule) : (s.modRule i g).poolMerged = s.poolMerged := rfl
@[simp] theorem modRule_catalogue (s : State) (i : Nat) (g : Rule → Rule) : (s.modRule i g).catalogue = s.catalogue := rfl
@[simp] theorem modRule_nodes (s : State) (i : Nat) (g : Rule → Rule) : (s.modRule i g).nodes = s.nodes := rfl
@[simp] theorem modRule_eps (s : State) (i : Nat) (g : Rule → Rule) : (s.modRule i g).eps = s.eps := rfl
@[simp] theorem modRule_segs (s : State) (i : Nat) (g : Rule → Rule) : (s.modRule i g).segs = s.segs := rfl
@[simp] theorem modRule_links (s : State) (i : Nat) (g : Rule → Rule) : (s.modRule i g).links = s.links := rfl
@[simp] theorem modRule_upHeld (s : State) (i : Nat) (g : Rule → Rule) : (s.modRule i g).upHeld = s.upHeld := rfl
@[simp] theorem modRule_orphans (s : State) (i : Nat) (g : Rule → Rule) : (s.modRule i g).orphans = s.orphans := rfl
@[simp] theorem modRule_shelves0 (s : State) (i : Nat) (g : Rule → Rule) : (s.modRule i g).shelves0 = s.shelves0 := rfl
@[simp] theorem modRule_shelves1 (s : State) (i : Nat) (g : Rule → Rule) : (s.modRule i g).shelves1 = s.shelves1 := rfl
@[simp] theorem modRule_later (s : State) (i : Nat) (g : Rule → Rule) : (s.modRule i g).later = s.later := rfl
@[simp] theorem modRule_vacated (s : State) (i : Nat) (g : Rule → Rule) : (s.modRule i g).vacated = s.vacated := rfl
@[simp] theorem modRule_ruleReqs (s : State) (i : Nat) (g : Rule → Rule) : (s.modRule i g).ruleReqs = s.ruleReqs := rfl
@[simp] theorem modRule_deposits (s : State) (i : Nat) (g : Rule → Rule) : (s.modRule i g).deposits = s.deposits := rfl
@[simp] theorem modRule_subs (s : State) (i : Nat) (g : Rule → Rule) : (s.modRule i g).subs = s.subs := rfl
@[simp] theorem modRule_mirror (s : State) (i : Nat) (g : Rule → Rule) : (s.modRule i g).mirror = s.mirror := rfl
@[simp] theorem modRule_evals (s : State) (i : Nat) (g : Rule → Rule) : (s.modRule i g).evals = s.evals := rfl
@[simp] theorem modRule_slotEvals (s : State) (i : Nat) (g : Rule → Rule) : (s.modRule i g).slotEvals = s.slotEvals := rfl
@[simp] theorem modRule_gustActs (s : State) (i : Nat) (g : Rule → Rule) : (s.modRule i g).gustActs = s.gustActs := rfl
@[simp] theorem modRule_spws (s : State) (i : Nat) (g : Rule → Rule) : (s.modRule i g).spws = s.spws := rfl
@[simp] theorem modRule_pw (s : State) (i : Nat) (g : Rule → Rule) : (s.modRule i g).pw = s.pw := rfl
@[simp] theorem modRule_folio (s : State) (i : Nat) (g : Rule → Rule) : (s.modRule i g).folio = s.folio := rfl
@[simp] theorem modRule_nvm (s : State) (i : Nat) (g : Rule → Rule) : (s.modRule i g).nvm = s.nvm := rfl
@[simp] theorem modRule_port (s : State) (i : Nat) (g : Rule → Rule) : (s.modRule i g).port = s.port := rfl
@[simp] theorem modRule_sram (s : State) (i : Nat) (g : Rule → Rule) : (s.modRule i g).sram = s.sram := rfl
@[simp] theorem modRule_movesThisEpoch (s : State) (i : Nat) (g : Rule → Rule) : (s.modRule i g).movesThisEpoch = s.movesThisEpoch := rfl
@[simp] theorem modRule_epochFrame (s : State) (i : Nat) (g : Rule → Rule) : (s.modRule i g).epochFrame = s.epochFrame := rfl
@[simp] theorem modRule_freeCtr (s : State) (i : Nat) (g : Rule → Rule) : (s.modRule i g).freeCtr = s.freeCtr := rfl
@[simp] theorem modRule_bootAt (s : State) (i : Nat) (g : Rule → Rule) : (s.modRule i g).bootAt = s.bootAt := rfl
@[simp] theorem modRule_booted (s : State) (i : Nat) (g : Rule → Rule) : (s.modRule i g).booted = s.booted := rfl
@[simp] theorem modRule_starting (s : State) (i : Nat) (g : Rule → Rule) : (s.modRule i g).starting = s.starting := rfl
@[simp] theorem modRule_out (s : State) (i : Nat) (g : Rule → Rule) : (s.modRule i g).out = s.out := rfl
@[simp] theorem modRule_pending (s : State) (i : Nat) (g : Rule → Rule) : (s.modRule i g).pending = s.pending := rfl

/-! ## modFn -/

@[simp] theorem modFn_fc (s : State) (f : Fn) (g : FnState → FnState) : (s.modFn f g).fc = s.fc := by cases f <;> rfl
@[simp] theorem modFn_tt (s : State) (f : Fn) (g : FnState → FnState) : (s.modFn f g).tt = s.tt := by cases f <;> rfl
@[simp] theorem modFn_readyAt (s : State) (f : Fn) (g : FnState → FnState) : (s.modFn f g).readyAt = s.readyAt := by cases f <;> rfl
@[simp] theorem modFn_role (s : State) (f : Fn) (g : FnState → FnState) : (s.modFn f g).role = s.role := by cases f <;> rfl
@[simp] theorem modFn_neverFramed (s : State) (f : Fn) (g : FnState → FnState) : (s.modFn f g).neverFramed = s.neverFramed := by cases f <;> rfl
@[simp] theorem modFn_hubNo (s : State) (f : Fn) (g : FnState → FnState) : (s.modFn f g).hubNo = s.hubNo := by cases f <;> rfl
@[simp] theorem modFn_regs (s : State) (f : Fn) (g : FnState → FnState) : (s.modFn f g).regs = s.regs := by cases f <;> rfl
@[simp] theorem modFn_shadows (s : State) (f : Fn) (g : FnState → FnState) : (s.modFn f g).shadows = s.shadows := by cases f <;> rfl
@[simp] theorem modFn_latches (s : State) (f : Fn) (g : FnState → FnState) : (s.modFn f g).latches = s.latches := by cases f <;> rfl
@[simp] theorem modFn_intFn (s : State) (f : Fn) (g : FnState → FnState) : (s.modFn f g).intFn = s.intFn := by cases f <;> rfl
@[simp] theorem modFn_cen (s : State) (f : Fn) (g : FnState → FnState) : (s.modFn f g).cen = s.cen := by cases f <;> rfl
@[simp] theorem modFn_badRegs (s : State) (f : Fn) (g : FnState → FnState) : (s.modFn f g).badRegs = s.badRegs := by cases f <;> rfl
@[simp] theorem modFn_stuckRegs (s : State) (f : Fn) (g : FnState → FnState) : (s.modFn f g).stuckRegs = s.stuckRegs := by cases f <;> rfl
@[simp] theorem modFn_trngBad (s : State) (f : Fn) (g : FnState → FnState) : (s.modFn f g).trngBad = s.trngBad := by cases f <;> rfl
@[simp] theorem modFn_locked (s : State) (f : Fn) (g : FnState → FnState) : (s.modFn f g).locked = s.locked := by cases f <;> rfl
@[simp] theorem modFn_rings (s : State) (f : Fn) (g : FnState → FnState) : (s.modFn f g).rings = s.rings := by cases f <;> rfl
@[simp] theorem modFn_lease (s : State) (f : Fn) (g : FnState → FnState) : (s.modFn f g).lease = s.lease := by cases f <;> rfl
@[simp] theorem modFn_flight (s : State) (f : Fn) (g : FnState → FnState) : (s.modFn f g).flight = s.flight := by cases f <;> rfl
@[simp] theorem modFn_cqWait (s : State) (f : Fn) (g : FnState → FnState) : (s.modFn f g).cqWait = s.cqWait := by cases f <;> rfl
@[simp] theorem modFn_nextId (s : State) (f : Fn) (g : FnState → FnState) : (s.modFn f g).nextId = s.nextId := by cases f <;> rfl
@[simp] theorem modFn_seqs (s : State) (f : Fn) (g : FnState → FnState) : (s.modFn f g).seqs = s.seqs := by cases f <;> rfl
@[simp] theorem modFn_seqOwn (s : State) (f : Fn) (g : FnState → FnState) : (s.modFn f g).seqOwn = s.seqOwn := by cases f <;> rfl
@[simp] theorem modFn_pool (s : State) (f : Fn) (g : FnState → FnState) : (s.modFn f g).pool = s.pool := by cases f <;> rfl
@[simp] theorem modFn_poolMerged (s : State) (f : Fn) (g : FnState → FnState) : (s.modFn f g).poolMerged = s.poolMerged := by cases f <;> rfl
@[simp] theorem modFn_catalogue (s : State) (f : Fn) (g : FnState → FnState) : (s.modFn f g).catalogue = s.catalogue := by cases f <;> rfl
@[simp] theorem modFn_nodes (s : State) (f : Fn) (g : FnState → FnState) : (s.modFn f g).nodes = s.nodes := by cases f <;> rfl
@[simp] theorem modFn_eps (s : State) (f : Fn) (g : FnState → FnState) : (s.modFn f g).eps = s.eps := by cases f <;> rfl
@[simp] theorem modFn_segs (s : State) (f : Fn) (g : FnState → FnState) : (s.modFn f g).segs = s.segs := by cases f <;> rfl
@[simp] theorem modFn_links (s : State) (f : Fn) (g : FnState → FnState) : (s.modFn f g).links = s.links := by cases f <;> rfl
@[simp] theorem modFn_upHeld (s : State) (f : Fn) (g : FnState → FnState) : (s.modFn f g).upHeld = s.upHeld := by cases f <;> rfl
@[simp] theorem modFn_orphans (s : State) (f : Fn) (g : FnState → FnState) : (s.modFn f g).orphans = s.orphans := by cases f <;> rfl
@[simp] theorem modFn_shelves0 (s : State) (f : Fn) (g : FnState → FnState) : (s.modFn f g).shelves0 = s.shelves0 := by cases f <;> rfl
@[simp] theorem modFn_shelves1 (s : State) (f : Fn) (g : FnState → FnState) : (s.modFn f g).shelves1 = s.shelves1 := by cases f <;> rfl
@[simp] theorem modFn_later (s : State) (f : Fn) (g : FnState → FnState) : (s.modFn f g).later = s.later := by cases f <;> rfl
@[simp] theorem modFn_vacated (s : State) (f : Fn) (g : FnState → FnState) : (s.modFn f g).vacated = s.vacated := by cases f <;> rfl
@[simp] theorem modFn_rules (s : State) (f : Fn) (g : FnState → FnState) : (s.modFn f g).rules = s.rules := by cases f <;> rfl
@[simp] theorem modFn_branchRules (s : State) (f : Fn) (g : FnState → FnState) : (s.modFn f g).branchRules = s.branchRules := by cases f <;> rfl
@[simp] theorem modFn_ruleReqs (s : State) (f : Fn) (g : FnState → FnState) : (s.modFn f g).ruleReqs = s.ruleReqs := by cases f <;> rfl
@[simp] theorem modFn_deposits (s : State) (f : Fn) (g : FnState → FnState) : (s.modFn f g).deposits = s.deposits := by cases f <;> rfl
@[simp] theorem modFn_subs (s : State) (f : Fn) (g : FnState → FnState) : (s.modFn f g).subs = s.subs := by cases f <;> rfl
@[simp] theorem modFn_mirror (s : State) (f : Fn) (g : FnState → FnState) : (s.modFn f g).mirror = s.mirror := by cases f <;> rfl
@[simp] theorem modFn_evals (s : State) (f : Fn) (g : FnState → FnState) : (s.modFn f g).evals = s.evals := by cases f <;> rfl
@[simp] theorem modFn_slotEvals (s : State) (f : Fn) (g : FnState → FnState) : (s.modFn f g).slotEvals = s.slotEvals := by cases f <;> rfl
@[simp] theorem modFn_gustActs (s : State) (f : Fn) (g : FnState → FnState) : (s.modFn f g).gustActs = s.gustActs := by cases f <;> rfl
@[simp] theorem modFn_spws (s : State) (f : Fn) (g : FnState → FnState) : (s.modFn f g).spws = s.spws := by cases f <;> rfl
@[simp] theorem modFn_pw (s : State) (f : Fn) (g : FnState → FnState) : (s.modFn f g).pw = s.pw := by cases f <;> rfl
@[simp] theorem modFn_folio (s : State) (f : Fn) (g : FnState → FnState) : (s.modFn f g).folio = s.folio := by cases f <;> rfl
@[simp] theorem modFn_nvm (s : State) (f : Fn) (g : FnState → FnState) : (s.modFn f g).nvm = s.nvm := by cases f <;> rfl
@[simp] theorem modFn_port (s : State) (f : Fn) (g : FnState → FnState) : (s.modFn f g).port = s.port := by cases f <;> rfl
@[simp] theorem modFn_sram (s : State) (f : Fn) (g : FnState → FnState) : (s.modFn f g).sram = s.sram := by cases f <;> rfl
@[simp] theorem modFn_movesThisEpoch (s : State) (f : Fn) (g : FnState → FnState) : (s.modFn f g).movesThisEpoch = s.movesThisEpoch := by cases f <;> rfl
@[simp] theorem modFn_epochFrame (s : State) (f : Fn) (g : FnState → FnState) : (s.modFn f g).epochFrame = s.epochFrame := by cases f <;> rfl
@[simp] theorem modFn_freeCtr (s : State) (f : Fn) (g : FnState → FnState) : (s.modFn f g).freeCtr = s.freeCtr := by cases f <;> rfl
@[simp] theorem modFn_bootAt (s : State) (f : Fn) (g : FnState → FnState) : (s.modFn f g).bootAt = s.bootAt := by cases f <;> rfl
@[simp] theorem modFn_booted (s : State) (f : Fn) (g : FnState → FnState) : (s.modFn f g).booted = s.booted := by cases f <;> rfl
@[simp] theorem modFn_starting (s : State) (f : Fn) (g : FnState → FnState) : (s.modFn f g).starting = s.starting := by cases f <;> rfl
@[simp] theorem modFn_out (s : State) (f : Fn) (g : FnState → FnState) : (s.modFn f g).out = s.out := by cases f <;> rfl
@[simp] theorem modFn_pending (s : State) (f : Fn) (g : FnState → FnState) : (s.modFn f g).pending = s.pending := by cases f <;> rfl

/-! ## sendMsix -/

@[simp] theorem sendMsix_fc (s : State) (f : Fn) (v : Nat) : (sendMsix s f v).fc = s.fc := by simp only [sendMsix]; split; rfl; exact setFn_fc _ _ _
@[simp] theorem sendMsix_tt (s : State) (f : Fn) (v : Nat) : (sendMsix s f v).tt = s.tt := by simp only [sendMsix]; split; rfl; exact setFn_tt _ _ _
@[simp] theorem sendMsix_readyAt (s : State) (f : Fn) (v : Nat) : (sendMsix s f v).readyAt = s.readyAt := by simp only [sendMsix]; split; rfl; exact setFn_readyAt _ _ _
@[simp] theorem sendMsix_role (s : State) (f : Fn) (v : Nat) : (sendMsix s f v).role = s.role := by simp only [sendMsix]; split; rfl; exact setFn_role _ _ _
@[simp] theorem sendMsix_neverFramed (s : State) (f : Fn) (v : Nat) : (sendMsix s f v).neverFramed = s.neverFramed := by simp only [sendMsix]; split; rfl; exact setFn_neverFramed _ _ _
@[simp] theorem sendMsix_hubNo (s : State) (f : Fn) (v : Nat) : (sendMsix s f v).hubNo = s.hubNo := by simp only [sendMsix]; split; rfl; exact setFn_hubNo _ _ _
@[simp] theorem sendMsix_regs (s : State) (f : Fn) (v : Nat) : (sendMsix s f v).regs = s.regs := by simp only [sendMsix]; split; rfl; exact setFn_regs _ _ _
@[simp] theorem sendMsix_shadows (s : State) (f : Fn) (v : Nat) : (sendMsix s f v).shadows = s.shadows := by simp only [sendMsix]; split; rfl; exact setFn_shadows _ _ _
@[simp] theorem sendMsix_latches (s : State) (f : Fn) (v : Nat) : (sendMsix s f v).latches = s.latches := by simp only [sendMsix]; split; rfl; exact setFn_latches _ _ _
@[simp] theorem sendMsix_intFn (s : State) (f : Fn) (v : Nat) : (sendMsix s f v).intFn = s.intFn := by simp only [sendMsix]; split; rfl; exact setFn_intFn _ _ _
@[simp] theorem sendMsix_cen (s : State) (f : Fn) (v : Nat) : (sendMsix s f v).cen = s.cen := by simp only [sendMsix]; split; rfl; exact setFn_cen _ _ _
@[simp] theorem sendMsix_badRegs (s : State) (f : Fn) (v : Nat) : (sendMsix s f v).badRegs = s.badRegs := by simp only [sendMsix]; split; rfl; exact setFn_badRegs _ _ _
@[simp] theorem sendMsix_stuckRegs (s : State) (f : Fn) (v : Nat) : (sendMsix s f v).stuckRegs = s.stuckRegs := by simp only [sendMsix]; split; rfl; exact setFn_stuckRegs _ _ _
@[simp] theorem sendMsix_trngBad (s : State) (f : Fn) (v : Nat) : (sendMsix s f v).trngBad = s.trngBad := by simp only [sendMsix]; split; rfl; exact setFn_trngBad _ _ _
@[simp] theorem sendMsix_locked (s : State) (f : Fn) (v : Nat) : (sendMsix s f v).locked = s.locked := by simp only [sendMsix]; split; rfl; exact setFn_locked _ _ _
@[simp] theorem sendMsix_rings (s : State) (f : Fn) (v : Nat) : (sendMsix s f v).rings = s.rings := by simp only [sendMsix]; split; rfl; exact setFn_rings _ _ _
@[simp] theorem sendMsix_lease (s : State) (f : Fn) (v : Nat) : (sendMsix s f v).lease = s.lease := by simp only [sendMsix]; split; rfl; exact setFn_lease _ _ _
@[simp] theorem sendMsix_flight (s : State) (f : Fn) (v : Nat) : (sendMsix s f v).flight = s.flight := by simp only [sendMsix]; split; rfl; exact setFn_flight _ _ _
@[simp] theorem sendMsix_cqWait (s : State) (f : Fn) (v : Nat) : (sendMsix s f v).cqWait = s.cqWait := by simp only [sendMsix]; split; rfl; exact setFn_cqWait _ _ _
@[simp] theorem sendMsix_nextId (s : State) (f : Fn) (v : Nat) : (sendMsix s f v).nextId = s.nextId := by simp only [sendMsix]; split; rfl; exact setFn_nextId _ _ _
@[simp] theorem sendMsix_seqs (s : State) (f : Fn) (v : Nat) : (sendMsix s f v).seqs = s.seqs := by simp only [sendMsix]; split; rfl; exact setFn_seqs _ _ _
@[simp] theorem sendMsix_seqOwn (s : State) (f : Fn) (v : Nat) : (sendMsix s f v).seqOwn = s.seqOwn := by simp only [sendMsix]; split; rfl; exact setFn_seqOwn _ _ _
@[simp] theorem sendMsix_pool (s : State) (f : Fn) (v : Nat) : (sendMsix s f v).pool = s.pool := by simp only [sendMsix]; split; rfl; exact setFn_pool _ _ _
@[simp] theorem sendMsix_poolMerged (s : State) (f : Fn) (v : Nat) : (sendMsix s f v).poolMerged = s.poolMerged := by simp only [sendMsix]; split; rfl; exact setFn_poolMerged _ _ _
@[simp] theorem sendMsix_catalogue (s : State) (f : Fn) (v : Nat) : (sendMsix s f v).catalogue = s.catalogue := by simp only [sendMsix]; split; rfl; exact setFn_catalogue _ _ _
@[simp] theorem sendMsix_nodes (s : State) (f : Fn) (v : Nat) : (sendMsix s f v).nodes = s.nodes := by simp only [sendMsix]; split; rfl; exact setFn_nodes _ _ _
@[simp] theorem sendMsix_eps (s : State) (f : Fn) (v : Nat) : (sendMsix s f v).eps = s.eps := by simp only [sendMsix]; split; rfl; exact setFn_eps _ _ _
@[simp] theorem sendMsix_segs (s : State) (f : Fn) (v : Nat) : (sendMsix s f v).segs = s.segs := by simp only [sendMsix]; split; rfl; exact setFn_segs _ _ _
@[simp] theorem sendMsix_links (s : State) (f : Fn) (v : Nat) : (sendMsix s f v).links = s.links := by simp only [sendMsix]; split; rfl; exact setFn_links _ _ _
@[simp] theorem sendMsix_upHeld (s : State) (f : Fn) (v : Nat) : (sendMsix s f v).upHeld = s.upHeld := by simp only [sendMsix]; split; rfl; exact setFn_upHeld _ _ _
@[simp] theorem sendMsix_orphans (s : State) (f : Fn) (v : Nat) : (sendMsix s f v).orphans = s.orphans := by simp only [sendMsix]; split; rfl; exact setFn_orphans _ _ _
@[simp] theorem sendMsix_shelves0 (s : State) (f : Fn) (v : Nat) : (sendMsix s f v).shelves0 = s.shelves0 := by simp only [sendMsix]; split; rfl; exact setFn_shelves0 _ _ _
@[simp] theorem sendMsix_shelves1 (s : State) (f : Fn) (v : Nat) : (sendMsix s f v).shelves1 = s.shelves1 := by simp only [sendMsix]; split; rfl; exact setFn_shelves1 _ _ _
@[simp] theorem sendMsix_later (s : State) (f : Fn) (v : Nat) : (sendMsix s f v).later = s.later := by simp only [sendMsix]; split; rfl; exact setFn_later _ _ _
@[simp] theorem sendMsix_vacated (s : State) (f : Fn) (v : Nat) : (sendMsix s f v).vacated = s.vacated := by simp only [sendMsix]; split; rfl; exact setFn_vacated _ _ _
@[simp] theorem sendMsix_rules (s : State) (f : Fn) (v : Nat) : (sendMsix s f v).rules = s.rules := by simp only [sendMsix]; split; rfl; exact setFn_rules _ _ _
@[simp] theorem sendMsix_branchRules (s : State) (f : Fn) (v : Nat) : (sendMsix s f v).branchRules = s.branchRules := by simp only [sendMsix]; split; rfl; exact setFn_branchRules _ _ _
@[simp] theorem sendMsix_ruleReqs (s : State) (f : Fn) (v : Nat) : (sendMsix s f v).ruleReqs = s.ruleReqs := by simp only [sendMsix]; split; rfl; exact setFn_ruleReqs _ _ _
@[simp] theorem sendMsix_deposits (s : State) (f : Fn) (v : Nat) : (sendMsix s f v).deposits = s.deposits := by simp only [sendMsix]; split; rfl; exact setFn_deposits _ _ _
@[simp] theorem sendMsix_subs (s : State) (f : Fn) (v : Nat) : (sendMsix s f v).subs = s.subs := by simp only [sendMsix]; split; rfl; exact setFn_subs _ _ _
@[simp] theorem sendMsix_mirror (s : State) (f : Fn) (v : Nat) : (sendMsix s f v).mirror = s.mirror := by simp only [sendMsix]; split; rfl; exact setFn_mirror _ _ _
@[simp] theorem sendMsix_evals (s : State) (f : Fn) (v : Nat) : (sendMsix s f v).evals = s.evals := by simp only [sendMsix]; split; rfl; exact setFn_evals _ _ _
@[simp] theorem sendMsix_slotEvals (s : State) (f : Fn) (v : Nat) : (sendMsix s f v).slotEvals = s.slotEvals := by simp only [sendMsix]; split; rfl; exact setFn_slotEvals _ _ _
@[simp] theorem sendMsix_gustActs (s : State) (f : Fn) (v : Nat) : (sendMsix s f v).gustActs = s.gustActs := by simp only [sendMsix]; split; rfl; exact setFn_gustActs _ _ _
@[simp] theorem sendMsix_spws (s : State) (f : Fn) (v : Nat) : (sendMsix s f v).spws = s.spws := by simp only [sendMsix]; split; rfl; exact setFn_spws _ _ _
@[simp] theorem sendMsix_pw (s : State) (f : Fn) (v : Nat) : (sendMsix s f v).pw = s.pw := by simp only [sendMsix]; split; rfl; exact setFn_pw _ _ _
@[simp] theorem sendMsix_folio (s : State) (f : Fn) (v : Nat) : (sendMsix s f v).folio = s.folio := by simp only [sendMsix]; split; rfl; exact setFn_folio _ _ _
@[simp] theorem sendMsix_nvm (s : State) (f : Fn) (v : Nat) : (sendMsix s f v).nvm = s.nvm := by simp only [sendMsix]; split; rfl; exact setFn_nvm _ _ _
@[simp] theorem sendMsix_port (s : State) (f : Fn) (v : Nat) : (sendMsix s f v).port = s.port := by simp only [sendMsix]; split; rfl; exact setFn_port _ _ _
@[simp] theorem sendMsix_sram (s : State) (f : Fn) (v : Nat) : (sendMsix s f v).sram = s.sram := by simp only [sendMsix]; split; rfl; exact setFn_sram _ _ _
@[simp] theorem sendMsix_movesThisEpoch (s : State) (f : Fn) (v : Nat) : (sendMsix s f v).movesThisEpoch = s.movesThisEpoch := by simp only [sendMsix]; split; rfl; exact setFn_movesThisEpoch _ _ _
@[simp] theorem sendMsix_epochFrame (s : State) (f : Fn) (v : Nat) : (sendMsix s f v).epochFrame = s.epochFrame := by simp only [sendMsix]; split; rfl; exact setFn_epochFrame _ _ _
@[simp] theorem sendMsix_freeCtr (s : State) (f : Fn) (v : Nat) : (sendMsix s f v).freeCtr = s.freeCtr := by simp only [sendMsix]; split; rfl; exact setFn_freeCtr _ _ _
@[simp] theorem sendMsix_bootAt (s : State) (f : Fn) (v : Nat) : (sendMsix s f v).bootAt = s.bootAt := by simp only [sendMsix]; split; rfl; exact setFn_bootAt _ _ _
@[simp] theorem sendMsix_booted (s : State) (f : Fn) (v : Nat) : (sendMsix s f v).booted = s.booted := by simp only [sendMsix]; split; rfl; exact setFn_booted _ _ _
@[simp] theorem sendMsix_starting (s : State) (f : Fn) (v : Nat) : (sendMsix s f v).starting = s.starting := by simp only [sendMsix]; split; rfl; exact setFn_starting _ _ _
@[simp] theorem sendMsix_pending (s : State) (f : Fn) (v : Nat) : (sendMsix s f v).pending = s.pending := by simp only [sendMsix]; split; rfl; exact setFn_pending _ _ _

/-! ## raise -/

@[simp] theorem raise_fc (s : State) (a b e : Nat) : (raise s a b e).fc = s.fc := by simp only [raise]; split; exact sendMsix_fc _ _ _; rfl
@[simp] theorem raise_tt (s : State) (a b e : Nat) : (raise s a b e).tt = s.tt := by simp only [raise]; split; exact sendMsix_tt _ _ _; rfl
@[simp] theorem raise_readyAt (s : State) (a b e : Nat) : (raise s a b e).readyAt = s.readyAt := by simp only [raise]; split; exact sendMsix_readyAt _ _ _; rfl
@[simp] theorem raise_role (s : State) (a b e : Nat) : (raise s a b e).role = s.role := by simp only [raise]; split; exact sendMsix_role _ _ _; rfl
@[simp] theorem raise_neverFramed (s : State) (a b e : Nat) : (raise s a b e).neverFramed = s.neverFramed := by simp only [raise]; split; exact sendMsix_neverFramed _ _ _; rfl
@[simp] theorem raise_hubNo (s : State) (a b e : Nat) : (raise s a b e).hubNo = s.hubNo := by simp only [raise]; split; exact sendMsix_hubNo _ _ _; rfl
@[simp] theorem raise_shadows (s : State) (a b e : Nat) : (raise s a b e).shadows = s.shadows := by simp only [raise]; split; exact sendMsix_shadows _ _ _; rfl
@[simp] theorem raise_latches (s : State) (a b e : Nat) : (raise s a b e).latches = s.latches := by simp only [raise]; split; exact sendMsix_latches _ _ _; rfl
@[simp] theorem raise_intFn (s : State) (a b e : Nat) : (raise s a b e).intFn = s.intFn := by simp only [raise]; split; exact sendMsix_intFn _ _ _; rfl
@[simp] theorem raise_cen (s : State) (a b e : Nat) : (raise s a b e).cen = s.cen := by simp only [raise]; split; exact sendMsix_cen _ _ _; rfl
@[simp] theorem raise_badRegs (s : State) (a b e : Nat) : (raise s a b e).badRegs = s.badRegs := by simp only [raise]; split; exact sendMsix_badRegs _ _ _; rfl
@[simp] theorem raise_stuckRegs (s : State) (a b e : Nat) : (raise s a b e).stuckRegs = s.stuckRegs := by simp only [raise]; split; exact sendMsix_stuckRegs _ _ _; rfl
@[simp] theorem raise_trngBad (s : State) (a b e : Nat) : (raise s a b e).trngBad = s.trngBad := by simp only [raise]; split; exact sendMsix_trngBad _ _ _; rfl
@[simp] theorem raise_locked (s : State) (a b e : Nat) : (raise s a b e).locked = s.locked := by simp only [raise]; split; exact sendMsix_locked _ _ _; rfl
@[simp] theorem raise_rings (s : State) (a b e : Nat) : (raise s a b e).rings = s.rings := by simp only [raise]; split; exact sendMsix_rings _ _ _; rfl
@[simp] theorem raise_lease (s : State) (a b e : Nat) : (raise s a b e).lease = s.lease := by simp only [raise]; split; exact sendMsix_lease _ _ _; rfl
@[simp] theorem raise_flight (s : State) (a b e : Nat) : (raise s a b e).flight = s.flight := by simp only [raise]; split; exact sendMsix_flight _ _ _; rfl
@[simp] theorem raise_cqWait (s : State) (a b e : Nat) : (raise s a b e).cqWait = s.cqWait := by simp only [raise]; split; exact sendMsix_cqWait _ _ _; rfl
@[simp] theorem raise_nextId (s : State) (a b e : Nat) : (raise s a b e).nextId = s.nextId := by simp only [raise]; split; exact sendMsix_nextId _ _ _; rfl
@[simp] theorem raise_seqs (s : State) (a b e : Nat) : (raise s a b e).seqs = s.seqs := by simp only [raise]; split; exact sendMsix_seqs _ _ _; rfl
@[simp] theorem raise_seqOwn (s : State) (a b e : Nat) : (raise s a b e).seqOwn = s.seqOwn := by simp only [raise]; split; exact sendMsix_seqOwn _ _ _; rfl
@[simp] theorem raise_pool (s : State) (a b e : Nat) : (raise s a b e).pool = s.pool := by simp only [raise]; split; exact sendMsix_pool _ _ _; rfl
@[simp] theorem raise_poolMerged (s : State) (a b e : Nat) : (raise s a b e).poolMerged = s.poolMerged := by simp only [raise]; split; exact sendMsix_poolMerged _ _ _; rfl
@[simp] theorem raise_catalogue (s : State) (a b e : Nat) : (raise s a b e).catalogue = s.catalogue := by simp only [raise]; split; exact sendMsix_catalogue _ _ _; rfl
@[simp] theorem raise_nodes (s : State) (a b e : Nat) : (raise s a b e).nodes = s.nodes := by simp only [raise]; split; exact sendMsix_nodes _ _ _; rfl
@[simp] theorem raise_eps (s : State) (a b e : Nat) : (raise s a b e).eps = s.eps := by simp only [raise]; split; exact sendMsix_eps _ _ _; rfl
@[simp] theorem raise_segs (s : State) (a b e : Nat) : (raise s a b e).segs = s.segs := by simp only [raise]; split; exact sendMsix_segs _ _ _; rfl
@[simp] theorem raise_links (s : State) (a b e : Nat) : (raise s a b e).links = s.links := by simp only [raise]; split; exact sendMsix_links _ _ _; rfl
@[simp] theorem raise_upHeld (s : State) (a b e : Nat) : (raise s a b e).upHeld = s.upHeld := by simp only [raise]; split; exact sendMsix_upHeld _ _ _; rfl
@[simp] theorem raise_orphans (s : State) (a b e : Nat) : (raise s a b e).orphans = s.orphans := by simp only [raise]; split; exact sendMsix_orphans _ _ _; rfl
@[simp] theorem raise_shelves0 (s : State) (a b e : Nat) : (raise s a b e).shelves0 = s.shelves0 := by simp only [raise]; split; exact sendMsix_shelves0 _ _ _; rfl
@[simp] theorem raise_shelves1 (s : State) (a b e : Nat) : (raise s a b e).shelves1 = s.shelves1 := by simp only [raise]; split; exact sendMsix_shelves1 _ _ _; rfl
@[simp] theorem raise_later (s : State) (a b e : Nat) : (raise s a b e).later = s.later := by simp only [raise]; split; exact sendMsix_later _ _ _; rfl
@[simp] theorem raise_vacated (s : State) (a b e : Nat) : (raise s a b e).vacated = s.vacated := by simp only [raise]; split; exact sendMsix_vacated _ _ _; rfl
@[simp] theorem raise_rules (s : State) (a b e : Nat) : (raise s a b e).rules = s.rules := by simp only [raise]; split; exact sendMsix_rules _ _ _; rfl
@[simp] theorem raise_branchRules (s : State) (a b e : Nat) : (raise s a b e).branchRules = s.branchRules := by simp only [raise]; split; exact sendMsix_branchRules _ _ _; rfl
@[simp] theorem raise_ruleReqs (s : State) (a b e : Nat) : (raise s a b e).ruleReqs = s.ruleReqs := by simp only [raise]; split; exact sendMsix_ruleReqs _ _ _; rfl
@[simp] theorem raise_deposits (s : State) (a b e : Nat) : (raise s a b e).deposits = s.deposits := by simp only [raise]; split; exact sendMsix_deposits _ _ _; rfl
@[simp] theorem raise_subs (s : State) (a b e : Nat) : (raise s a b e).subs = s.subs := by simp only [raise]; split; exact sendMsix_subs _ _ _; rfl
@[simp] theorem raise_mirror (s : State) (a b e : Nat) : (raise s a b e).mirror = s.mirror := by simp only [raise]; split; exact sendMsix_mirror _ _ _; rfl
@[simp] theorem raise_evals (s : State) (a b e : Nat) : (raise s a b e).evals = s.evals := by simp only [raise]; split; exact sendMsix_evals _ _ _; rfl
@[simp] theorem raise_slotEvals (s : State) (a b e : Nat) : (raise s a b e).slotEvals = s.slotEvals := by simp only [raise]; split; exact sendMsix_slotEvals _ _ _; rfl
@[simp] theorem raise_gustActs (s : State) (a b e : Nat) : (raise s a b e).gustActs = s.gustActs := by simp only [raise]; split; exact sendMsix_gustActs _ _ _; rfl
@[simp] theorem raise_spws (s : State) (a b e : Nat) : (raise s a b e).spws = s.spws := by simp only [raise]; split; exact sendMsix_spws _ _ _; rfl
@[simp] theorem raise_pw (s : State) (a b e : Nat) : (raise s a b e).pw = s.pw := by simp only [raise]; split; exact sendMsix_pw _ _ _; rfl
@[simp] theorem raise_folio (s : State) (a b e : Nat) : (raise s a b e).folio = s.folio := by simp only [raise]; split; exact sendMsix_folio _ _ _; rfl
@[simp] theorem raise_nvm (s : State) (a b e : Nat) : (raise s a b e).nvm = s.nvm := by simp only [raise]; split; exact sendMsix_nvm _ _ _; rfl
@[simp] theorem raise_port (s : State) (a b e : Nat) : (raise s a b e).port = s.port := by simp only [raise]; split; exact sendMsix_port _ _ _; rfl
@[simp] theorem raise_sram (s : State) (a b e : Nat) : (raise s a b e).sram = s.sram := by simp only [raise]; split; exact sendMsix_sram _ _ _; rfl
@[simp] theorem raise_movesThisEpoch (s : State) (a b e : Nat) : (raise s a b e).movesThisEpoch = s.movesThisEpoch := by simp only [raise]; split; exact sendMsix_movesThisEpoch _ _ _; rfl
@[simp] theorem raise_epochFrame (s : State) (a b e : Nat) : (raise s a b e).epochFrame = s.epochFrame := by simp only [raise]; split; exact sendMsix_epochFrame _ _ _; rfl
@[simp] theorem raise_freeCtr (s : State) (a b e : Nat) : (raise s a b e).freeCtr = s.freeCtr := by simp only [raise]; split; exact sendMsix_freeCtr _ _ _; rfl
@[simp] theorem raise_bootAt (s : State) (a b e : Nat) : (raise s a b e).bootAt = s.bootAt := by simp only [raise]; split; exact sendMsix_bootAt _ _ _; rfl
@[simp] theorem raise_booted (s : State) (a b e : Nat) : (raise s a b e).booted = s.booted := by simp only [raise]; split; exact sendMsix_booted _ _ _; rfl
@[simp] theorem raise_starting (s : State) (a b e : Nat) : (raise s a b e).starting = s.starting := by simp only [raise]; split; exact sendMsix_starting _ _ _; rfl
@[simp] theorem raise_pending (s : State) (a b e : Nat) : (raise s a b e).pending = s.pending := by simp only [raise]; split; exact sendMsix_pending _ _ _; rfl

/-! ## takeDesc -/

@[simp] theorem takeDesc_fc (s : State) (x : Desc) : (takeDesc s x).fc = s.fc := by simp [takeDesc]
@[simp] theorem takeDesc_tt (s : State) (x : Desc) : (takeDesc s x).tt = s.tt := by simp [takeDesc]
@[simp] theorem takeDesc_role (s : State) (x : Desc) : (takeDesc s x).role = s.role := by simp [takeDesc]
@[simp] theorem takeDesc_hubNo (s : State) (x : Desc) : (takeDesc s x).hubNo = s.hubNo := by simp [takeDesc]
@[simp] theorem takeDesc_lease (s : State) (x : Desc) : (takeDesc s x).lease = s.lease := by simp [takeDesc]
@[simp] theorem takeDesc_nodes (s : State) (x : Desc) : (takeDesc s x).nodes = s.nodes := by simp [takeDesc]
@[simp] theorem takeDesc_eps (s : State) (x : Desc) : (takeDesc s x).eps = s.eps := by simp [takeDesc]
@[simp] theorem takeDesc_segs (s : State) (x : Desc) : (takeDesc s x).segs = s.segs := by simp [takeDesc]
@[simp] theorem takeDesc_links (s : State) (x : Desc) : (takeDesc s x).links = s.links := by simp [takeDesc]
@[simp] theorem takeDesc_vacated (s : State) (x : Desc) : (takeDesc s x).vacated = s.vacated := by simp [takeDesc]
@[simp] theorem takeDesc_pw (s : State) (x : Desc) : (takeDesc s x).pw = s.pw := by simp [takeDesc]
@[simp] theorem takeDesc_out (s : State) (x : Desc) : (takeDesc s x).out = s.out := by simp [takeDesc]
@[simp] theorem takeDesc_pending (s : State) (x : Desc) : (takeDesc s x).pending = s.pending := by simp [takeDesc]

end Sys2Proof.Laws
end

