-- ==== Sys2Proof/Laws/Table.lean ====
section
/-! SUPPORT. Laws/Table: reading after writing a sparse table, and the canonical form that every operation keeps. -/
namespace Sys2Proof.Laws
open Sys2Proof.Machine

variable {α : Type}

theorem risingFrom_le {lo lo' : Nat} : ∀ {t : Table α}, lo' ≤ lo → Table.risingFrom lo t = true → Table.risingFrom lo' t = true
  | [], _, _ => rfl
  | (k, v) :: r, h, hr => by
    simp only [Table.risingFrom, Bool.and_eq_true, decide_eq_true_eq] at hr ⊢
    exact ⟨by omega, hr.2⟩

/-- A key below every key of a table is not listed. -/
theorem find_of_risingFrom {lo i : Nat} : ∀ {t : Table α}, Table.risingFrom lo t = true → i < lo → t.find i = none
  | [], _, _ => rfl
  | (k, v) :: r, hr, h => by
    simp only [Table.risingFrom, Bool.and_eq_true, decide_eq_true_eq] at hr
    simp only [Table.find]
    rw [if_neg (by omega), if_pos (by omega)]

@[simp] theorem find_insert_self (i : Nat) (v : α) : ∀ t : Table α, (t.insert i v).find i = some v
  | [] => by simp [Table.insert, Table.find]
  | (k, w) :: r => by
    simp only [Table.insert]
    split
    · simp [Table.find]
    · split
      · simp [Table.find]
      · rename_i h1 h2
        simp only [Table.find]
        rw [if_neg h1, if_neg h2, find_insert_self i v r]

theorem find_insert_ne {i j : Nat} (v : α) (h : j ≠ i) : ∀ t : Table α, (t.insert i v).find j = t.find j
  | [] => by
    simp only [Table.insert, Table.find]
    rw [if_neg (Ne.symm h)]; split <;> rfl
  | (k, w) :: r => by
    simp only [Table.insert]
    split
    · subst_vars
      simp only [Table.find]
      rw [if_neg (Ne.symm h), if_neg (Ne.symm h)]
    · split
      · rename_i h1 h2
        simp only [Table.find]
        rw [if_neg (Ne.symm h)]
        split
        · rw [if_neg (by omega), if_pos (by omega)]
        · rfl
      · simp only [Table.find, find_insert_ne v h r]

theorem find_erase_ne {i j : Nat} (h : j ≠ i) : ∀ {lo : Nat} {t : Table α}, Table.risingFrom lo t = true →
    (t.erase i).find j = t.find j
  | _, [], _ => rfl
  | lo, (k, w) :: r, hr => by
    simp only [Table.risingFrom, Bool.and_eq_true, decide_eq_true_eq] at hr
    simp only [Table.erase]
    split
    · subst_vars
      simp only [Table.find]
      rw [if_neg (Ne.symm h)]
      split
      · exact find_of_risingFrom hr.2 (by omega)
      · rfl
    · split
      · rfl
      · simp only [Table.find, find_erase_ne h hr.2]

theorem find_erase_self {i : Nat} : ∀ {lo : Nat} {t : Table α}, Table.risingFrom lo t = true → (t.erase i).find i = none
  | _, [], _ => rfl
  | lo, (k, w) :: r, hr => by
    simp only [Table.risingFrom, Bool.and_eq_true, decide_eq_true_eq] at hr
    simp only [Table.erase]
    split
    · subst_vars
      exact find_of_risingFrom hr.2 (by omega)
    · split
      · rename_i h1 h2
        simp only [Table.find]; rw [if_neg h1, if_pos h2]
      · rename_i h1 h2
        simp only [Table.find]; rw [if_neg h1, if_neg h2, find_erase_self hr.2]

theorem risingFrom_insert {i : Nat} (v : α) : ∀ {lo : Nat} {t : Table α}, Table.risingFrom lo t = true → lo ≤ i →
    Table.risingFrom lo (t.insert i v) = true
  | lo, [], _, h => by simp [Table.insert, Table.risingFrom, h]
  | lo, (k, w) :: r, hr, h => by
    have hr' := hr
    simp only [Table.risingFrom, Bool.and_eq_true, decide_eq_true_eq] at hr
    simp only [Table.insert]
    split
    · subst_vars
      simp only [Table.risingFrom, Bool.and_eq_true, decide_eq_true_eq]; exact ⟨h, hr.2⟩
    · split
      · simp only [Table.risingFrom, Bool.and_eq_true, decide_eq_true_eq]; exact ⟨h, by omega, hr.2⟩
      · simp only [Table.risingFrom, Bool.and_eq_true, decide_eq_true_eq]
        exact ⟨hr.1, risingFrom_insert v hr.2 (by omega)⟩

theorem risingFrom_erase {i : Nat} : ∀ {lo : Nat} {t : Table α}, Table.risingFrom lo t = true →
    Table.risingFrom lo (t.erase i) = true
  | _, [], _ => rfl
  | lo, (k, w) :: r, hr => by
    have hr' := hr
    simp only [Table.risingFrom, Bool.and_eq_true, decide_eq_true_eq] at hr
    simp only [Table.erase]
    split
    · exact risingFrom_le (by omega) hr.2
    · split
      · exact hr'
      · simp only [Table.risingFrom, Bool.and_eq_true, decide_eq_true_eq]
        exact ⟨hr.1, risingFrom_erase hr.2⟩

theorem wf_insert (t : Table α) (i : Nat) (v : α) (h : t.wf = true) : (t.insert i v).wf = true :=
  risingFrom_insert v h (Nat.zero_le i)

theorem wf_erase (t : Table α) (i : Nat) (h : t.wf = true) : (t.erase i).wf = true := risingFrom_erase h

theorem wf_put [DecidableEq α] (t : Table α) (i : Nat) (d v : α) (h : t.wf = true) : (t.put i d v).wf = true := by
  simp only [Table.put]
  split
  · exact wf_erase t i h
  · exact wf_insert t i v h

/-- What is put under a key is read there. -/
theorem getD_put_self [DecidableEq α] (t : Table α) (i : Nat) (d v : α) (h : t.wf = true) : (t.put i d v).getD i d = v := by
  simp only [Table.put, Table.getD]
  split
  · rename_i e
    rw [find_erase_self h, e]; rfl
  · rw [find_insert_self]; rfl

/-- No other key is touched. -/
theorem find_put_ne [DecidableEq α] (t : Table α) {i j : Nat} (d v : α) (h : t.wf = true) (hj : j ≠ i) :
    (t.put i d v).find j = t.find j := by
  simp only [Table.put]
  split
  · exact find_erase_ne hj h
  · exact find_insert_ne v hj t

theorem getD_put_ne [DecidableEq α] (t : Table α) {i j : Nat} (d e v : α) (h : t.wf = true) (hj : j ≠ i) :
    (t.put i d v).getD j e = t.getD j e := by
  simp only [Table.getD, find_put_ne t d v h hj]

theorem risingFrom_keep (p : Nat → α → Bool) : ∀ {lo : Nat} {t : Table α}, Table.risingFrom lo t = true →
    Table.risingFrom lo (t.keep p) = true
  | _, [], _ => rfl
  | lo, (k, w) :: r, hr => by
    simp only [Table.risingFrom, Bool.and_eq_true, decide_eq_true_eq] at hr
    simp only [Table.keep, List.filter_cons]
    split
    · simp only [Table.risingFrom, Bool.and_eq_true, decide_eq_true_eq]
      exact ⟨hr.1, risingFrom_keep p hr.2⟩
    · exact risingFrom_le (by omega) (risingFrom_keep p hr.2)

theorem wf_keep (t : Table α) (p : Nat → α → Bool) (h : t.wf = true) : (t.keep p).wf = true := risingFrom_keep p h

end Sys2Proof.Laws
end

