-- ==== Sys2Proof/Laws/Ops.lean ====
section
/-! SUPPORT. Laws/Ops: reading after writing, for registers and contexts; what raising a status bit does to registers; and
what the fetch of a descriptor does. -/
namespace Sys2Proof.Laws
open Sys2Proof.Machine Sys2Proof.Safety

/-! ## Registers -/

theorem rd_wr_self (s : State) (a : Nat) (w : Word) (h : s.regs.wf = true) : (s.wr a w).rd a = w :=
  getD_put_self _ _ _ _ h

theorem rd_wr_ne (s : State) {a x : Nat} (w : Word) (h : s.regs.wf = true) (hx : x ≠ a) : (s.wr a w).rd x = s.rd x :=
  getD_put_ne _ _ _ _ h hx

theorem wf_wr (s : State) (a : Nat) (w : Word) (h : s.regs.wf = true) : (s.wr a w).regs.wf = true := wf_put _ _ _ _ h

theorem wf_setFld (s : State) (a : Nat) (f : BitRange) (v : Nat) (h : s.regs.wf = true) : (s.setFld a f v).regs.wf = true :=
  wf_wr s a _ h

theorem wf_bump (s : State) (a n : Nat) (h : s.regs.wf = true) : (s.bump a n).regs.wf = true := wf_wr s a _ h

/-- Two states with one register table read alike. -/
theorem rd_congr {s u : State} (h : s.regs = u.regs) (a : Nat) : s.rd a = u.rd a := by simp only [State.rd, h]

theorem sendMsix_rd (s : State) (f : Fn) (v a : Nat) : (sendMsix s f v).rd a = s.rd a := rd_congr (sendMsix_regs s f v) a

/-- Raising a status bit changes no register but its status register. -/
theorem rd_raise_ne (s : State) (st bit en : Nat) {a : Nat} (h : s.regs.wf = true) (ha : a ≠ st) :
    (raise s st bit en).rd a = s.rd a := by
  simp only [raise]
  split
  · rw [sendMsix_rd, rd_wr_ne s _ h ha]
  · rw [rd_wr_ne s _ h ha]

theorem wf_raise (s : State) (st bit en : Nat) (h : s.regs.wf = true) : (raise s st bit en).regs.wf = true := by
  simp only [raise]
  split
  · rw [sendMsix_regs]; exact wf_wr _ _ _ h
  · exact wf_wr _ _ _ h

/-! ## Contexts -/

theorem ep_setEp_self (s : State) (k : Nat) (c : EpCtx) (h : s.eps.wf = true) : (s.setEp k c).ep k = c :=
  getD_put_self _ _ _ _ h

theorem ep_setEp_ne (s : State) {k j : Nat} (c : EpCtx) (h : s.eps.wf = true) (hj : j ≠ k) : (s.setEp k c).ep j = s.ep j :=
  getD_put_ne _ _ _ _ h hj

theorem node_setNode_self (s : State) (k : Nat) (c : Node) (h : s.nodes.wf = true) : (s.setNode k c).node k = c :=
  getD_put_self _ _ _ _ h

theorem node_setNode_ne (s : State) {k j : Nat} (c : Node) (h : s.nodes.wf = true) (hj : j ≠ k) : (s.setNode k c).node j = s.node j :=
  getD_put_ne _ _ _ _ h hj

theorem seg_setSeg_self (s : State) (k : Nat) (c : Seg) (h : s.segs.wf = true) : (s.setSeg k c).seg k = c :=
  getD_put_self _ _ _ _ h

theorem seg_setSeg_ne (s : State) {k j : Nat} (c : Seg) (h : s.segs.wf = true) (hj : j ≠ k) : (s.setSeg k c).seg j = s.seg j :=
  getD_put_ne _ _ _ _ h hj

theorem link_setLink_self (s : State) (k : Nat) (c : Link) (h : s.links.wf = true) : (s.setLink k c).link k = c :=
  getD_put_self _ _ _ _ h

theorem link_setLink_ne (s : State) {k j : Nat} (c : Link) (h : s.links.wf = true) (hj : j ≠ k) : (s.setLink k c).link j = s.link j :=
  getD_put_ne _ _ _ _ h hj

theorem spw_setSpw_self (s : State) (k : Nat) (c : Spw) (h : s.spws.wf = true) : (s.setSpw k c).spw k = c :=
  getD_put_self _ _ _ _ h

theorem spw_setSpw_ne (s : State) {k j : Nat} (c : Spw) (h : s.spws.wf = true) (hj : j ≠ k) : (s.setSpw k c).spw j = s.spw j :=
  getD_put_ne _ _ _ _ h hj

theorem rule_setRule_self (s : State) (k : Nat) (c : Rule) (h : s.rules.wf = true) : (s.setRule k c).rule k = c :=
  getD_put_self _ _ _ _ h

theorem rule_setRule_ne (s : State) {k j : Nat} (c : Rule) (h : s.rules.wf = true) (hj : j ≠ k) : (s.setRule k c).rule j = s.rule j :=
  getD_put_ne _ _ _ _ h hj

theorem ring_setRing_self (s : State) (f : Fn) (i : Nat) (r : Ring) (h : s.rings.wf = true) : (s.setRing f i r).ring f i = r :=
  getD_put_self _ _ _ _ h

theorem ring_setRing_ne (s : State) {f g : Fn} {i j : Nat} (r : Ring) (h : s.rings.wf = true) (hj : ringKey g j ≠ ringKey f i) :
    (s.setRing f i r).ring g j = s.ring g j :=
  getD_put_ne _ _ _ _ h hj

/-! ## The fetch of a descriptor (R80, R81, R83, R104, R105) -/

/-- A descriptor that is fetched and that no FENCE holds is checked in the state in which its SQ has advanced. -/
theorem fetched_checked (q : SqCmd) (b : State) (h : q.Fetches b) :
    fetched b q.d (q.rule b) q.op = checked (q.taken b) (q.desc b) q.d (q.rule b) q.op := by
  obtain ⟨open_, next, fence⟩ := h
  have hf : (q.d.fence && !fenceOpen b q.d.fn q.d.sq.toNat b.nextId) = false := by
    cases e : q.d.fence <;> simp_all
  simp only [fetched, open_, next, if_true, hf]
  rfl

end Sys2Proof.Laws
end

