-- ==== Sys2Proof/Laws/Outcome.lean ====
section
/-! SUPPORT. Laws/Outcome: what the wrappers of the meanings answer. -/
namespace Sys2Proof.Laws
open Sys2Proof.Machine Sys2Proof.Safety

@[simp] theorem whenWf_true (t : Nat) (s : State) (o : Host.Outcome State Fault Refusal) : whenWf true t s o = o := rfl

/-- A term that names nothing the hub has only moves the clock. -/
@[simp] theorem whenWf_false (t : Nat) (s : State) (o : Host.Outcome State Fault Refusal) :
    whenWf false t s o = .next (ended t s (start t s)) := rfl

theorem aoEffect_eq (t : Nat) (s : State) (f : State → State) :
    aoEffect t s f = .next (ended t s (f (start t s))) := rfl

theorem effect_awake {t : Nat} {s : State} (f : State → State) (h : awake (start t s) = true) :
    effect t s f = .next (ended t s (f (start t s))) := by
  simp [effect, aoEffect, ended, h]

/-- While the chip is off or without REFCLK_SYS only time passes. -/
theorem effect_asleep {t : Nat} {s : State} (f : State → State) (h : awake (start t s) = false) :
    effect t s f = .next (ended t s (start t s)) := by
  simp [effect, aoEffect, ended, h]

theorem timeEffect_on {t : Nat} {s : State} (f : State → State) (h : (start t s).pw.off = false) :
    timeEffect t s f = .next (ended t s (f (start t s))) := by
  simp [timeEffect, aoEffect, ended, h]

theorem tickEffect_kept {t : Nat} {s : State} {clock : State → FrameClock} (f : State → State)
    (h : clock (start t s) = (start t s).fc) :
    tickEffect t s clock f = .next (ended t s (f (start t s))) := by
  simp [tickEffect, ended, h]

/-- Everything the wrapper effect can answer. -/
theorem effect_next (t : Nat) (s : State) (f : State → State) :
    ∃ u, effect t s f = .next u ∧ u.fc = (start t s).fc ∧ u.pending = s.pending := ⟨_, rfl, rfl, rfl⟩

theorem aoEffect_next (t : Nat) (s : State) (f : State → State) :
    ∃ u, aoEffect t s f = .next u ∧ u.fc = (start t s).fc ∧ u.pending = s.pending := ⟨_, rfl, rfl, rfl⟩

theorem timeEffect_next (t : Nat) (s : State) (f : State → State) :
    ∃ u, timeEffect t s f = .next u ∧ u.fc = (start t s).fc ∧ u.pending = s.pending := ⟨_, rfl, rfl, rfl⟩

theorem tickEffect_next (t : Nat) (s : State) (clock : State → FrameClock) (f : State → State) :
    ∃ u, tickEffect t s clock f = .next u ∧ u.fc = clock (start t s) ∧ u.pending = s.pending := ⟨_, rfl, rfl, rfl⟩

@[simp] theorem ended_fc (t : Nat) (s u : State) : (ended t s u).fc = (start t s).fc := rfl
@[simp] theorem ended_pending (t : Nat) (s u : State) : (ended t s u).pending = s.pending := rfl

/-- The instant of a command: never before the one before it. -/
theorem start_now (t : Nat) (s : State) : (start t s).fc.now = max s.fc.now t := by
  simp only [start]; split <;> omega

@[simp] theorem start_frameNo (t : Nat) (s : State) : (start t s).fc.frameNo = s.fc.frameNo := rfl
@[simp] theorem start_frameStart (t : Nat) (s : State) : (start t s).fc.frameStart = s.fc.frameStart := rfl
@[simp] theorem start_slot (t : Nat) (s : State) : (start t s).fc.slot = s.fc.slot := rfl
@[simp] theorem start_regs (t : Nat) (s : State) : (start t s).regs = s.regs := rfl
@[simp] theorem start_pw (t : Nat) (s : State) : (start t s).pw = s.pw := rfl
@[simp] theorem start_role (t : Nat) (s : State) : (start t s).role = s.role := rfl
@[simp] theorem start_neverFramed (t : Nat) (s : State) : (start t s).neverFramed = s.neverFramed := rfl
@[simp] theorem start_out (t : Nat) (s : State) : (start t s).out = [] := rfl
@[simp] theorem start_pending (t : Nat) (s : State) : (start t s).pending = s.pending := rfl
@[simp] theorem start_rd (t : Nat) (s : State) (a : Nat) : (start t s).rd a = s.rd a := rfl
@[simp] theorem start_awake (t : Nat) (s : State) : awake (start t s) = awake s := rfl

end Sys2Proof.Laws
end

