-- ==== Sys2Proof/Tests/Slice0.lean ====
section
/-! SUPPORT. Tests/Slice0: terms that name nothing the hub has are refused by WellFormed; what the spec's own examples say;
  and, for every statement with
hypotheses, states and operands that meet them, at the ends of their ranges. -/
namespace Sys2Proof.Tests
open Sys2Proof.Machine Sys2Proof.Safety Sys2Proof.WellFormed

set_option maxRecDepth 8000

/-! ## Small states -/

/-- A root 2 s after the release of reset, at frame 1850, its start-up over. -/
def up : State :=
  { State.reset with fc := ⟨2000000000, 1850, 1999900000, 0⟩, booted := true, starting := false, neverFramed := false }

/-- The same hub after 70,000 s. -/
def late : State := { up with fc := ⟨70000000000000, 1850, 1999900000, 0⟩ }

/-- A branch with hub number 3 that has framed. -/
def branch : State := { up with role := 2, hubNo := 3 }

/-- A root whose host has enabled SQ 0 with one entry waiting, its CQ 256, and the FQ. -/
def host : State :=
  (((up.modFn .pf0 fun x => { x with bme := true, atomicEn := true, unmasked := [1] }).setRing .pf0 0
      { Ring.reset with st := .running, size := 16, cq := 256, weight := 1, ext := 1 }).setRing .pf0 256
      { Ring.reset with st := .running, size := 16, vector := 1 }).setRing .pf0 1536
      { Ring.reset with st := .running, size := 16, vector := 0xFFFF }

/-- The same hub in the dual-host role while PF0 holds the lease. -/
def dual : State := { host with role := 1, lease := ⟨some .pf0, true, false, 3000000000, none⟩ }

/-- A hub with segment p in a state of its power. -/
def power (st : Nat) : State := up.setFld (Reg.SPW_STATUS 47) Fld.SPW_STATUS_STATE st

/-- A hub whose segment p runs. -/
def running (p : Nat) : State := up.modSeg p fun x => { x with st := 3 }

/-- A time source in use. -/
def srcPtm : State := up.setFld Reg.TIM_SRC Fld.TIM_SRC_SOURCE 1
def srcPps : State := (up.setFld Reg.TIM_SRC Fld.TIM_SRC_SOURCE 0).modTt fun x => { x with second := some 7 }

/-- A hub at the start of a second of tree time that drives PPS_OUT. -/
def ppsOut : State :=
  (up.setFlag Reg.TIM_CTRL Fld.TIM_CTRL_PPS_OUT_EN true).modTt fun x => { x with time := 3000000000 * 65536, takenAt :=
    2000000000 }

/-- A hub that activates in the next 100 ms. -/
def activates : State := up.modNvm fun n => { n with armedT := some 2050000000 }

/-- A hub whose PD policy lets the service port write registers. -/
def portWrite : State := up.setFlag Reg.PDP_CTRL Fld.PDP_CTRL_PORT_WRITE true

/-- The maintenance function of a hub, configured. -/
def maint (s : State) : State := s.setFlag Reg.PDP_USB_STATUS Fld.PDP_USB_STATUS_CONFIGURED true

def acc : Access := ⟨.pf .pf0, 0, 1, 0xFF, 0⟩
def probe : Txn := ⟨.probe 0, 254, 0, 0, []⟩
def ctl : Ctl := ⟨.host 0, 254, [], [], 0, some 1500000000, [], 0⟩
/-- A segment whose transaction with node 254 waits for its answer; an answer without payload. -/
def waits : State := up.modSeg 47 fun x => { x with st := 3, cur := [probe] }
def answer (ftype : Nat) : Vfp := ⟨ftype, false, false, false, 254, 0, [], []⟩
def answerFrame (ftype : Nat) : RxFrame := ⟨vfpEncode (answer ftype), true, 0⟩
def ctlRuns : State := up.modSeg 47 fun x => { x with ctls := [ctl] }
def ruleAt3 : BitVec 256 := BitVec.ofNat 256 (2 ^ 160 * (3 * 2 ^ 19))
def tripped : Nat := 0x7000

/-- A submission entry of PF0 in SQ 0. -/
def entry (tea : BitVec 24) : SqEntry := ⟨.pf0, 0, false, false, false, 7, tea, 0, 0, [], []⟩

/-- A boot in which everything is found in order. -/
def bootOk : BootIn := ⟨0, 1, 1, true, true, false, [], [], []⟩

/-- Hubs of single statements: a link UP; a Gale SQ; PF1 standing by with an entry waiting; off; off for heat; in Recovery
with the maintenance function configured; a branch that has never framed; a pool with its reset count; no token left. -/
def linkUp : State := up.modLink 15 fun k => { k with st := 8 }
def galeHost : State := host.modRing .pf0 0 fun r => { r with gale := true }
def standby : State := { host with role := 1, lease := ⟨some .pf1, true, false, 3000000000, none⟩ }
def vaulted : State := ((((up.modPw fun w => { w with off := true }).setFlag Reg.PWR_VAULT_CFG
  Fld.PWR_VAULT_CFG_WAKE_PERST true).setFlag Reg.PWR_VAULT_CFG Fld.PWR_VAULT_CFG_WAKE_SERVICE_PORT true).setFld
  Reg.PWR_VAULT_CFG Fld.PWR_VAULT_CFG_TIMER_S 2)
def hot : State := (((late.modPw fun w => { w with off := true, coolSince := some 0 }).setFlag Reg.PWR_THERMAL
  Fld.PWR_THERMAL_AUTO_RESTART true).setFlag Reg.PWR_THERMAL Fld.PWR_THERMAL_THERMAL_SEEN true)
def recovering : State := (maint up).modPw fun w => { w with recovery := 2 }
def unframed : State := { branch with neverFramed := true }
def pooled : State := up.setFld Reg.LIB_POOL Fld.LIB_POOL_FREE 1000
def drained : State := up.setFld Reg.FOL_GOV Fld.FOL_GOV_TOKENS 0

/-! ## Ill-formed terms -/

def act (i v : Nat) : SqEntry := { entry 0 with args := (List.replicate 24 (0 : Byte)).set i (BitVec.ofNat 8 v) }
def reply (ty : Nat) : RxFrame := ⟨[BitVec.ofNat 8 (16 * ty), 0, 0, 0, 0], true, 0⟩

/-- Does a term name nothing the hub has. -/
def refused (c : Instr) : Bool := !wf c

/-- An ill-formed term moves the clock and changes nothing. -/
theorem test_ill_formed_only_moves_the_clock : exec (.foreignFrame 3000000000 48) up = .next (start 3000000000 up) := rfl

/-- A descriptor runs by its bytes, whichever of its opcode's rows carries it. -/
theorem test_rows_of_one_opcode (d : SqEntry) :
    exec (.configEp 0 d) up = exec (.configEpQuery 0 d) up ∧ exec (.segPowerOn 0 d) up = exec (.segPowerQuery 0 d) up :=
  ⟨rfl, rfl⟩

/-- An opcode of the table is no unknown one. -/
theorem test_refuses_descriptors : (wf (.unknownOpcode 0 (entry 0) 0x41) || wf (.unknownOpcode 0 (entry 0) 0)) = false := by
  decide

/-- No ring beyond 1536, no access of no byte, no OP of the table as an unknown one. -/
theorem test_refuses_host :
    ([.registerWrite 0 { acc with size := 0 }, .lowerWordRead 0 { acc with size := 0 }, .rcFieldRead 0 { acc with size := 0 },
      .glbFrameRead 0 { acc with size := 0 }, .cenWindowRead 0 { acc with size := 0 },
      .ringEnable 0 .pf0 1537 ⟨0, 0, 0, 0, 0, 0, 0, true⟩, .ringDisable 0 .pf0 1537, .kick 0 .pf0 [⟨1537, 0⟩],
      .doorbellSweep 0 .pf0 ⟨[], [⟨1537, 0⟩]⟩, .interruptModerationTimeout 0 .pf0 1537,
      .maintUnknownOp 0 ⟨0, 0, 0, 0, []⟩ 7] : List Instr).all refused = true := by
  decide

/-- No port beyond 47 (63 where a link port may carry VFP). -/
theorem test_refuses_ports :
    ([.spwCtrlOnWrite 0 .mgmt 48 0, .nodeKeepalive 0 64 1, .discoverSweep 0 48, .discoverRepeat 0 48, .replyWindowExpiry 0 64,
      .controlTimeout 0 64 1, .bulkNakTimeout 0 64, .resumeEnd 0 48, .cov 0 48 (reply 5),       .data 0 48 (reply 0) true
        true false, .ack 0 48 (reply 1),       .nyet 0 48 (reply 3), .nak 0 48 (reply 2), .stall 0 48 (reply 4),
      .hello 0 48 0 (reply 6), .foreignFrame 0 48, .currentStep 0 48,
      .currentDrop 0 48, .remoteWake 0 48, .lineFault 0 48, .lineFaultEnd 0 48] : List Instr).all refused = true := by
  decide

/-- No link beyond 16, no flit of another length, no frame number beyond 32 bits. -/
theorem test_refuses_links :
    ([.linkPresence 0 ⟨17, 0⟩, .autonegComplete 0 17 0, .c2mRateTrialTimeout 0 17, .trainingComplete 0 17 [],
      .trainingTimeout 0 17,
      .markerLock 0 17 ⟨0, 0, 0, false, false, 0, 0⟩, .noPartnerTimeout 0 17, .laneFail 0 17 0 true, .laneRejoinAttempt 0 17,
      .replayTimeout 0 17, .noFlitsTimeout 0 17, .presenceLost 0 17, .rateChangeTimeout 0 17, .goodbyeDrainEnd 0 17,
      .llctlNak 0 17 0, .creditInit 0 17 0 0 0 0, .rateStep 0 17 0 0, .laneDrop 0 17 0, .laneRejoin 0 17 0 0,
      .goodbye 0 17 0, .lid 0 17 ⟨0, 0, 0, 0, 0⟩, .lauth 0 17 ⟨true, true, true, 0⟩, .timeSync 0 ⟨0, 0, 2 ^ 32, 0, 0, 0⟩,
      .flitReceived 0 17 ⟨List.replicate 256 0, true, [], []⟩, .flitReceived 0 0 ⟨[], true, [], []⟩,
      .calibrationComplete 0 17] : List Instr).all refused = true := by
  decide

/-- No segment beyond 47, no bank beyond 5, eight sensors and eight shifts, no domain beyond 13. -/
theorem test_refuses_power :
    ([.backoffExpiry 0 48, .retryCountReset 0 48, .rampComplete 0 48, .breakerTrip 0 48 .curve 0,
      .openSenseTest 0 6 (List.replicate 8 0), .openSenseTest 0 0 [], .watchCycle 0 6 [], .thermalReading 0 [],
      .domainWakeStepTimeout 0 14 0, .engineFailure 0 48 .selfCheck, .senseSample 0 48 0,
      .softStartEnd 0 48] : List Instr).all refused = true := by
  decide

/-! ## The spec's own numbers -/

/-- spec/01_tree.md R16: TEA 3.17.122.4 is 0x1A2F44. -/
theorem test_tea_example : mkTea 3 17 122 4 = 0x1A2F44 := by decide

/-- spec/04_field_protocol.md R110 and R111: the check values of both checksums. -/
theorem test_crc_examples :
    hcrc [0x31, 0x32, 0x33, 0x34, 0x35, 0x36, 0x37, 0x38, 0x39] = 0xDF ∧
    crc32c [0x31, 0x32, 0x33, 0x34, 0x35, 0x36, 0x37, 0x38, 0x39] = 0xE3069283 := by decide

/-- R20, R415: a power-on reset begins frame 0 at its instant. -/
theorem test_power_on_begins_frame_0 :
    (match exec (.powerOnReset 2000000000 bootOk) host with
      | .next u => u.fc.frameNo == 0 && u.fc.frameStart == 2000000000 && u.fc.slot == 0
      | _ => false) = true := by decide

/-- R20, R21: the frame after 0xFFFFFFFF is 0, and it begins 1 ms after the one before. -/
theorem test_frame_number_wraps :
    (match exec (.frameBoundary 0) { up with fc := ⟨2000000000, 2 ^ 32 - 1, 1999900000, 3⟩ } with
      | .next u => u.fc.frameNo == 0 && u.fc.frameStart == 2000900000 && u.fc.slot == 0
      | _ => false) = true := by decide

/-- R20: gust slot 1 begins 125 µs after its frame. -/
theorem test_slot_begins :
    (match exec (.gustSlotBoundary 0) up with
      | .next u => u.fc.slot == 1 && u.fc.now == 2000025000
      | _ => false) = true := by decide

/-- R80, R91: a NOP completes DONE at position 0 of its CQ with PHASE 1, and its SQ's fetch count advances. -/
theorem test_nop_completes :
    (match exec (.nop 0 (entry 0)) host with
      | .next u => (u.ring .pf0 0).count == 1 && (u.out.any fun o => match o with
          | .cq .pf0 256 0 true 0 e => e.status == 0 && e.tag == 7 && e.sqHead == 1
          | _ => false)
      | _ => false) = true := by decide

/-- R18: a TEA that names hub 17 completes DENIED (0x0A). -/
theorem test_hub_17_denied :
    (match exec (.readEp 0 (entry (BitVec.ofNat 24 (17 * 2 ^ 19)))) host with
      | .next u => u.out.any fun o => match o with
          | .cq _ _ _ _ _ e => e.status == 0x0A
          | _ => false
      | _ => false) = true := by decide

/-- R100: a ring context of SIZE 17 starts a ring of 16, and the clamp counts. -/
theorem test_ring_size_clamped :
    (match exec (.ringEnable 0 .pf0 3 ⟨0x1000, 17, 256, 0, 1, 0, 0, true⟩) host with
      | .next u => (u.ring .pf0 3).size == 16 && (u.rd (Reg.GLB_CNT 0)).toNat == 1
      | _ => false) = true := by decide

/-- R53, R48: LIB_EPOCH.MS has the range 100 to 60,000; a write of 65,000 takes the limit, counts once, and waits. -/
theorem test_buffered_write_waits :
    (match exec (.registerWrite 0 ⟨.pf .pf0, BitVec.ofNat 24 Reg.LIB_EPOCH, 4, 0xF0, BitVec.ofNat 64 (65000 * 2 ^ 32)⟩)
      host with
      | .next u => (u.rd Reg.LIB_EPOCH).toNat == 1000 && (pendingWord u Reg.LIB_EPOCH).toNat == 60000 &&
          (u.rd (Reg.GLB_CNT 0)).toNat == 1
      | _ => false) = true := by decide

/-- R62: an access of BAR4 by the maintenance function counts in GLB_CNT4 and reads 0. -/
theorem test_bar4_ignored :
    (match exec (.bar4Access 0 .maint 0 false) up with
      | .next u => (u.rd (Reg.GLB_CNT 4)).toNat == 1 && u.out == [.readData 0]
      | _ => false) = true := by decide

/-- R306, R307: an enabled Squall latches and shows in PWR_STATUS. -/
theorem test_squall_latches :
    (match exec (.squallLatch 0) (up.setFlag Reg.PWR_SQUALL_CFG Fld.PWR_SQUALL_CFG_ENABLE true) with
      | .next u => squallOn u
      | _ => false) = true := by decide

/-- R285: with SLEW_MAX 100 µs a second, one second takes 100 µs off the offset. -/
theorem test_slew_takes_its_share :
    (TreeTime.to { TreeTime.reset with slewLeft := 65536 * 1000000 } 100 1000000000).slewLeft = 65536 * 900000 := by decide

/-! ## Witnesses of the statements' hypotheses -/

theorem test_meets_stepTakesTheFront : State.reset.pending = [] := rfl

theorem test_meets_commandsComplete : wf (.discoverSweep 0 48) = false := rfl

theorem test_meets_queueDrains :
    { up with pending := [.nop 0 (entry 0), .frameBoundary 0, .flush 0 .mgmt] }.pending =
      [.nop 0 (entry 0), .frameBoundary 0] ++ [.flush 0 .mgmt] := rfl

theorem test_meets_clockStaysSound : ClockSound up.fc ∧ ClockSound ⟨875000, 2 ^ 32 - 1, 0, 7⟩ ∧ step up = .next up := by
  refine ⟨?_, ?_, rfl⟩ <;> (unfold ClockSound; decide)

theorem test_meets_frameCountMovesOnlyHere :
    movesClock (.trngRecovery 0) = false ∧ (∃ u, exec (.trngRecovery 0) up = .next u) ∧
    (branch.neverFramed = false ∧ (∃ u, exec (.role 0 3 0 0 ⟨0, 0, 0, 0, 0⟩) branch = .next u)) ∧
    ∃ u, exec (.timeSync 0 ⟨0, 0, 0, 0, 0, 0⟩) branch = .next u :=
  ⟨rfl, ⟨_, rfl⟩, ⟨rfl, _, rfl⟩, _, rfl⟩

/-- Epoch 1000: frame 2000 begins one. -/
def epochHub : State := { up with fc := ⟨2000000000, 2000, 1999900000, 0⟩ }

theorem test_meets_boundariesRun :
    framing up = true ∧ awake up = true ∧ up.booted = true ∧ up.fc.slot < 7 ∧ isBranch up = false ∧
    (awake (start 0 epochHub) = true ∧ framing (start 0 epochHub) = true ∧ (start 0 epochHub).booted = true ∧
      (start 0 epochHub).fc.slot = 0 ∧ (start 0 epochHub).epochFrame ≠ some (start 0 epochHub).fc.frameNo ∧
      (start 0 epochHub).fc.frameNo % Nat.max 1 ((start 0 epochHub).fld Reg.LIB_EPOCH Fld.LIB_EPOCH_MS) = 0) := by
  decide

theorem test_meets_resetRegisters :
    (∃ bit r, Reg.at (Reg.HIF_SWEEP 0) = some (bit, r) ∧ specialReset (Reg.HIF_SWEEP 0) = none) ∧
    (Reg.at 0xFFC = none ∧ specialReset 0xFFC = none) :=
  ⟨⟨_, _, rfl, by decide⟩, by decide⟩

theorem test_meets_teaLayout : (31 < 32 ∧ 63 < 64 ∧ 255 < 256) ∧ mkTea 31 63 255 31 = 2 ^ 24 - 1 := by decide

theorem test_meets_headerCrc : (255 < 256 ∧ bitOf 255 7 = true) ∧ (0 < 256 ∧ bitOf 0 7 = false) := by decide

def covFrame : Vfp := ⟨5, true, false, true, 254, 0, [0, 0, 0, 0], List.replicate 12 0⟩
def ackFrame : Vfp := ⟨1, false, false, false, 1, 31, [], []⟩

theorem test_meets_frameCrc : covFrame.payload ≠ [] ∧ ackFrame.payload = [] := by decide

theorem test_meets_sofCarriesLowFrame :
    { up with fc := ⟨0, 0, 0, 0⟩ }.fc.frameNo = ({ up with fc := ⟨0, 2 ^ 32 - 65536, 0, 0⟩ }.fc.frameNo + 65536) % 2 ^ 32
      := by
  decide

theorem test_meets_replyRoundTrip :
    ReplyOk covFrame ∧ ReplyOk ackFrame ∧
    (vfpEncode ackFrame).length + [(0 : Byte)].length ≤ ((vfpEncode ackFrame).length + 2) / 3 * 3 := by
  refine ⟨?_, ?_, by decide⟩ <;> (unfold ReplyOk; decide)

theorem test_meets_acceptedRepliesAreSound :
    readReply .none (vfpEncode covFrame) = .ok covFrame ∧ readReply .groups (vfpEncode ackFrame ++ [0]) = .ok ackFrame ∧
    readReply .any (vfpEncode ackFrame ++ [0, 0]) = .ok ackFrame := by decide

theorem test_meets_covRoundTrip :
    (∀ e ∈ [CovEntry.mk 31 true true 65535 (List.replicate 64 7)], e.ep < 32 ∧ e.age < 65536 ∧ e.data.length ≤ 64) ∧
    [CovEntry.mk 31 true true 65535 (List.replicate 64 7)].length ≤ 1 := by decide

theorem test_meets_flitLayout : (List.replicate 244 (0 : Byte)).length ≤ 244 := by decide

/-- A canonical register table, and a counter about to wrap. -/
def wraps : State := up.wr (Reg.GLB_CNT 0) 0xFFFFFFFF

theorem test_meets_registerWordsHold : wraps.regs.wf = true ∧ wraps.rd (Reg.GLB_CNT 0) = 0xFFFFFFFF ∧ Reg.GLB_CNT 1 ≠
  Reg.GLB_CNT 0 := by
  decide

theorem test_meets_oneClampCounter : wraps.regs.wf = true ∧ Reg.GLB_CNT 1 ≠ Reg.GLB_CNT 0 := by decide

theorem test_meets_unassignedRegisters : Reg.at 0xFFC = none ∧ (BitVec.ofNat 24 0xFF8).toNat / 8 * 8 + 4 * 1 = 0xFFC := by
  decide

theorem test_meets_partialWritesDiscarded :
    inUnit { acc with addr := 1, size := 8 } = false ∧
    (inUnit { acc with size := 3, be := 7 } = true ∧
      ∀ h < 2, ((enabledBytes { acc with size := 3, be := 7 }).filter fun i => i / 4 == h).length ≠ 4) ∧
    ({ acc with size := 8 }.addr.toNat % 8 = 0 ∧ { acc with size := 8 }.be = 0xFF) := by decide

theorem test_meets_readClearNeedsAllBytes :
    up.regs.wf = true ∧ fieldsMask Reg.PWR_TEMP_PEAK (fun f => decide (f.acc = .rc)) ≠ 0 ∧
    latched up (.pf .pf0) Reg.PWR_TEMP_PEAK = none := by decide

theorem test_meets_readsTouchNoContext :
    (∃ u, exec (.lowerWordRead 0 acc) up = .next u) ∧ (∃ u, exec (.rcFieldRead 0 acc) up = .next u) ∧
    (∃ u, exec (.glbFrameRead 0 acc) up = .next u) ∧ ∃ u, exec (.cenWindowRead 0 acc) up = .next u :=
  ⟨⟨_, rfl⟩, ⟨_, rfl⟩, ⟨_, rfl⟩, _, rfl⟩

theorem test_meets_shadowsReadBackAndApply :
    up.regs.wf = true ∧ up.shadows.wf = true ∧ bufMask Reg.LIB_EPOCH ≠ 0 := by decide

def ranged : FieldDef := ⟨0, 8, .rw, false, false, .imm, .range 1 100⟩

theorem test_meets_clampsToLimits :
    (ranged.clamp = .range 1 100 ∧ 1 ≤ 100 ∧ 0 < 1 ∧ 100 < 101 ∧ 1 ≤ 100 ∧ 100 ≤ 100) ∧
    { ranged with clamp := .keepAbove 2 }.clamp = .keepAbove 2 ∧ { ranged with clamp := .keepBelow 2 }.clamp = .keepBelow 2
      := by
  decide

/-- PF1 stands by while PF0 holds the lease. -/
theorem test_meets_secureInitiators :
    up.regs.wf = true ∧
    (reaches (start 0 dual) (.pf .pf1) Reg.LIB_EPOCH = true ∧ isStandby (start 0 dual) .pf1 = true ∧ ownHif .pf1
      Reg.LIB_EPOCH = false) ∧
    (reaches (start 0 dual) (.pf .pf1) (Reg.HIF_SYS_EQ 1) = true ∧ ownHif .pf1 (Reg.HIF_SYS_EQ 1) = true) := by decide

theorem test_meets_heldBases : ringsBusy host .pf0 = true ∧ Reg.HIF_SYS_EQ 0 ∈ [Reg.HIF_DB_BASE_LO 0, Reg.HIF_SYS_EQ 0] :=
  by decide

theorem test_meets_registerCommandsRun :
    ∃ r, regCmd (.flush 0 .mgmt) = some r ∧ wf (.flush 0 .mgmt) = true ∧ awake (start 0 up) = true ∧
      r.Lands (hostTouches (start 0 up) .mgmt) := by
  refine ⟨_, rfl, by decide, by decide, ?_⟩
  unfold RegCmd.Lands
  refine ⟨by decide, ?_, by decide, by decide, by decide, by decide, by decide⟩
  intro f h; cases h

/-- Words with the keys and bits each clause names, and a link that is UP. -/
theorem test_meets_writesStart :
    ((0xC5A10001 : Word).toNat / 65536 = 0xC5A1 ∧ bitOf (0xC5A10001 : Word).toNat 0 = true ∧ (1 : Word).toNat / 65536 ≠
      0xC5A1) ∧
    (bitOf (2 : Word).toNat 1 = true ∧ (0x10004E56 : Word).toNat % 65536 = 0x4E56 ∧ (0 : Word).toNat % 65536 ≠ 0x4E56) ∧
    (squallOn up = false ∧ (0xE5A50001 : Word).toNat / 65536 = 0xE5A5 ∧ bitOf (0xE5A50001 : Word).toNat 0 = true) ∧
    ((2 : Word).toNat % 4 ≠ 3 ∧ (0x7A570003 : Word).toNat % 4 = 3 ∧ (0x7A570003 : Word).toNat / 65536 = 0x7A57 ∧
      (3 : Word).toNat / 65536 ≠ 0x7A57) ∧
    (bitOf (0x80000000 : Word).toNat 31 = true ∧ bitOf (0 : Word).toNat 31 = false) ∧
    ((0x9E3D002F : Word).toNat / 65536 = 0x9E3D ∧ (0x9E3D002F : Word).toNat % 64 = 47 ∧ (1 : Word) ≠ 0 ∧
      bitOf (0 : Word).toNat 1 = false) ∧
    ((linkUp.link 15).st = 8 ∧ bitOf (2 : Word).toNat 2 = false ∧ bitOf (2 : Word).toNat 3 = false ∧
      bitOf (0x100 : Word).toNat 8 = true ∧ bitOf (0x100 : Word).toNat 9 = false) := by decide

/-- Tails at and beyond SIZE; heads at and beyond the produce count. -/
theorem test_meets_doorbellChecks :
    (host.ring .pf0 (0 : BitVec 11).toNat).st.live = true ∧ (host.ring .pf0 (256 : BitVec 11).toNat).st.live = true ∧
    ((host.ring .pf0 0).size < ((17 : Word).toNat + 2 ^ 32 - (host.ring .pf0 0).count) % 2 ^ 32 ∧
      ((16 : Word).toNat + 2 ^ 32 - (host.ring .pf0 0).count) % 2 ^ 32 ≤ (host.ring .pf0 0).size) ∧
    (((host.ring .pf0 256).count + 2 ^ 32 - (host.ring .pf0 256).ext) % 2 ^ 32 <
        ((1 : Word).toNat + 2 ^ 32 - (host.ring .pf0 256).ext) % 2 ^ 32 ∧
      ((0 : Word).toNat + 2 ^ 32 - (host.ring .pf0 256).ext) % 2 ^ 32 ≤
        ((host.ring .pf0 256).count + 2 ^ 32 - (host.ring .pf0 256).ext) % 2 ^ 32) := by decide

theorem test_meets_ringContextClamps : 16 ≤ (16 : Word).toNat ∧ 255 < 256 ∧ 256 ≤ 256 := by decide

theorem test_meets_fetchOrder :
    host.rings.wf = true ∧ fetchRound (start 0 host) .pf0 = [0] ∧
    (galeHost.ring .pf0 0).gale = true ∧ fetchRound (start 0 galeHost) .pf0 = [0] := by decide

theorem test_meets_completionSlots :
    host.rings.wf = true ∧ (mkDesc host 0 (entry 0) ruleNop.len none).cq = 256 ∧ (0 < (host.ring .pf0 0).size ∧ 15 <
      (host.ring .pf0 0).size) := by decide

theorem test_meets_recordNumbers :
    (up.seqs.wf = true ∧ 1 ≠ 0) ∧ up.seqOwn.wf = true ∧ teaHub (3 * 2 ^ 19) ≠ up.hubNo := by decide

/-- NOP, fetched and running; one to hub 17, and one on a standby function. -/
theorem test_meets_descriptorsRun :
    ∃ q, sqCmd (.nop 0 (entry 0)) = some q ∧ wf (.nop 0 (entry 0)) = true ∧ awake (start 0 host) = true ∧
      q.Fetches (start 0 host) ∧ q.Runs (start 0 host) := by
  refine ⟨_, rfl, by decide, by decide, ?_, ?_⟩
  · unfold SqCmd.Fetches; decide
  · unfold SqCmd.Runs; decide

def toHub17 : SqEntry := entry (BitVec.ofNat 24 (17 * 2 ^ 19))

theorem test_meets_descriptorsTurnedAway :
    (∃ q, sqCmd (.writeEp 0 toHub17) = some q ∧ awake (start 0 host) = true ∧ q.Fetches (start 0 host) ∧
      mayExecute (q.taken (start 0 host)) q.d.fn = true ∧ (q.taken (start 0 host)).vacated = [] ∧
      addrStatus (q.taken (start 0 host)) (q.rule (start 0 host)).opcode q.d.tea.toNat = some Status.denied) ∧
    (∃ q, sqCmd (.writeEp 0 (entry 0)) = some q ∧ awake (start 0 standby) = true ∧ q.Fetches (start 0 standby) ∧
      (q.rule (start 0 standby)).standby = false ∧ mayExecute (q.taken (start 0 standby)) q.d.fn = false) ∧
    (teaHub (mkTea 17 0 0 0) = 17 ∧ (teaNode (mkTea 0 63 255 0) = 255 ∧ teaPort (mkTea 0 63 255 0) = 63) ∧
      (branchThere up 16 = false ∧ nodeThere up 47 254 = false)) := by
  refine ⟨⟨_, rfl, by decide, ?_, by decide, by decide, by decide⟩, ⟨_, rfl, by decide, ?_, by decide, by decide⟩, by decide⟩
  all_goals (unfold SqCmd.Fetches; decide)

theorem test_meets_simpleCompletions :
    isDual (start 0 host) = false ∧ wf (.unknownOpcode 0 (entry 0) 0xFF) = true ∧
    (∃ q, sqCmd (.roleTake 0 (entry 0) ⟨[], []⟩) = some q ∧ q.Fetches (start 0 host) ∧ q.Runs (start 0 host)) ∧
    (∃ q, sqCmd (.leaseRenew 0 (entry 0)) = some q ∧ q.Runs (start 0 host)) ∧
    ∃ q, sqCmd (.unknownOpcode 0 (entry 0) 0xFF) = some q ∧ q.Runs (start 0 host) := by
  refine ⟨by decide, by decide, ⟨_, rfl, ?_, ?_⟩, ⟨_, rfl, ?_⟩, _, rfl, ?_⟩
  · unfold SqCmd.Fetches; decide
  all_goals (unfold SqCmd.Runs; decide)

theorem test_meets_lengthClamps :
    (((up.setEp (ctxKey up 0) { EpCtx.reset with enabled := true, granules := 1 }).ep (ctxKey up 0)).enabled = true ∧
      epBuffer (up.setEp (ctxKey up 0) { EpCtx.reset with enabled := true, granules := 1 }) 0 = some 64) ∧
    ({ entry 0 with dataAddr := 0, length := 41 }.dataAddr = 0 ∧ ruleWriteEp.len.inline = true ∧ ruleWriteEp.len.used = true ∧
      ruleWriteEp.len.buffer = true ∧ (ruleReadEp true).len.inline = false ∧ ruleConfigEp.len.used = false) := by decide

theorem test_meets_intervalGrid : (1 ≤ 124 ∧ 124 < 125) ∧ (125 ≤ 125) ∧ (65535000 < 65535001) ∧ OnGrid 65535000 := by
  refine ⟨by decide, by decide, by decide, ?_⟩
  unfold OnGrid; exact Or.inr (Or.inr (Or.inr ⟨65535, by decide, by decide, rfl⟩))

theorem test_meets_slewBound : TreeTime.reset.takenAt ≤ 1000000000 ∧ 0 ≤ TreeTime.reset.slewLeft ∧ 1000000 ≤ 1000000 := by
  decide

theorem test_meets_retryBackoff : 1 ≤ 1 ∧ backoffS up 1 ≠ 0 := by decide

/-- A root outside the off state; one in the off state whose release, attach, timer and cool-down start it; Recovery. -/
theorem test_meets_coldStartsRun :
    takesPerst (start 0 up) = true ∧ perstWakes .pf0 (start 0 vaulted) = true ∧ thermalRestarts (start 0 hot) = true ∧
    vaultTimerOver (start 0 vaulted) = true ∧ attachWakes (start 0 vaulted) = true ∧ (start 0 up).pw.off = false ∧
    ((start 0 recovering).port.aoRail = true ∧ (start 0 recovering).pw.recovery ≠ 0 ∧ maintUp (start 0 recovering) = true) ∧
    ((start 0 up).pw.recovery = 0) := by decide

theorem test_meets_branchStartsFraming :
    (isBranch unframed = true ∧ unframed.neverFramed = true ∧ awake unframed = true) ∧
    ((unframed.modLink upLink fun k => { k with st := 6, authDone := true }).link upLink).authDone = true ∧
    7 ≤ ((unframed.modLink upLink fun k => { k with st := 7, exchanges := 7 }).link upLink).exchanges ∧
    ((unframed.link upLink).st ≠ 8 ∧ unframed.bootAt + 1850000000 ≤ (start 0 unframed).fc.now) := by decide

theorem test_meets_ruleOperands : 4 ≤ 4 ∧ compareOp 4 10 10 (some 9) = true ∧ compareOp 5 9 10 (some 10) = true := by decide

theorem test_meets_ruleWriteValue :
    255 < 256 ∧ 7 < (buildValue [] 0x80 [] 64).length ∧ bitOf 0x80 7 = true ∧ (7 < 8 ∧ 7 < 64) := by decide

/-- An endpoint of this hub without a buffer, with granules free. -/
theorem test_meets_bufferPool :
    pooled.regs.wf = true ∧ pooled.eps.wf = true ∧ ownKey (epKey 47 254 31) = true ∧ (pooled.ep (epKey 47 254 31)).held = 0 ∧
    (pooled.ep (epKey 47 254 31)).reserve = false ∧ (pooled.ep (epKey 47 254 31)).granules ≤ poolFree pooled := by decide

theorem test_meets_folioTokens :
    up.regs.wf = true ∧ 0 < up.fld Reg.FOL_GOV Fld.FOL_GOV_TOKENS ∧
    (drained.fld Reg.FOL_GOV Fld.FOL_GOV_TOKENS = 0 ∧ 0 < drained.fld Reg.FOL_GOV Fld.FOL_GOV_RESERVE) := by decide

/-! ## The conditions of the rows -/

def hostRun5 : State := (host.setFld (Reg.HIF_CTRL 0) Fld.HIF_CTRL_DB_MODE 1).modFn .pf0 fun x => { x with kickDue := true }
def hostRun12 : State := up.setFld Reg.PWR_STATUS Fld.PWR_STATUS_STATE 2
def hostRun13 : State := host.modRing .pf0 256 fun r => { r with modSince := some 0, modCount := 1 }
def hostRun14 : State := { host with lease := ⟨some .pf1, true, false, 2000000000, none⟩ }

/-- HostInterfaceRuns: each clause, at ends of its ranges. -/
theorem test_meets_hostInterfaceRuns :
    (awake (start 0 host) = true ∧ (1536 : BitVec 11).toNat ≤ 1536 ∧ hostWrites (start 0 host) .pf0 = true) ∧
    (awake (start 0 host) = true ∧ (∀ x ∈ ([⟨1536, 1⟩] : List Doorbell), x.ring.toNat ≤ 1536) ∧
      readsDoorbells (lullWake (start 0 host) 2) .pf0 = true) ∧
    (awake (start 0 up) = true ∧ (∀ x ∈ ([⟨1536, 1⟩] : List Doorbell), x.ring.toNat ≤ 1536) ∧
      readsDoorbells (lullWake (start 0 up) 2) .pf0 = false ∧ hostThere (lullWake (start 0 up) 2) .pf0 = true ∧
      isReady (lullWake (start 0 up) 2) = true) ∧
    (awake (start 0 host) = true ∧ (∀ x ∈ ([⟨1536, 1⟩] : List Doorbell), x.ring.toNat ≤ 1536) ∧
      readsDoorbells (start 0 host) .pf0 = true ∧ kickMode (start 0 host) .pf0 = false ∧
      ((start 0 host).fnS .pf0).kickDue = false) ∧
    (awake (start 0 hostRun5) = true ∧ (∀ x ∈ ([⟨1536, 1⟩] : List Doorbell), x.ring.toNat ≤ 1536) ∧
      readsDoorbells (start 0 hostRun5) .pf0 = true ∧ kickMode (start 0 hostRun5) .pf0 = true ∧
      ((start 0 hostRun5).fnS .pf0).kickDue = true) ∧
    (awake (start 0 host) = true ∧ readsDoorbells (start 0 host) .pf0 = true ∧ kickMode (start 0 host) .pf0 = false) ∧
    (awake (start 0 up) = true ∧ hostThere (start 0 up) .pf0 = true ∧ ((start 0 up).fnS .pf0).bme = false) ∧
    (awake (start 0 host) = true ∧ hostThere (start 0 host) .pf0 = true) ∧
    (awake (start 0 host) = true ∧ hostThere (start 0 host) .pf0 = true ∧ ((start 0 host).fnS .pf0).bme = true) ∧
    (awake (start 0 hostRun12) = true ∧ chipState (start 0 hostRun12) = 2) ∧
    (awake (start 0 hostRun13) = true ∧ (256 : BitVec 11).toNat ≤ 1536 ∧
      ((start 0 hostRun13).ring .pf0 (256 : BitVec 11).toNat).modSince = some 0 ∧
      ((start 0 hostRun13).ring .pf0 (256 : BitVec 11).toNat).modCount ≠ 0 ∧
      0 + (start 0 hostRun13).fld (Reg.HIF_MOD_PROFILE (fnIx .pf0) ((start 0 hostRun13).ring .pf0 (256 : BitVec
        11).toNat).profile) Fld.HIF_MOD_PROFILE_TIME_US * 1000 ≤ (start 0 hostRun13).fc.now) ∧
    (awake (start 0 hostRun14) = true ∧ (start 0 hostRun14).lease.valid = true ∧
      (start 0 hostRun14).lease.until_ ≤ (start 0 hostRun14).fc.now) :=
  ⟨by decide, by decide, by decide, by decide, by decide, by decide, by decide, by decide, by decide, by decide, by
    decide, by decide⟩

/-- RegisterOperationsRun: each clause, at ends of its ranges. -/
theorem test_meets_registerOperationsRun :
    (awake (start 0 up) = true ∧ 1 ≤ acc.size) ∧
    (awake (start 0 up) = true ∧ isSecure (start 0 up) .maint = false) ∧
    (awake (start 0 up) = true ∧ isSecure (start 0 up) (.pf .pf0) = true) :=
  ⟨by decide, by decide, by decide⟩

def fieldTimers0 : State := up.modNode (nodeKey 47 254) fun n => { n with phase := .served }
def fieldTimers2 : State := (running 47).modSeg 47 fun x => { x with repeatAt := some 1850 }
def fieldTimers3 : State := up.modSeg 63 fun x => { x with cur := [probe] }
def fieldTimers6 : State := up.modSeg 47 fun x => { x with st := 2, resumeBegun := some 1998000000 }
def fieldLine0 : State := up.modSeg 47 fun x => { x with st := 3 }
def fieldLine3 : State := up.modSeg 47 fun x => { x with st := 4 }
def fieldLine4 : State := (running 47).wr (Reg.SEG_CTRL 47) (putField 0 Fld.SEG_CTRL_GEN 3)

/-- FieldTimersRun: each clause, at ends of its ranges. -/
theorem test_meets_fieldTimersRun :
    (awake (start 0 fieldTimers0) = true ∧ vfpPort 47 = true ∧
      nodeThere (start 0 fieldTimers0) 47 (254 : Byte).toNat = true) ∧
    (awake (start 0 (running 47)) = true ∧ segPort 47 = true ∧ segRuns (start 0 (running 47)) 47 = true) ∧
    (awake (start 0 fieldTimers2) = true ∧ segPort 47 = true ∧ ((start 0 fieldTimers2).seg 47).repeatAt = some 1850 ∧
      1850 ≤ (start 0 fieldTimers2).fc.frameNo ∧ segRuns (start 0 fieldTimers2) 47 = true) ∧
    (awake (start 0 fieldTimers3) = true ∧ vfpPort 63 = true ∧
      (48 ≤ 63 → (((start 0 fieldTimers3).link (63 - 48)).held.any fun h => h.msg.mtype == 0x20) = false) ∧
      ((start 0 fieldTimers3).seg 63).cur = probe :: ([] : List Txn)) ∧
    (awake (start 0 ctlRuns) = true ∧ vfpPort 47 = true ∧ runningCtl (start 0 ctlRuns) 47 (254 : Byte).toNat = some ctl ∧
      ctl.started = some 1500000000 ∧ 1500000000 + 500000000 ≤ (start 0 ctlRuns).fc.now) ∧
    (awake (start 0 up) = true ∧ vfpPort 63 = true) ∧
    (awake (start 0 fieldTimers6) = true ∧ segPort 47 = true ∧
      ((start 0 fieldTimers6).seg 47).resumeBegun = some 1998000000 ∧ ((start 0 fieldTimers6).seg 47).st = 2 ∧
      1998000000 + 2000000 ≤ (start 0 fieldTimers6).fc.now) ∧
    (awake (start 0 fieldLine0) = true ∧ segPort 47 = true ∧ ((start 0 fieldLine0).seg 47).st ≠ 0) ∧
    (awake (start 0 up) = true ∧ segPort 47 = true) ∧
    (awake (start 0 fieldLine3) = true ∧ segPort 47 = true ∧ ((start 0 fieldLine3).seg 47).st = 4 ∧
      (((start 0 fieldLine3).seg 47).tokens.filter fun k => k.tok == Tok.reset && (k.node == 255 || memNat (wakers (start 0
        fieldLine3) 47) k.node)) = []) ∧
    (awake (start 0 fieldLine4) = true ∧ segPort 47 = true ∧ ((start 0 fieldLine4).seg 47).st ≠ 0 ∧
      segGen (start 0 fieldLine4) 47 = 3) :=
  ⟨by decide, by decide, by decide, by decide, by decide, by decide, by decide, by decide, by decide, by decide, by
    decide⟩

def fieldReplies12 : State := up.modSeg 47 fun x => { x with st := 3, sweeping := some 0 }
def fieldReplies13 : State := up.modSeg 47 fun x => { x with st := 2 }
def fieldReplies14 : State := up.modLink 15 fun k => { k with cls := 3, st := 8 }

/-- FieldRepliesRun: each clause, at ends of its ranges. -/
theorem test_meets_fieldRepliesRun :
    (awake (start 0 up) = true ∧ segPort 47 = true) ∧
    (awake (start 0 waits) = true ∧ segPort 47 = true ∧ ((start 0 waits).seg 47).st ≠ 0 ∧
      ((start 0 waits).seg 47).lost = false ∧ ((start 0 waits).seg 47).faulted = false ∧
      readReply (padding (start 0 waits) 47) (answerFrame 5).bytes = .ok (answer 5) ∧
      ((start 0 waits).seg 47).cur.find? (fun probe => probe.node == (answer 5).node) = some probe ∧
      trailerOf ((start 0 waits).node (nodeKey 47 probe.node)) (answer 5) (answerFrame 5).tagOk = .fine ∧
      (answer 5).ftype = 5) ∧
    (awake (start 0 waits) = true ∧ segPort 47 = true ∧ ((start 0 waits).seg 47).st ≠ 0 ∧
      ((start 0 waits).seg 47).lost = false ∧ ((start 0 waits).seg 47).faulted = false ∧
      readReply (padding (start 0 waits) 47) (answerFrame 0).bytes = .ok (answer 0) ∧
      ((start 0 waits).seg 47).cur.find? (fun probe => probe.node == (answer 0).node) = some probe ∧
      trailerOf ((start 0 waits).node (nodeKey 47 probe.node)) (answer 0) (answerFrame 0).tagOk = .fine ∧
      (answer 0).ftype = 0) ∧
    (awake (start 0 waits) = true ∧ segPort 47 = true ∧ ((start 0 waits).seg 47).st ≠ 0 ∧
      ((start 0 waits).seg 47).lost = false ∧ ((start 0 waits).seg 47).faulted = false ∧
      readReply (padding (start 0 waits) 47) (answerFrame 1).bytes = .ok (answer 1) ∧
      ((start 0 waits).seg 47).cur.find? (fun probe => probe.node == (answer 1).node) = some probe ∧
      trailerOf ((start 0 waits).node (nodeKey 47 probe.node)) (answer 1) (answerFrame 1).tagOk = .fine ∧
      (answer 1).ftype = 1) ∧
    (awake (start 0 waits) = true ∧ segPort 47 = true ∧ ((start 0 waits).seg 47).st ≠ 0 ∧
      ((start 0 waits).seg 47).lost = false ∧ ((start 0 waits).seg 47).faulted = false ∧
      readReply (padding (start 0 waits) 47) (answerFrame 3).bytes = .ok (answer 3) ∧
      ((start 0 waits).seg 47).cur.find? (fun probe => probe.node == (answer 3).node) = some probe ∧
      trailerOf ((start 0 waits).node (nodeKey 47 probe.node)) (answer 3) (answerFrame 3).tagOk = .fine ∧
      (answer 3).ftype = 3) ∧
    (awake (start 0 waits) = true ∧ segPort 47 = true ∧ ((start 0 waits).seg 47).st ≠ 0 ∧
      ((start 0 waits).seg 47).lost = false ∧ ((start 0 waits).seg 47).faulted = false ∧
      readReply (padding (start 0 waits) 47) (answerFrame 2).bytes = .ok (answer 2) ∧
      ((start 0 waits).seg 47).cur.find? (fun probe => probe.node == (answer 2).node) = some probe ∧
      trailerOf ((start 0 waits).node (nodeKey 47 probe.node)) (answer 2) (answerFrame 2).tagOk = .fine ∧
      (answer 2).ftype = 2) ∧
    (awake (start 0 waits) = true ∧ segPort 47 = true ∧ ((start 0 waits).seg 47).st ≠ 0 ∧
      ((start 0 waits).seg 47).lost = false ∧ ((start 0 waits).seg 47).faulted = false ∧
      readReply (padding (start 0 waits) 47) (answerFrame 4).bytes = .ok (answer 4) ∧
      ((start 0 waits).seg 47).cur.find? (fun probe => probe.node == (answer 4).node) = some probe ∧
      trailerOf ((start 0 waits).node (nodeKey 47 probe.node)) (answer 4) (answerFrame 4).tagOk = .fine ∧
      (answer 4).ftype = 4) ∧
    (awake (start 0 fieldReplies12) = true ∧ segPort 47 = true ∧ ((start 0 fieldReplies12).seg 47).st ≠ 0 ∧
      ((start 0 fieldReplies12).seg 47).st ≠ 2 ∧ ((start 0 fieldReplies12).seg 47).sweeping.isSome = true ∧
      ((start 0 fieldReplies12).seg 47).cur = []) ∧
    (awake (start 0 fieldReplies13) = true ∧ segPort 47 = true ∧ ((start 0 fieldReplies13).seg 47).st = 2) ∧
    (awake (start 0 fieldReplies14) = true ∧ ((start 0 fieldReplies14).link (15 : BitVec 4).toNat).cls = 3 ∧
      ((start 0 fieldReplies14).link (15 : BitVec 4).toNat).st = 8) :=
  ⟨by decide, by decide, by decide, by decide, by decide, by decide, by decide, by decide, by decide, by decide⟩

def linkStates3 : State := up.modLink 15 fun k => { k with st := 4 }
def linkStates4 : State := branch.modLink 16 fun k => { k with st := 4 }
def linkStates6 : State := late.modLink 15 fun k => { k with presentAt := some 0, presence := true, st := 2 }
def linkStates8 : State := up.modLink 15 fun k => { k with st := 8, failed := 8 }
def linkStates10 : State := up.modLink 15 fun k => { k with st := 8, lastFlit := 1999900000 }
def linkStates12 : State := up.modLink 15 fun k => { k with st := 9, downAt := some 2000000000 }

/-- LinkStatesRun: each clause, at ends of its ranges. -/
theorem test_meets_linkStatesRun :
    (awake (start 0 branch) = true ∧ (16 : BitVec 5).toNat ≤ 16 ∧
      ((16 : BitVec 5).toNat = upLink → isBranch (start 0 branch) = true)) ∧
    (awake (start 0 up) = true ∧ (15 : BitVec 5).toNat ≤ 16 ∧
      ((15 : BitVec 5).toNat = upLink → isBranch (start 0 up) = true)) ∧
    (awake (start 0 linkStates3) = true ∧ (15 : BitVec 5).toNat ≤ 16 ∧
      ((15 : BitVec 5).toNat = upLink → isBranch (start 0 linkStates3) = true) ∧
      ((markersDue (start 0 linkStates3) 15).link (15 : BitVec 5).toNat).st = 4) ∧
    (awake (start 0 linkStates4) = true ∧ (16 : BitVec 5).toNat ≤ 16 ∧
      ((16 : BitVec 5).toNat = upLink → isBranch (start 0 linkStates4) = true) ∧
      ((markersDue (start 0 linkStates4) 16).link (16 : BitVec 5).toNat).st = 4) ∧
    (awake (start 0 linkStates6) = true ∧ (15 : BitVec 5).toNat ≤ 16 ∧
      ((15 : BitVec 5).toNat = upLink → isBranch (start 0 linkStates6) = true) ∧
      ((markersDue (start 0 linkStates6) 15).link (15 : BitVec 5).toNat).presentAt = some 0 ∧
      ((markersDue (start 0 linkStates6) 15).link (15 : BitVec 5).toNat).presence = true ∧
      2 ≤ ((markersDue (start 0 linkStates6) 15).link (15 : BitVec 5).toNat).st ∧
      ((markersDue (start 0 linkStates6) 15).link (15 : BitVec 5).toNat).st ≤ 7 ∧
      ((markersDue (start 0 linkStates6) 15).link (15 : BitVec 5).toNat).noPartner = false ∧
      0 + 5000000000 ≤ (markersDue (start 0 linkStates6) 15).fc.now) ∧
    (awake (start 0 linkStates8) = true ∧ (15 : BitVec 5).toNat ≤ 16 ∧
      ((15 : BitVec 5).toNat = upLink → isBranch (start 0 linkStates8) = true) ∧
      ((markersDue (start 0 linkStates8) 15).link (15 : BitVec 5).toNat).st = 8 ∧
      ((markersDue (start 0 linkStates8) 15).link (15 : BitVec 5).toNat).failed ≠ 0) ∧
    (awake (start 0 linkStates10) = true ∧ (15 : BitVec 5).toNat ≤ 16 ∧
      ((15 : BitVec 5).toNat = upLink → isBranch (start 0 linkStates10) = true) ∧
      ((markersDue (start 0 linkStates10) 15).link (15 : BitVec 5).toNat).st = 8 ∧
      ((markersDue (start 0 linkStates10) 15).link (15 : BitVec 5).toNat).lastFlit + 100000 ≤ (markersDue (start 0
        linkStates10) 15).fc.now) ∧
    (awake (start 0 linkStates12) = true ∧ (15 : BitVec 5).toNat ≤ 16 ∧
      ((15 : BitVec 5).toNat = upLink → isBranch (start 0 linkStates12) = true) ∧
      ((markersDue (start 0 linkStates12) 15).link (15 : BitVec 5).toNat).st = 9 ∧
      ((markersDue (start 0 linkStates12) 15).link (15 : BitVec 5).toNat).downAt = some 2000000000 ∧
      2000000000 ≤ (markersDue (start 0 linkStates12) 15).fc.now) :=
  ⟨by decide, by decide, by decide, by decide, by decide, by decide, by decide, by decide⟩

def linkMsgs3 : State := up.modLink 15 fun k => { k with st := 8 }
def linkMsgs5 : State := up.modLink 15 fun k => { k with st := 8, failed := 8, width := 4 }
def linkMsgs6 : State := branch.modLink 16 fun k => { k with st := 9 }
def linkMsgs11 : State := up.modLink 15 fun k => { k with cls := 2, st := 8 }
def linkMsgs13 : State := branch.modLink 16 fun k => { k with st := 6, authDone := true }
def timeLink1 : State := branch.modLink 16 fun k => { k with st := 8 }
def timeLink3 : State := branch.modTt fun x => { x with syncSeen := some 1995000000, own := .locked }

/-- LinkMessagesRun: each clause, at ends of its ranges. -/
theorem test_meets_linkMessagesRun :
    (awake (start 0 branch) = true ∧ (16 : BitVec 5).toNat ≤ 16 ∧
      ((16 : BitVec 5).toNat = upLink → isBranch (start 0 branch) = true) ∧
      (⟨List.replicate 256 0, true, [], []⟩ : Flit).bytes.length = 256) ∧
    (awake (start 0 branch) = true ∧ (16 : BitVec 5).toNat ≤ 16 ∧
      ((16 : BitVec 5).toNat = upLink → isBranch (start 0 branch) = true)) ∧
    (awake (start 0 linkMsgs3) = true ∧ (15 : BitVec 5).toNat ≤ 16 ∧
      ((15 : BitVec 5).toNat = upLink → isBranch (start 0 linkMsgs3) = true) ∧
      ((markersDue (start 0 linkMsgs3) 15).link (15 : BitVec 5).toNat).st = 8) ∧
    (awake (start 0 linkMsgs5) = true ∧ (15 : BitVec 5).toNat ≤ 16 ∧
      ((15 : BitVec 5).toNat = upLink → isBranch (start 0 linkMsgs5) = true) ∧
      ((markersDue (start 0 linkMsgs5) 15).link (15 : BitVec 5).toNat).st = 8 ∧
      ((markersDue (start 0 linkMsgs5) 15).link (15 : BitVec 5).toNat).failed ≠ 0 ∧
      (15 : BitVec 4).toNat = laneMask ((markersDue (start 0 linkMsgs5) 15).link (15 : BitVec 5).toNat).width) ∧
    (awake (start 0 linkMsgs6) = true ∧ (16 : BitVec 5).toNat ≤ 16 ∧
      ((16 : BitVec 5).toNat = upLink → isBranch (start 0 linkMsgs6) = true) ∧
      (((markersDue (start 0 linkMsgs6) 16).link (16 : BitVec 5).toNat).st = 8 ∨ ((markersDue (start 0 linkMsgs6) 16).link
        (16 : BitVec 5).toNat).st = 9)) ∧
    (awake (start 0 branch) = true ∧ isBranch (start 0 branch) = true) ∧
    (awake (start 0 linkMsgs11) = true ∧ fromBranch (start 0 linkMsgs11) (15 : BitVec 4).toNat = true) ∧
    (awake (start 0 linkMsgs13) = true ∧ isBranch (start 0 linkMsgs13) = true ∧ ((start 0 linkMsgs13).link upLink).st = 6 ∧
      ((start 0 linkMsgs13).link upLink).authDone = true ∧ (start 0 linkMsgs13).neverFramed = false) ∧
    (awake (start 0 branch) = true ∧ isBranch (start 0 branch) = true ∧
      teaHub (leAt (leBytes 32 (ruleAt3 : BitVec 256).toNat) 20 3) = hubOf (start 0 branch) ∧
      ((start 0 branch).deposits.length < 4096 ∨ ((start 0 branch).deposits.find (0 : BitVec 21).toNat).isSome = true)) ∧
    (awake (start 0 timeLink1) = true ∧ (⟨0, 0, 4294967295, 0, 0, 0⟩ : SyncMsg).frame < 2 ^ 32 ∧
      isBranch (start 0 timeLink1) = true ∧
      (((start 0 timeLink1).link upLink).st = 7 ∨ ((start 0 timeLink1).link upLink).st = 8) ∧
      (start 0 timeLink1).neverFramed = false) ∧
    (awake (start 0 timeLink3) = true ∧ (start 0 timeLink3).tt.syncSeen = some 1995000000 ∧
      isBranch (start 0 timeLink3) = true ∧ 1995000000 + 5000000 ≤ (start 0 timeLink3).fc.now ∧
      ((start 0 timeLink3).tt.own = .acquiring ∨ (start 0 timeLink3).tt.own = .locked)) :=
  ⟨by decide, by decide, by decide, by decide, by decide, by decide, by decide, by decide, by decide, by decide, by
    decide⟩

def timeRun3 : State := srcPps.modTt fun x => { x with lastPulse := some 500000000, everMeasured := true, own := .locked }
def timeRun4 : State :=
  srcPps.modTt fun x => { x with lastPulse := some 500000000, second := none, zdaSecond := some 46, zdaAgree := 1 }
def timeRun5 : State := srcPps.modTt fun x => { x with lastPulse := some 500000000, second := none }
def timeRun6 : State := srcPps.modTt fun x => { x with lastPulse := some 500000000, second := some 46 }
def timeRun7 : State := srcPps.modTt fun x => { x with lastPulse := some 500000000, second := some 7 }
def timeRun8 : State := late.modTt fun x => { x with holdSince := some 0, own := .holdover }
def timeRun9 : State := up.modTt fun x => { x with slewing := true }
def timeRun11 : State :=
  (up.modTt fun x => { x with ppsRise := some 1999000000, ppsHigh := true }).setFld Reg.TIM_CTRL Fld.TIM_CTRL_PPS_WIDTH_MS 1

/-- TimeRuns: each clause, at ends of its ranges. -/
theorem test_meets_timeRuns :
    ((start 0 srcPtm).pw.off = false ∧ isBranch (start 0 srcPtm) = false ∧ timeSource (start 0 srcPtm) = 1 ∧
      activeFn (start 0 srcPtm) = some .pf0) ∧
    ((start 0 srcPtm).pw.off = false ∧ isBranch (start 0 srcPtm) = false ∧ timeSource (start 0 srcPtm) = 1 ∧
      activeFn (start 0 srcPtm) = some .pf0 ∧ (start 0 srcPtm).tt.ptmFails < 2) ∧
    ((start 0 srcPps).pw.off = false ∧ isBranch (start 0 srcPps) = false ∧ timeSource (start 0 srcPps) = 0 ∧
      pulseExpected (start 0 srcPps) = true ∧ (pulseTaken (start 0 srcPps)).tt.second = some 8) ∧
    ((start 0 timeRun3).pw.off = false ∧ (start 0 timeRun3).tt.lastPulse = some 500000000 ∧
      isBranch (start 0 timeRun3) = false ∧ timeSource (start 0 timeRun3) = 0 ∧
      500000000 + 1500000000 ≤ (start 0 timeRun3).fc.now ∧ (start 0 timeRun3).tt.everMeasured = true ∧
      ((start 0 timeRun3).tt.own = .acquiring ∨ (start 0 timeRun3).tt.own = .locked)) ∧
    ((start 0 timeRun4).pw.off = false ∧ isBranch (start 0 timeRun4) = false ∧ timeSource (start 0 timeRun4) = 0 ∧
      100 ≤ 100 ∧ 100 ≤ 900 ∧ (start 0 timeRun4).tt.lastPulse.isSome = true ∧
      46 = ((9 : Int) + toSigned 16 ((start 0 timeRun4).fld Reg.TIM_LEAP Fld.TIM_LEAP_TAI_UTC)).toNat ∧
      (start 0 timeRun4).tt.second = none ∧ (start 0 timeRun4).tt.zdaSecond = some 46 ∧
      1 ≤ (start 0 timeRun4).tt.zdaAgree) ∧
    ((start 0 timeRun5).pw.off = false ∧ isBranch (start 0 timeRun5) = false ∧ timeSource (start 0 timeRun5) = 0 ∧
      100 ≤ 900 ∧ 900 ≤ 900 ∧ (start 0 timeRun5).tt.lastPulse.isSome = true ∧
      46 = ((9 : Int) + toSigned 16 ((start 0 timeRun5).fld Reg.TIM_LEAP Fld.TIM_LEAP_TAI_UTC)).toNat ∧
      (start 0 timeRun5).tt.second = none ∧ (start 0 timeRun5).tt.zdaSecond ≠ some 46) ∧
    ((start 0 timeRun6).pw.off = false ∧ isBranch (start 0 timeRun6) = false ∧ timeSource (start 0 timeRun6) = 0 ∧
      100 ≤ 100 ∧ 100 ≤ 900 ∧ (start 0 timeRun6).tt.lastPulse.isSome = true ∧
      46 = ((9 : Int) + toSigned 16 ((start 0 timeRun6).fld Reg.TIM_LEAP Fld.TIM_LEAP_TAI_UTC)).toNat ∧
      (start 0 timeRun6).tt.second = some 46) ∧
    ((start 0 timeRun7).pw.off = false ∧ isBranch (start 0 timeRun7) = false ∧ timeSource (start 0 timeRun7) = 0 ∧
      100 ≤ 100 ∧ 100 ≤ 900 ∧ (start 0 timeRun7).tt.lastPulse.isSome = true ∧
      46 = ((9 : Int) + toSigned 16 ((start 0 timeRun7).fld Reg.TIM_LEAP Fld.TIM_LEAP_TAI_UTC)).toNat ∧
      (start 0 timeRun7).tt.second = some 7 ∧ 7 ≠ 46) ∧
    ((start 0 timeRun8).pw.off = false ∧ (start 0 timeRun8).tt.holdSince = some 0 ∧ (start 0 timeRun8).tt.own = .holdover ∧
      0 + (start 0 timeRun8).fld Reg.TIM_LIMITS Fld.TIM_LIMITS_HOLDOVER_S * 1000000000 ≤ (start 0 timeRun8).fc.now) ∧
    ((start 0 timeRun9).pw.off = false ∧ (start 0 timeRun9).tt.slewing = true ∧ (start 0 timeRun9).tt.slewLeft = 0) ∧
    ((start 0 ppsOut).pw.off = false ∧ (start 0 ppsOut).tt.ppsRise = none ∧
      (start 0 ppsOut).flag Reg.TIM_CTRL Fld.TIM_CTRL_PPS_OUT_EN = true ∧ treeNs (start 0 ppsOut) % 1000000000 < 2 ∧
      (start 0 ppsOut).flag Reg.TIM_CTRL Fld.TIM_CTRL_TOD_TX_EN = false) ∧
    ((start 0 timeRun11).pw.off = false ∧ (start 0 timeRun11).tt.ppsRise = some 1999000000 ∧
      (start 0 timeRun11).tt.ppsHigh = true ∧
      1999000000 + (start 0 timeRun11).fld Reg.TIM_CTRL Fld.TIM_CTRL_PPS_WIDTH_MS * 1000000 ≤ (start 0 timeRun11).fc.now) ∧
    ((start 0 up).pw.off = false ∧ (start 0 up).pw.timeRefLostAt = none) :=
  ⟨by decide, by decide, by decide, by decide, by decide, by decide, by decide, by decide, by decide, by decide, by
    decide, by decide, by decide⟩

def spwRun7 : State := { power 3 with fc := late.fc }
def spwRun8 : State := up.setFlag Reg.SPW_SENSE_CFG Fld.SPW_SENSE_CFG_TEST_EN true

/-- SegmentPowerRuns: each clause, at ends of its ranges. -/
theorem test_meets_segmentPowerRuns :
    ((start 0 (power 2)).pw.off = false ∧ segPort 47 = true ∧ powerSt (start 0 (power 2)) 47 = 2 ∧
      rampEnd (start 0 (power 2)) 47 ≤ (start 0 (power 2)).fc.now) ∧
    ((start 0 (power 3)).pw.off = false ∧ segPort 47 = true ∧ enHigh (start 0 (power 3)) 47 = true ∧
      (start 0 (power 3)).flag (Reg.SPW_STATUS 47) Fld.SPW_STATUS_SUSPECT = false) ∧
    ((start 0 (power 3)).pw.off = false ∧ segPort 47 = true ∧ enHigh (start 0 (power 3)) 47 = true) ∧
    ((start 0 up).pw.off = false ∧ segPort 47 = true) ∧
    ((start 0 up).pw.off = false ∧ segPort 47 = true ∧
      ((start 0 up).spw 47).enAt + (start 0 up).fld (Reg.SPW_CTRL 47) Fld.SPW_CTRL_RAMP * 500000 ≤ (start 0 up).fc.now) ∧
    ((start 0 (power 4)).pw.off = false ∧ segPort 47 = true ∧ awake (start 0 (power 4)) = true ∧
      powerSt (start 0 (power 4)) 47 = 4 ∧ ((start 0 (power 4)).spw 47).backoffUntil ≤ (start 0 (power 4)).fc.now) ∧
    ((start 0 spwRun7).pw.off = false ∧ segPort 47 = true ∧ awake (start 0 spwRun7) = true ∧
      powerSt (start 0 spwRun7) 47 = 3 ∧ ((start 0 spwRun7).spw 47).onAt + 60000000000 ≤ (start 0 spwRun7).fc.now) ∧
    ((start 0 spwRun8).pw.off = false ∧ awake (start 0 spwRun8) = true ∧ 5 < 6 ∧ (List.replicate 8 0).length = 8 ∧
      (start 0 spwRun8).flag Reg.SPW_SENSE_CFG Fld.SPW_SENSE_CFG_TEST_EN = true) :=
  ⟨by decide, by decide, by decide, by decide, by decide, by decide, by decide, by decide⟩

def powerRun0 : State := up.setFlag Reg.PWR_SQUALL_CFG Fld.PWR_SQUALL_CFG_ENABLE true
def powerRun1 : State :=
  (up.setFlag Reg.PWR_STATUS Fld.PWR_STATUS_SQUALL true).modPw fun w => { w with squallAt := some 1999800000 }
def powerRun2 : State := up.modFolio fun x => { x with sealing := some true }
def powerRun3 : State := up.modPw fun w => { w with squallAt := some 0 }
def powerRun9 : State := up.modPw fun w => { w with clocksStopped := true }
def powerRun11 : State := up.modPort fun x => { x with aoRail := false }

/-- ChipPowerRuns: each clause, at ends of its ranges. -/
theorem test_meets_chipPowerRuns :
    ((start 0 powerRun0).flag Reg.PWR_SQUALL_CFG Fld.PWR_SQUALL_CFG_ENABLE = true ∧
      (start 0 powerRun0).pw.squallAt = none) ∧
    (squallOn (start 0 powerRun1) = true ∧ (start 0 powerRun1).pw.squallAt = some 1999800000 ∧
      1999800000 + 200000 ≤ (start 0 powerRun1).fc.now) ∧
    ((start 0 powerRun2).folio.sealing = some true) ∧
    ((start 0 powerRun3).pw.squallAt = some 0 ∧
      0 + (start 0 powerRun3).fld Reg.PWR_SQUALL_CFG Fld.PWR_SQUALL_CFG_RECOVER * 10000000 ≤ (start 0 powerRun3).fc.now ∧
      (start 0 powerRun3).folio.sealing ≠ some false) ∧
    (awake (start 0 hostRun12) = true ∧ 5 < 6 ∧ chipState (start 0 hostRun12) = 2) ∧
    ((List.replicate 8 25).length = 8 ∧ (start 0 up).pw.recovery = 0) ∧
    (awake (start 0 up) = true ∧ (13 : BitVec 4).toNat < 14) ∧
    (awake (start 0 up) = true) ∧
    ((start 0 up).pw.off = false ∧ (start 0 up).pw.clocksStopped = false) ∧
    ((start 0 powerRun9).pw.clocksStopped = true) ∧
    ((start 0 powerRun11).port.aoRail = false) :=
  ⟨by decide, by decide, by decide, by decide, by decide, by decide, by decide, by decide, by decide, by decide, by
    decide⟩

def resetRun0 : State := up.modNvm fun n => { n with windowEnd := some 2000000000, trialState := 2 }
def resetRun1 : State := up.modNvm fun n => { n with armedT := some 0 }

/-- WarmResetsRun: each clause, at ends of its ranges. -/
theorem test_meets_warmResetsRun :
    (awake (start 0 resetRun0) = true ∧ (start 0 resetRun0).nvm.windowEnd = some 2000000000 ∧
      2000000000 ≤ (start 0 resetRun0).fc.now ∧ trialRuns (start 0 resetRun0).nvm = true) ∧
    (awake (start 0 resetRun1) = true ∧ (start 0 resetRun1).nvm.armedT = some 0 ∧ 0 ≤ treeNs (start 0 resetRun1)) ∧
    (awake (start 0 dual) = true ∧ isDual (start 0 dual) = true) ∧
    (awake (start 0 up) = true ∧ isBranch (start 0 up) = false ∧ (start 0 up).pw.recovery = 0) ∧
    (awake (start 0 up) = true ∧ segPort 47 = true) ∧
    (awake (start 0 up) = true ∧ (start 0 up).pw.recovery = 0) :=
  ⟨by decide, by decide, by decide, by decide, by decide, by decide⟩

def faultRun3 : State := up.setFlag Reg.FOL_SCRUB Fld.FOL_SCRUB_SCRUB_EN true

/-- FaultsRun: each clause, at ends of its ranges. -/
theorem test_meets_faultsRun :
    (awake (start 0 up) = true ∧ protMode (start 0 up) ≠ 1) ∧
    (awake (start 0 up) = true ∧ (Reg.at (0 : BitVec 24).toNat).isSome = true ∧ protMode (start 0 up) ≠ 0) ∧
    (awake (start 0 up) = true ∧ (Reg.at (BitVec.ofNat 24 tripped : BitVec 24).toNat).isSome = true ∧
      protMode (start 0 up) ≠ 1 ∧ tripMask (BitVec.ofNat 24 tripped : BitVec 24).toNat ≠ 0) ∧
    (awake (start 0 faultRun3) = true ∧ (start 0 faultRun3).flag Reg.FOL_SCRUB Fld.FOL_SCRUB_SCRUB_EN = true) ∧
    (awake (start 0 up) = true ∧ ((start 0 up).sram.pages.any fun x => x.2 == 16383 % 2 ^ 14) = false) :=
  ⟨by decide, by decide, by decide, by decide, by decide⟩

def flashRun1 : State := up.modNvm fun n => { n with pendingMode := some 1 }
def flashRun2 : State := up.setFlag Reg.GLB_CENSUS Fld.GLB_CENSUS_BUSY true
def flashRun4 : State := up.modNvm fun n => { n with jobs := [.folioAhead 0] }
def flashRun6 : State := up.setFlag Reg.NVM_CTRL Fld.NVM_CTRL_SCRUB_EN true
def flashRun7 : State := up.setFlag Reg.NVM_STATUS Fld.NVM_STATUS_SCANNING true

/-- FlashRuns: each clause, at ends of its ranges. -/
theorem test_meets_flashRuns :
    (awake (start 0 activates) = true ∧ isActivating (start 0 activates) = true) ∧
    (awake (start 0 flashRun1) = true ∧ squallOn (start 0 flashRun1) = false ∧
      (start 0 flashRun1).nvm.pendingMode = some 1) ∧
    (awake (start 0 flashRun2) = true ∧ censusBusy (start 0 flashRun2) = true) ∧
    (awake (start 0 flashRun4) = true ∧ squallOn (start 0 flashRun4) = false ∧
      aheadSector (start 0 flashRun4).nvm = some 0) ∧
    (awake (start 0 flashRun6) = true ∧ (start 0 flashRun6).flag Reg.NVM_CTRL Fld.NVM_CTRL_SCRUB_EN = true) ∧
    (awake (start 0 flashRun7) = true ∧ (start 0 flashRun7).flag Reg.NVM_STATUS Fld.NVM_STATUS_SCANNING = true) :=
  ⟨by decide, by decide, by decide, by decide, by decide, by decide⟩

def portRun1 : State := up.modPort fun x => { x with st := 1 }
def portRun3 : State := up.modPort fun x => { x with ownReq := 1 }
def portRun4 : State := up.modPort fun x => { x with resetOut := true, frsBusy := true }
def portRun5 : State := up.modPort fun x => { x with asked := some ⟨0, []⟩ }
def portRun6 : State := up.modPort fun x => { x with st := 3, recoveryEnd := 2000000000 }
def portRun8 : State := up.setFlag Reg.PDP_USB_STATUS Fld.PDP_USB_STATUS_CONNECTED true
def maintRun1 : State := up.modPw fun w => { w with recovery := 3 }

/-- ServicePortRuns: each clause, at ends of its ranges. -/
theorem test_meets_servicePortRuns :
    ((start 0 portRun1).port.st ≠ 0 ∧ (start 0 portRun1).port.st ≠ 3) ∧
    (((start 0 portRun3).port.ownReq ≠ 0 ∨ (start 0 portRun3).port.resetOut = true) ∧
      (start 0 portRun3).port.sentAt + (start 0 portRun3).fld Reg.PDP_TIMER Fld.PDP_TIMER_SENDER_RESP_MS * 1000000 ≤ (start
        0 portRun3).fc.now ∧
      (start 0 portRun3).port.frsBusy = false) ∧
    (((start 0 portRun4).port.ownReq ≠ 0 ∨ (start 0 portRun4).port.resetOut = true) ∧
      (start 0 portRun4).port.sentAt + (start 0 portRun4).fld Reg.PDP_TIMER Fld.PDP_TIMER_SENDER_RESP_MS * 1000000 ≤ (start
        0 portRun4).fc.now ∧
      (start 0 portRun4).port.frsBusy = true) ∧
    ((start 0 portRun5).port.asked = some (⟨0, []⟩ : PdBlock) ∧
      (start 0 portRun5).port.askedAt + (start 0 portRun5).fld Reg.PDP_TIMER Fld.PDP_TIMER_HOST_RESP_MS * 1000000 ≤ (start
        0 portRun5).fc.now ∧
      portWaits (start 0 portRun5) = false) ∧
    ((start 0 portRun6).port.st = 3 ∧ (start 0 portRun6).port.recoveryEnd ≤ (start 0 portRun6).fc.now) ∧
    ((start 0 portRun8).flag Reg.PDP_USB_STATUS Fld.PDP_USB_STATUS_CONNECTED = true) ∧
    (maintUp (start 0 (maint maintRun1)) = true ∧
      (start 0 (maint maintRun1)).pw.recovery ≠ 3 ∨ aoThere ((⟨1, 0x4000, 64, 0, List.replicate 256 1⟩ :
        MaintCmd).arg0.toNat / 4 * 4) = true) ∧
    (maintUp (start 0 (maint portWrite)) = true ∧ awake (start 0 (maint portWrite)) = true ∧
      maintServed (start 0 (maint portWrite)) true = true ∧
      1 ≤ (⟨1, 0x4000, 64, 0, List.replicate 256 1⟩ : MaintCmd).data.length / 4 ∧
      (⟨1, 0x4000, 64, 0, List.replicate 256 1⟩ : MaintCmd).data.length / 4 ≤ 64) ∧
    (maintUp (start 0 (maint up)) = true ∧ awake (start 0 (maint up)) = true ∧
      maintServed (start 0 (maint up)) false = true) ∧
    (maintUp (start 0 (maint portWrite)) = true ∧ awake (start 0 (maint portWrite)) = true ∧
      maintServed (start 0 (maint portWrite)) true = true ∧
      byteAt (fitBytes 40 (⟨1, 0, 0, 0, [1]⟩ : MaintCmd).data) 0 = 1) ∧
    (maintUp (start 0 (maint up)) = true ∧ awake (start 0 (maint up)) = true ∧
      ([1, 2, 3, 4, 5, 6, 7].contains (8 : Byte).toNat) = false) :=
  ⟨by decide, by decide, by decide, by decide, by decide, by decide, by decide, by decide, by decide, by decide, by
    decide⟩

end Sys2Proof.Tests
end

section
/-! Byte orders, the layouts of host entries, the frame CRC, and the words of the register table (R3, R4, R7, R8, R39,
R109, R111). -/
namespace Sys2Proof.Proofs
open Sys2Proof.Machine Sys2Proof.Laws

/-! ## Numbers as bytes (R3, R4) -/

/-- A little-endian number reads back wherever its bytes stand. -/
theorem leAt_embedded (n v : Nat) (pre post : List Byte) :
    leAt (pre ++ leBytes n v ++ post) pre.length n = v % 256 ^ n := by
  calc leAt (pre ++ leBytes n v ++ post) pre.length n
      = leAt (leBytes n v ++ post) 0 n := by
        rw [List.append_assoc]; exact leAt_append_right pre _ 0 n
    _ = leAt (leBytes n v) 0 n := leAt_append_left (by simp)
    _ = v % 256 ^ n := leAt_leBytes n v

/-- A big-endian number reads back wherever its bytes stand. -/
theorem beAt_embedded (n v : Nat) (pre post : List Byte) :
    beAt (pre ++ beBytes n v ++ post) pre.length n = v % 256 ^ n := by
  calc beAt (pre ++ beBytes n v ++ post) pre.length n
      = beAt (beBytes n v ++ post) 0 n := by
        rw [List.append_assoc]; exact beAt_append_right pre _ 0 n
    _ = beAt (beBytes n v) 0 n := beAt_append_left (by simp)
    _ = v % 256 ^ n := beAt_beBytes n v

/-- Settles O10: both byte orders read back at any offset. -/
theorem byteOrders : Obligations.ByteOrders := fun n v pre post =>
  ⟨leAt_embedded n v pre post, beAt_embedded n v pre post, leBytes_length n v, beBytes_length n v⟩

/-! ## The frame CRC (R109, R111) -/

/-- What the frame CRC covers: the payload and, when SECURE, the trailer. -/
def crcCovered (f : Vfp) : List Byte := f.payload ++ if f.secure then f.trailer else []

/-- A frame up to its frame CRC: header, HCRC, payload and trailer. -/
def vfpBody (f : Vfp) : List Byte := vfpHeader f ++ [BitVec.ofNat 8 (hcrc (vfpHeader f))] ++ crcCovered f

theorem vfpBody_length (f : Vfp) : (vfpBody f).length = 5 + (crcCovered f).length := by
  simp [vfpBody, vfpHeader]; omega

theorem vfpEncode_of_payload {f : Vfp} (h : f.payload ≠ []) :
    vfpEncode f = vfpBody f ++ beBytes 4 (crc32c (crcCovered f)) := by
  simp [vfpEncode, vfpBody, crcCovered, h]

theorem vfpEncode_of_no_payload {f : Vfp} (h : f.payload = []) : vfpEncode f = vfpBody f := by
  simp [vfpEncode, vfpBody, crcCovered, h]

/-- The frame CRC stands in the last four bytes of a frame with payload. -/
theorem frameCrc_last {f : Vfp} (h : f.payload ≠ []) :
    beAt (vfpEncode f) ((vfpEncode f).length - 4) 4 = crc32c (crcCovered f) := by
  have fits : crc32c (crcCovered f) % 256 ^ 4 = crc32c (crcCovered f) := Nat.mod_eq_of_lt (crc32c_lt _)
  have tail := beAt_embedded 4 (crc32c (crcCovered f)) (vfpBody f) []
  rw [fits, List.append_nil] at tail
  simpa [vfpEncode_of_payload h] using tail

/-- The check value over the ASCII digits 123456789 (R111). -/
theorem crc32c_check : crc32c [0x31, 0x32, 0x33, 0x34, 0x35, 0x36, 0x37, 0x38, 0x39] = 0xE3069283 := by
  simp [crc32c, crcReflByte, crcReflBit, List.range_succ]

/-- Settles O12: the parameters and the check value by computation, the place of the CRC by the layout of a frame. -/
theorem frameCrc : Obligations.FrameCrc := by
  refine ⟨fun _ => rfl, by decide, crc32c_check, fun f h => frameCrc_last h, fun f h => ?_⟩
  rw [vfpEncode_of_no_payload h, vfpBody_length, crcCovered, h]
  split <;> rfl

/-! ## Records of little-endian fields (R3) -/

/-- Fields, each a width in bytes and a value, one after the other. -/
def fieldBytes (fs : List (Nat × Nat)) : List Byte := fs.flatMap fun x => leBytes x.1 x.2

/-- The bytes that fields take. -/
def fieldWidth (fs : List (Nat × Nat)) : Nat := (fs.map Prod.fst).sum

theorem fieldBytes_length (fs : List (Nat × Nat)) : (fieldBytes fs).length = fieldWidth fs := by
  simp [fieldBytes, fieldWidth, List.length_flatMap]

/-- The k-th field reads back at the sum of the widths before it. -/
theorem leAt_fieldBytes (fs : List (Nat × Nat)) (k : Nat) (h : k < fs.length) :
    leAt (fieldBytes fs) (fieldWidth (fs.take k)) fs[k].1 = fs[k].2 % 256 ^ fs[k].1 := by
  have cut : fieldBytes fs =
      fieldBytes (fs.take k) ++ leBytes fs[k].1 fs[k].2 ++ fieldBytes (fs.drop (k + 1)) := by
    have split : fs = fs.take k ++ fs[k] :: fs.drop (k + 1) := by rw [List.getElem_cons_drop, List.take_append_drop]
    conv_lhs => rw [split]
    simp only [fieldBytes, List.flatMap_append, List.flatMap_cons, List.append_assoc]
  rw [cut, ← fieldBytes_length]
  exact leAt_embedded ..

theorem byteAt_eq_leAt (bs : List Byte) (i : Nat) : byteAt bs i = leAt bs i 1 := by simp [leAt]

/-- Three flags packed from bit 0 on read back. -/
theorem bitOf_flags : ∀ a b c : Bool,
    bitOf ((b2n a + 2 * b2n b + 4 * b2n c) % 256) 0 = a ∧ bitOf ((b2n a + 2 * b2n b + 4 * b2n c) % 256) 1 = b ∧
      bitOf ((b2n a + 2 * b2n b + 4 * b2n c) % 256) 2 = c := by decide

/-! ## CQ entries and FQ records -/

/-- The fields of a CQ entry, in the order of its table. -/
def cqFields (e : CqEntry) (phase : Bool) (sq : Nat) : List (Nat × Nat) :=
  [(4, e.tag), (1, e.status), (1, b2n phase + 2 * b2n e.late), (1, sq), (1, 0), (4, e.effLen), (4, e.sqHead),
    (8, e.fetchTime), (8, e.doneTime)]

theorem cqBytes_eq (e : CqEntry) (phase : Bool) (sq : Nat) : cqBytes e phase sq = fieldBytes (cqFields e phase sq) := by
  simp [cqBytes, cqFields, fieldBytes]

/-- The fields of an FQ record, in the order of its table. -/
def fqFields (r : FqRecord) (phase : Bool) : List (Nat × Nat) :=
  [(4, r.tag), (1, r.cause), (1, b2n phase + 2 * b2n r.originPf1 + 4 * b2n r.copy), (1, r.opcode), (1, r.sq), (4, r.tea),
    (1, r.finalStatus), (3, 0), (8, r.submitTime), (8, r.failTime), (8, r.count), (24, 0)]

theorem fqBytes_eq (r : FqRecord) (phase : Bool) : fqBytes r phase = fieldBytes (fqFields r phase) := by
  simp [fqBytes, fqFields, fieldBytes]

theorem cqBytes_layout (e : CqEntry) (phase : Bool) (sq : Nat) :
    (cqBytes e phase sq).length = 32 ∧ leAt (cqBytes e phase sq) 0 4 = e.tag % 2 ^ 32 ∧
    byteAt (cqBytes e phase sq) 4 = e.status % 256 ∧ bitOf (byteAt (cqBytes e phase sq) 5) 0 = phase ∧
    bitOf (byteAt (cqBytes e phase sq) 5) 1 = e.late ∧
    byteAt (cqBytes e phase sq) 6 = sq % 256 ∧ leAt (cqBytes e phase sq) 8 4 = e.effLen % 2 ^ 32 ∧
    leAt (cqBytes e phase sq) 12 4 = e.sqHead % 2 ^ 32 ∧ leAt (cqBytes e phase sq) 16 8 = e.fetchTime % 2 ^ 64 ∧
    leAt (cqBytes e phase sq) 24 8 = e.doneTime % 2 ^ 64 := by
  have field (k : Nat) (h : k < 9) := leAt_fieldBytes (cqFields e phase sq) k h
  have flags : leAt (fieldBytes (cqFields e phase sq)) 5 1 = (b2n phase + 2 * b2n e.late + 4 * b2n false) % 256 :=
    field 2 (by decide)
  obtain ⟨phaseBit, lateBit, -⟩ := bitOf_flags phase e.late false
  simp only [byteAt_eq_leAt, cqBytes_eq, fieldBytes_length, flags]
  exact ⟨rfl, field 0 (by decide), field 1 (by decide), phaseBit, lateBit, field 3 (by decide), field 5 (by decide),
    field 6 (by decide), field 7 (by decide), field 8 (by decide)⟩

theorem fqBytes_layout (r : FqRecord) (phase : Bool) :
    (fqBytes r phase).length = 64 ∧ leAt (fqBytes r phase) 0 4 = r.tag % 2 ^ 32 ∧
    byteAt (fqBytes r phase) 4 = r.cause % 256 ∧ bitOf (byteAt (fqBytes r phase) 5) 0 = phase ∧
    bitOf (byteAt (fqBytes r phase) 5) 1 = r.originPf1 ∧ bitOf (byteAt (fqBytes r phase) 5) 2 = r.copy ∧
    leAt (fqBytes r phase) 8 4 = r.tea % 2 ^ 32 ∧ leAt (fqBytes r phase) 16 8 = r.submitTime % 2 ^ 64 ∧
    leAt (fqBytes r phase) 24 8 = r.failTime % 2 ^ 64 ∧ byteAt (fqBytes r phase) 6 = r.opcode % 256 ∧
    byteAt (fqBytes r phase) 7 = r.sq % 256 ∧ byteAt (fqBytes r phase) 12 = r.finalStatus % 256 ∧
    leAt (fqBytes r phase) 32 8 = r.count % 2 ^ 64 := by
  have field (k : Nat) (h : k < 12) := leAt_fieldBytes (fqFields r phase) k h
  have flags : leAt (fieldBytes (fqFields r phase)) 5 1 = (b2n phase + 2 * b2n r.originPf1 + 4 * b2n r.copy) % 256 :=
    field 2 (by decide)
  obtain ⟨phaseBit, pf1Bit, copyBit⟩ := bitOf_flags phase r.originPf1 r.copy
  simp only [byteAt_eq_leAt, fqBytes_eq, fieldBytes_length, flags]
  exact ⟨rfl, field 0 (by decide), field 1 (by decide), phaseBit, pf1Bit, copyBit, field 5 (by decide),
    field 8 (by decide), field 9 (by decide), field 3 (by decide), field 4 (by decide), field 6 (by decide),
    field 10 (by decide)⟩

/-- Settles O18: each entry is a row of fields, and a field reads back at its offset. -/
theorem entryLayouts : Obligations.EntryLayouts := ⟨cqBytes_layout, fqBytes_layout⟩

/-! ## Register words (R8, R39) -/

/-- A counter advances modulo 2^32 (R8). -/
theorem rd_bump_self (s : State) (a n : Nat) (h : s.regs.wf = true) :
    (s.bump a n).rd a = s.rd a + BitVec.ofNat 32 n := rd_wr_self s a _ h

/-- Settles O19, by reading after writing the canonical register table. -/
theorem registerWordsHold : Obligations.RegisterWordsHold := by
  intro s a w h
  refine ⟨rd_wr_self s a w h, fun x hx => rd_wr_ne s w h hx, wf_wr s a w h, fun n => ?_, fun full => ?_⟩
  · rw [rd_bump_self s a n h]; simp
  · rw [rd_bump_self s a 1 h, full]; rfl

/-! ## Addresses without a register (R7) -/

theorem writeReg_of_unassigned {a : Nat} (h : Reg.at a = none) (x : WriteIn) (s : State) (ini : Initiator) (w : Word) :
    writeReg x s ini a w = s := by simp only [writeReg, h]

theorem readHalf_of_unassigned {acc : Access} {k : Nat} (h : Reg.at (acc.addr.toNat / 8 * 8 + 4 * k) = none) (s : State) :
    readHalf s acc k = (s, 0) := by simp [readHalf, h]

/-- Settles O20: a write and a read look the register up first. -/
theorem unassignedRegisters : Obligations.UnassignedRegisters := by
  intro s ini a unassigned
  refine ⟨fun x w => writeReg_of_unassigned unassigned x s ini w, fun acc k there => ?_⟩
  subst there
  exact readHalf_of_unassigned unassigned s

end Sys2Proof.Proofs
end

section
/-! Tree addresses, the interval grid and the SOF token (R16, R22, R26). -/
namespace Sys2Proof.Proofs
open Sys2Proof.Machine Sys2Proof.Laws Sys2Proof.Safety

/-! ## Tree addresses (R16) -/

/-- The fields of a TEA as quotients and remainders. -/
theorem teaHub_eq (tea : Nat) : teaHub tea = tea / 524288 % 32 := bitsOf_eq ..
theorem teaPort_eq (tea : Nat) : teaPort tea = tea / 8192 % 64 := bitsOf_eq ..
theorem teaNode_eq (tea : Nat) : teaNode tea = tea / 32 % 256 := bitsOf_eq ..
theorem teaEp_eq (tea : Nat) : teaEp tea = tea % 32 := by simpa [teaEp] using bitsOf_eq tea 0 5

theorem tea_of_fields {hub port node ep : Nat} (hHub : hub < 32) (hPort : port < 64) (hNode : node < 256) (hEp : ep < 32) :
    mkTea hub port node ep < 2 ^ 24 ∧ teaHub (mkTea hub port node ep) = hub ∧ teaPort (mkTea hub port node ep) = port ∧
      teaNode (mkTea hub port node ep) = node ∧ teaEp (mkTea hub port node ep) = ep := by
  simp only [teaHub_eq, teaPort_eq, teaNode_eq, teaEp_eq, mkTea]
  omega

theorem mkTea_of_tea {tea : Nat} (h : tea < 2 ^ 24) : mkTea (teaHub tea) (teaPort tea) (teaNode tea) (teaEp tea) = tea := by
  simp only [teaHub_eq, teaPort_eq, teaNode_eq, teaEp_eq, mkTea]
  omega

/-- Settles O9: a TEA is the number whose digits are its fields. -/
theorem teaLayout : Obligations.TeaLayout :=
  ⟨fun _ _ _ _ hHub hPort hNode hEp => tea_of_fields hHub hPort hNode hEp,
    fun _ h => ⟨mkTea_of_tea h, rfl, rfl, rfl, rfl⟩, by decide⟩

/-! ## The SOF token (R22) -/

theorem b2n_le_one (b : Bool) : b2n b ≤ 1 := by cases b <;> decide

/-- The first byte of a frame holds its type in the upper half. -/
theorem frameType_vfpEncode (f : Vfp) : byteAt (vfpEncode f) 0 / 16 = f.ftype % 16 := by
  have toggle := b2n_le_one f.toggle
  have more := b2n_le_one f.more
  have secure := b2n_le_one f.secure
  simp only [vfpEncode, vfpHeader, byteAt, List.cons_append, List.getD_cons_zero, BitVec.toNat_ofNat]
  omega

/-- What follows the payload of a frame: the trailer when SECURE, and the frame CRC. -/
def vfpTail (f : Vfp) : List Byte :=
  (if f.secure then f.trailer else []) ++ if f.payload.isEmpty then [] else beBytes 4 (crc32c (crcCovered f))

theorem vfpEncode_eq (f : Vfp) :
    vfpEncode f = vfpHeader f ++ [BitVec.ofNat 8 (hcrc (vfpHeader f))] ++ f.payload ++ vfpTail f := by
  simp only [vfpEncode, vfpTail, crcCovered, List.append_assoc]

/-- A payload that is one number reads back behind the header and its HCRC. -/
theorem beAt_payload {f : Vfp} {n v : Nat} (h : f.payload = beBytes n v) : beAt (vfpEncode f) 5 n = v % 256 ^ n := by
  rw [vfpEncode_eq, h]
  exact beAt_embedded n v (vfpHeader f ++ [BitVec.ofNat 8 (hcrc (vfpHeader f))]) (vfpTail f)

theorem sofFrame_payload (s : State) : beAt (sofFrame s) 5 2 = s.fc.frameNo % 65536 := by
  rw [sofFrame, beAt_payload rfl]
  exact Nat.mod_mod _ _

/-- A SOF depends on the frame number modulo 65,536 alone. -/
theorem sofFrame_congr {s u : State} (h : u.fc.frameNo % 65536 = s.fc.frameNo % 65536) : sofFrame u = sofFrame s := by
  simp only [sofFrame, h]

/-- Settles O13: the payload of SOF is the number modulo 65,536, and nothing else of it varies. -/
theorem sofCarriesLowFrame : Obligations.SofCarriesLowFrame :=
  ⟨fun s => ⟨sofFrame_payload s, frameType_vfpEncode _⟩, fun _ _ later => sofFrame_congr (by omega)⟩

/-! ## The grid of periodic intervals (R26) -/

/-- Step 1 of R26 below 1 ms: the next lower of 125, 250 and 500 µs, and 125 µs below these. -/
theorem askedUs_below_ms {us : Nat} (h1 : 1 ≤ us) (h : us < 1000) :
    us < 250 ∧ askedUs us = 125 ∨ 250 ≤ us ∧ us < 500 ∧ askedUs us = 250 ∨ 500 ≤ us ∧ askedUs us = 500 := by
  simp only [askedUs]
  split_ifs <;> omega

/-- Step 1 of R26 from 1 ms on: whole milliseconds, at most 65,535. -/
theorem askedUs_of_ms {us : Nat} (h : 1000 ≤ us) : askedUs us = min 65535 (us / 1000) * 1000 := by
  simp only [askedUs, Nat.min_def]
  split_ifs <;> omega

theorem askedUs_onGrid {us : Nat} (h1 : 1 ≤ us) : OnGrid (askedUs us) := by
  unfold OnGrid
  rcases lt_or_ge us 1000 with h | h
  · have := askedUs_below_ms h1 h
    omega
  · exact .inr (.inr (.inr ⟨min 65535 (us / 1000), by omega, by omega, askedUs_of_ms h⟩))

theorem askedUs_le {us : Nat} (h : 125 ≤ us) : askedUs us ≤ us := by
  rcases lt_or_ge us 1000 with h' | h'
  · have := askedUs_below_ms (by omega) h'
    omega
  · rw [askedUs_of_ms h']
    omega

/-- No grid value lies between the rounded interval and the request. -/
theorem le_askedUs_of_onGrid {us g : Nat} (h : 125 ≤ us) (hg : OnGrid g) (hle : g ≤ us) : g ≤ askedUs us := by
  rcases lt_or_ge us 1000 with h' | h'
  · have := askedUs_below_ms (by omega) h'
    rcases hg with rfl | rfl | rfl | ⟨ms, h1, -, rfl⟩ <;> omega
  · rw [askedUs_of_ms h']
    rcases hg with rfl | rfl | rfl | ⟨ms, -, hms, rfl⟩ <;> omega

/-- Settles O41, below 1 ms by the three short values and from there by whole milliseconds. -/
theorem intervalGrid : Obligations.IntervalGrid := by
  intro us h1
  refine ⟨askedUs_onGrid h1, fun short => ?_, fun long => ?_, fun h => ⟨askedUs_le h, fun g => le_askedUs_of_onGrid h⟩⟩
  · have := askedUs_below_ms h1 (by omega)
    omega
  · rw [askedUs_of_ms (by omega)]
    omega

end Sys2Proof.Proofs
end

section
/-! The frame clock: which commands move it, and that every step keeps it sound (R15, R20, R21, R415). -/
namespace Sys2Proof.Proofs
open Sys2Proof.Machine Sys2Proof.Laws Sys2Proof.Safety

/-! ## Commands that leave the count of frames alone (R21) -/

/-- The outcome is a next state whose frame clock is that of s, brought to some instant. -/
def OnlyTimePasses (s : State) (o : Host.Outcome State Fault Refusal) : Prop :=
  ∃ t u, o = .next u ∧ u.fc = (start t s).fc

theorem onlyTimePasses_aoEffect (t : Nat) (s : State) (f : State → State) : OnlyTimePasses s (aoEffect t s f) :=
  ⟨t, _, rfl, rfl⟩

theorem onlyTimePasses_tickEffect {t : Nat} {s : State} {clock : State → FrameClock} (f : State → State)
    (h : clock (start t s) = (start t s).fc) : OnlyTimePasses s (tickEffect t s clock f) :=
  ⟨t, _, tickEffect_kept f h, rfl⟩

theorem onlyTimePasses_whenWf (ok : Bool) (t : Nat) {s : State} {o : Host.Outcome State Fault Refusal}
    (h : OnlyTimePasses s o) : OnlyTimePasses s (whenWf ok t s o) := by
  cases ok
  · exact onlyTimePasses_aoEffect t s id
  · exact h

theorem OnlyTimePasses.sameCount {s u : State} {o : Host.Outcome State Fault Refusal} (h : OnlyTimePasses s o)
    (hu : o = .next u) : u.fc.frameNo = s.fc.frameNo ∧ u.fc.frameStart = s.fc.frameStart ∧ u.fc.slot = s.fc.slot := by
  obtain ⟨t, v, rfl, hv⟩ := h
  cases hu
  simp [hv]

/-- Every row but the thirteen of movesClock is wrapped in aoEffect, of which effect and timeEffect are cases. -/
theorem exec_eq_aoEffect {c : Instr} (s : State) (h : movesClock c = false) :
    ∃ t f, exec c s = whenWf (WellFormed.wf c) t s (aoEffect t s f) := by
  cases c
  case frameBoundary | gustSlotBoundary | powerOnReset | perst | perstNRelease | thermalAutoRestart | vaultTimerExpiry
    | typecAttach | vbusRemoved | restart | orphanStartTimeout | role | timeSync => cases h
  all_goals
    dsimp only [exec]
    exact ⟨_, _, rfl⟩

theorem exec_onlyTimePasses {c : Instr} (s : State) (h : movesClock c = false) : OnlyTimePasses s (exec c s) := by
  obtain ⟨t, f, e⟩ := exec_eq_aoEffect s h
  rw [e]
  exact onlyTimePasses_whenWf _ t (onlyTimePasses_aoEffect t s f)

/-! ## ROLE and TIME_SYNC (R15, R219, R284) -/

theorem roleClock_of_framed (frame : Nat) {s : State} (h : s.neverFramed = false) : roleClock frame s = s.fc := by
  simp [roleClock, h]

theorem syncClock_of_framed (m : SyncMsg) {s : State} (h : s.neverFramed = false) : syncClock m s = s.fc := by
  simp [syncClock, framesNow, h]

theorem exec_role_onlyTimePasses (t : Nat) (hub : BitVec 5) (frame : Word) (ftime : Nat) (p : UpParams) {s : State}
    (h : s.neverFramed = false) : OnlyTimePasses s (exec (.role t hub frame ftime p) s) :=
  onlyTimePasses_tickEffect _ (roleClock_of_framed _ h)

theorem exec_timeSync_onlyTimePasses (t : Nat) (m : SyncMsg) {s : State} (h : s.neverFramed = false) :
    OnlyTimePasses s (exec (.timeSync t m) s) :=
  onlyTimePasses_whenWf _ t (onlyTimePasses_tickEffect _ (syncClock_of_framed m h))

/-- Settles O5: a row outside movesClock only passes time, and so do ROLE and TIME_SYNC on a hub that has framed. -/
theorem frameCountMovesOnlyHere : Obligations.FrameCountMovesOnlyHere :=
  ⟨fun _ s _ still => (exec_onlyTimePasses s still).sameCount,
    fun t hub frame ftime p _ _ framed => (exec_role_onlyTimePasses t hub frame ftime p framed).sameCount,
    fun t m _ _ framed => (exec_timeSync_onlyTimePasses t m framed).sameCount⟩

/-! ## The clocks that rows set are sound (R15, R20, R21) -/

theorem clockSound_start (t : Nat) {s : State} (h : ClockSound s.fc) : ClockSound (start t s).fc := by
  obtain ⟨slot, no, begun⟩ := h
  refine ⟨slot, no, ?_⟩
  simp only [start_frameStart, start_slot, start_now]
  omega

/-- Frame 0 begins at the instant itself. -/
theorem clockSound_coldClock (s : State) : ClockSound (coldClock s) := by
  simp [ClockSound, coldClock]

theorem clockSound_roleClock {frame : Nat} {s : State} (hf : frame < 2 ^ 32) (h : ClockSound s.fc) :
    ClockSound (roleClock frame s) := by
  obtain ⟨slot, no, begun⟩ := h
  unfold roleClock
  split
  · exact ⟨slot, hf, begun⟩
  · exact ⟨slot, no, begun⟩

/-- A branch never takes a frame start after its own instant. -/
theorem clockSound_syncClock {m : SyncMsg} {s : State} (hm : m.frame < 2 ^ 32) (h : ClockSound s.fc) :
    ClockSound (syncClock m s) := by
  unfold syncClock
  split
  · exact ⟨by simp, hm, by simp⟩
  · exact h

/-- The next frame begins where the boundary has come to. -/
theorem clockSound_boundaryClock {s : State} (h : ClockSound s.fc) (due : framing s = true → nextFrame s ≤ s.fc.now) :
    ClockSound (boundaryClock s) := by
  unfold boundaryClock
  split
  · next runs => exact ⟨by simp, Nat.mod_lt _ (by decide), by simpa using due runs⟩
  · exact h

theorem slotBegins_iff {s : State} :
    slotBegins s = true ↔ awake s = true ∧ framing s = true ∧ s.booted = true ∧ s.fc.slot ≠ 7 := by
  simp [slotBegins, and_assoc]

/-- The next slot begins where the boundary has come to. -/
theorem clockSound_slotClock {s : State} (h : ClockSound s.fc) (due : slotBegins s = true → nextSlot s ≤ s.fc.now) :
    ClockSound (slotClock s) := by
  obtain ⟨slot, no, begun⟩ := h
  unfold slotClock
  split
  · next begins =>
    obtain ⟨-, -, -, notLast⟩ := slotBegins_iff.mp begins
    exact ⟨by simp only; omega, no, due begins⟩
  · exact ⟨slot, no, begun⟩

/-! No clock that a row sets moves the instant. -/

theorem roleClock_now (frame : Nat) (s : State) : (roleClock frame s).now = s.fc.now := by
  unfold roleClock; split <;> rfl

theorem syncClock_now (m : SyncMsg) (s : State) : (syncClock m s).now = s.fc.now := by
  unfold syncClock; split <;> rfl

theorem boundaryClock_now (s : State) : (boundaryClock s).now = s.fc.now := by
  unfold boundaryClock; split <;> rfl

theorem slotClock_now (s : State) : (slotClock s).now = s.fc.now := by
  unfold slotClock; split <;> rfl

/-! ## A boundary waits for its instant (R20) (log entry 5) -/

/-- A command that happens at the later of t and some instant is not before that instant. -/
theorem le_start_max (t n : Nat) (s : State) : n ≤ (start (Nat.max t n) s).fc.now := by
  rw [start_now]
  exact le_trans (Nat.le_max_right t n) (le_max_right _ _)

theorem nextFrame_start (t : Nat) (s : State) : nextFrame (start t s) = nextFrame s := rfl

theorem framing_start (t : Nat) (s : State) : framing (start t s) = framing s := rfl

/-- The instant at which FRAME_BOUNDARY happens. -/
def boundaryAt (t : Nat) (s : State) : Nat := if framing s then Nat.max t (nextFrame s) else t

/-- The instant at which GUST_SLOT_BOUNDARY happens. -/
def slotAt (t : Nat) (s : State) : Nat := if framing s && s.fc.slot != 7 then Nat.max t (nextSlot s) else t

theorem exec_frameBoundary_eq (t : Nat) (s : State) : exec (.frameBoundary t) s =
    tickEffect (boundaryAt t s) s boundaryClock fun b => settle (frameBoundary b) := rfl

theorem exec_gustSlotBoundary_eq (t : Nat) (s : State) : exec (.gustSlotBoundary t) s =
    tickEffect (slotAt t s) s slotClock fun b => if awake b then settle (slotBoundary b) else b := rfl

theorem nextFrame_le_boundaryAt (t : Nat) {s : State} (runs : framing s = true) :
    nextFrame s ≤ (start (boundaryAt t s) s).fc.now := by
  rw [boundaryAt, if_pos runs]
  exact le_start_max t _ s

theorem nextSlot_le_slotAt (t : Nat) {s : State} (runs : framing s = true) (notLast : s.fc.slot ≠ 7) :
    nextSlot s ≤ (start (slotAt t s) s).fc.now := by
  rw [slotAt, if_pos (by simp [runs, notLast])]
  exact le_start_max t _ s

/-! ## Every step keeps the clock sound -/

/-- The outcome is a next state with a sound frame clock whose instant is not before that of s. -/
def ClockGoesOn (s : State) (o : Host.Outcome State Fault Refusal) : Prop :=
  ∃ u, o = .next u ∧ ClockSound u.fc ∧ s.fc.now ≤ u.fc.now

theorem OnlyTimePasses.clockGoesOn {s : State} {o : Host.Outcome State Fault Refusal} (ho : OnlyTimePasses s o)
    (h : ClockSound s.fc) : ClockGoesOn s o := by
  obtain ⟨t, u, e, hu⟩ := ho
  refine ⟨u, e, ?_, ?_⟩
  · rw [hu]; exact clockSound_start t h
  · rw [hu, start_now]; exact le_max_left _ _

theorem clockGoesOn_tickEffect {t : Nat} {s : State} {clock : State → FrameClock} (f : State → State)
    (now : ∀ b, (clock b).now = b.fc.now) (sound : ClockSound (clock (start t s))) :
    ClockGoesOn s (tickEffect t s clock f) :=
  ⟨_, rfl, sound, by rw [now, start_now]; exact le_max_left _ _⟩

/-- A reset begins frame 0; where it is none, only time passes. -/
theorem clockGoesOn_resetEffect (t : Nat) {s : State} (does : State → Bool) (f : State → State) (h : ClockSound s.fc) :
    ClockGoesOn s (resetEffect t s does f) := by
  refine clockGoesOn_tickEffect f (fun b => ?_) ?_
  · split <;> rfl
  · split
    · exact clockSound_coldClock _
    · exact clockSound_start t h

theorem clockGoesOn_whenWf {ok : Bool} {t : Nat} {s : State} {o : Host.Outcome State Fault Refusal}
    (h : ClockSound s.fc) (ho : ok = true → ClockGoesOn s o) : ClockGoesOn s (whenWf ok t s o) := by
  cases ok
  · exact (onlyTimePasses_aoEffect t s id).clockGoesOn h
  · exact ho rfl

theorem clockGoesOn_frameBoundary (t : Nat) {s : State} (h : ClockSound s.fc) :
    ClockGoesOn s (exec (.frameBoundary t) s) := by
  rw [exec_frameBoundary_eq]
  exact clockGoesOn_tickEffect _ boundaryClock_now
    (clockSound_boundaryClock (clockSound_start _ h) fun runs => nextFrame_le_boundaryAt (s := s) t runs)

theorem clockGoesOn_gustSlotBoundary (t : Nat) {s : State} (h : ClockSound s.fc) :
    ClockGoesOn s (exec (.gustSlotBoundary t) s) := by
  rw [exec_gustSlotBoundary_eq]
  refine clockGoesOn_tickEffect _ slotClock_now (clockSound_slotClock (clockSound_start _ h) fun begins => ?_)
  obtain ⟨-, runs, -, notLast⟩ := slotBegins_iff.mp begins
  exact nextSlot_le_slotAt (s := s) t runs notLast

theorem clockGoesOn_role (t : Nat) (hub : BitVec 5) (frame : Word) (ftime : Nat) (p : UpParams) {s : State}
    (h : ClockSound s.fc) : ClockGoesOn s (exec (.role t hub frame ftime p) s) :=
  clockGoesOn_tickEffect _ (roleClock_now _) (clockSound_roleClock frame.isLt (clockSound_start t h))

theorem clockGoesOn_timeSync (t : Nat) (m : SyncMsg) {s : State} (h : ClockSound s.fc) :
    ClockGoesOn s (exec (.timeSync t m) s) :=
  clockGoesOn_whenWf h fun ok =>
    clockGoesOn_tickEffect _ (syncClock_now m) (clockSound_syncClock (of_decide_eq_true ok) (clockSound_start t h))

/-- The thirteen rows of movesClock are two boundaries, two messages and nine resets; in every other only time passes. -/
theorem exec_clockGoesOn (c : Instr) {s : State} (h : ClockSound s.fc) : ClockGoesOn s (exec c s) := by
  cases c
  case frameBoundary t => exact clockGoesOn_frameBoundary t h
  case gustSlotBoundary t => exact clockGoesOn_gustSlotBoundary t h
  case role t hub frame ftime p => exact clockGoesOn_role t hub frame ftime p h
  case timeSync t m => exact clockGoesOn_timeSync t m h
  case powerOnReset | perst | perstNRelease | thermalAutoRestart | vaultTimerExpiry | typecAttach | vbusRemoved | restart
    | orphanStartTimeout =>
    dsimp only [exec]
    exact clockGoesOn_whenWf h fun _ => clockGoesOn_resetEffect _ _ _ h
  all_goals exact (exec_onlyTimePasses s rfl).clockGoesOn h

/-- Settles O4: an idle step changes nothing, and every command keeps the clock sound. -/
theorem clockStaysSound : Obligations.ClockStaysSound := by
  intro s u h hu
  unfold step at hu
  split at hu
  · cases hu
    exact ⟨h, le_rfl⟩
  · next c rest _ =>
    obtain ⟨v, hv, sound, later⟩ := exec_clockGoesOn c (s := { s with pending := rest }) h
    cases hv.symm.trans hu
    exact ⟨sound, later⟩

end Sys2Proof.Proofs
end
section
/-! The boundaries, the state after reset, the cold starts and the first framing of a branch (R15, R20, R21, R48, R219,
R220, R238, R413, R414, R415). -/
namespace Sys2Proof.Proofs
open Sys2Proof.Machine Sys2Proof.Laws Sys2Proof.Safety

/-- A term that names what the hub has is run. -/
theorem whenWf_of_wf {c : Instr} (t : Nat) (s : State) (o : Host.Outcome State Fault Refusal)
    (h : WellFormed.wf c = true) : whenWf (WellFormed.wf c) t s o = o := by
  rw [h, whenWf_true]

/-! ## The boundaries (R20, R21, R238) -/

theorem boundaryClock_of_framing {s : State} (h : framing s = true) :
    boundaryClock s = ⟨s.fc.now, (s.fc.frameNo + 1) % 2 ^ 32, nextFrame s, 0⟩ := if_pos h

theorem slotClock_of_begins {s : State} (h : slotBegins s = true) :
    slotClock s = ⟨s.fc.now, s.fc.frameNo, s.fc.frameStart, s.fc.slot + 1⟩ := if_pos h

/-- Off a branch nothing moves the phase of the frames: they lie 1 ms apart (R20, R284). -/
theorem nextFrame_of_root {s : State} (h : isBranch s = false) : nextFrame s = s.fc.frameStart + 1000000 := by
  simp only [nextFrame, phaseMove, h, Bool.false_eq_true, if_false]
  omega

/-- At its instant FRAME_BOUNDARY moves the clock by its rule and does the work of the boundary. -/
theorem exec_frameBoundary_of_framing {t : Nat} {s b : State} (runs : framing s = true)
    (hb : b = start (Nat.max t (nextFrame s)) s) :
    exec (.frameBoundary t) s = .next { settle (frameBoundary b) with
      fc := ⟨b.fc.now, (s.fc.frameNo + 1) % 2 ^ 32, nextFrame s, 0⟩, pending := s.pending } := by
  have due : boundaryAt t s = Nat.max t (nextFrame s) := if_pos runs
  have runs' : framing b = true := by rw [hb, framing_start, runs]
  have clock : boundaryClock b = ⟨b.fc.now, (s.fc.frameNo + 1) % 2 ^ 32, nextFrame s, 0⟩ := by
    rw [boundaryClock_of_framing runs', hb, nextFrame_start, start_frameNo]
  rw [exec_frameBoundary_eq, due, ← clock, tickEffect, hb]

/-- At its instant GUST_SLOT_BOUNDARY begins the next slot and does its work. -/
theorem exec_gustSlotBoundary_of_begins {t : Nat} {s b : State} (runs : framing s = true) (up : awake s = true)
    (booted : s.booted = true) (notLast : s.fc.slot < 7) (hb : b = start (Nat.max t (nextSlot s)) s) :
    exec (.gustSlotBoundary t) s = .next { settle (slotBoundary b) with
      fc := ⟨b.fc.now, s.fc.frameNo, s.fc.frameStart, s.fc.slot + 1⟩, pending := s.pending } := by
  have due : slotAt t s = Nat.max t (nextSlot s) := if_pos (by simp [runs, Nat.ne_of_lt notLast])
  have up' : awake b = true := by rw [hb, start_awake, up]
  have begins : slotBegins b = true := by
    rw [hb]; exact slotBegins_iff.mpr ⟨up, runs, booted, Nat.ne_of_lt notLast⟩
  have clock : slotClock b = ⟨b.fc.now, s.fc.frameNo, s.fc.frameStart, s.fc.slot + 1⟩ := by
    rw [slotClock_of_begins begins, hb, start_frameNo, start_frameStart, start_slot]
  rw [exec_gustSlotBoundary_eq, due, ← clock, tickEffect, ← hb]
  simp only [up', if_true]

theorem epochBegins_iff {s : State} : epochBegins s = true ↔
    framing s = true ∧ s.booted = true ∧ s.fc.slot = 0 ∧
      s.fc.frameNo % Nat.max 1 (s.fld Reg.LIB_EPOCH Fld.LIB_EPOCH_MS) = 0 ∧ s.epochFrame ≠ some s.fc.frameNo := by
  simp [epochBegins, and_assoc]

theorem epochBoundary_of_begins {s : State} (h : epochBegins s = true) : epochBoundary s =
    { (if isHeld (applyShadows s .epoch) 6 then applyShadows s .epoch else epochWork (applyShadows s .epoch)) with
      epochFrame := some s.fc.frameNo } := if_pos h

/-- Settles O6: each boundary happens at its instant, where its clock rule and its work apply. -/
theorem boundariesRun : Obligations.BoundariesRun := by
  refine ⟨fun _ _ _ => exec_frameBoundary_of_framing, fun _ => nextFrame_of_root,
    fun _ _ _ => exec_gustSlotBoundary_of_begins, fun t s b x hb up runs booted slot epoch once hx => ?_⟩
  have begins := epochBegins_iff.mpr ⟨runs, booted, slot, epoch, once⟩
  subst hx hb
  rw [exec_epochBoundary, execEpochBoundary, whenWf_of_wf _ _ _ rfl, ← epochBoundary_of_begins begins]
  exact effect_awake _ up

/-! ## The state after reset (R20, R100, R103, R415) -/

/-- Settles O7: State.reset has empty tables, and a register reads its reset word. -/
theorem resetState : Obligations.ResetState := by
  have sound : ClockSound State.reset.fc := clockSound_coldClock State.reset
  exact ⟨rfl, by decide, sound, rfl, fun _ _ => rfl, rfl, rfl, by decide, by decide, by decide, by decide⟩

/-! ## Cold starts (R20, R320, R413, R415) -/

/-- The state u after a command at instant t that is a reset: frame 0 begins at that instant. -/
def coldStarted (t : Nat) (s u : State) : State := { u with fc := coldClock (start t s), pending := s.pending }

theorem resetEffect_of_reset {t : Nat} {s : State} {does : State → Bool} (f : State → State)
    (h : does (start t s) = true) : resetEffect t s does f = .next (coldStarted t s (f (start t s))) := by
  simp [resetEffect, tickEffect, coldStarted, h]

theorem resetEffect_of_not_reset {t : Nat} {s : State} {does : State → Bool} (f : State → State)
    (h : does (start t s) = false) : resetEffect t s does f = .next (ended t s (f (start t s))) :=
  tickEffect_kept f (by simp [h])

/-- A row that does its reset under the condition on which it is one. -/
theorem resetEffect_guarded {t : Nat} {s : State} {does : State → Bool} (f g : State → State)
    (h : does (start t s) = true) :
    resetEffect t s does (fun b => if does b then f b else g b) = .next (coldStarted t s (f (start t s))) := by
  rw [resetEffect_of_reset _ h, if_pos h]

theorem attachWakes_of_on {s : State} (h : s.pw.off = false) : attachWakes s = false := by simp [attachWakes, h]

/-- RESTART in Recovery while the AO rail is there. -/
theorem maintRestart_of_recovery {s : State} (c : MaintCmd) (x : BootIn) (inRec : s.pw.recovery ≠ 0)
    (rail : s.port.aoRail = true) :
    maintRestart s c x = resetButAo (maintReply s 7 Status.done c.tag.toNat []) x 1 := by
  simp [maintRestart, inRec, rail]

theorem exec_powerOnReset_eq (t : Nat) (x : BootIn) (s : State) :
    exec (.powerOnReset t x) s = .next (coldStarted t s (powerOnReset (start t s) x)) := by
  rw [exec_powerOnReset, execPowerOnReset, whenWf_of_wf _ _ _ rfl]
  exact resetEffect_of_reset _ rfl

theorem exec_perst_of_takes {t : Nat} {s : State} (x : BootIn) (h : takesPerst (start t s) = true) :
    exec (.perst t x) s = .next (coldStarted t s (perstReset (start t s) x)) := by
  rw [exec_perst, execPerst, whenWf_of_wf _ _ _ rfl]
  exact resetEffect_guarded _ _ h

theorem exec_perstNRelease_of_wakes {t : Nat} {s : State} {fn : Fn} (x : BootIn) (h : perstWakes fn (start t s) = true) :
    exec (.perstNRelease t fn x) s = .next (coldStarted t s (wakeReset (start t s) x 2)) := by
  rw [exec_perstNRelease, execPerstNRelease, whenWf_of_wf _ _ _ rfl]
  exact resetEffect_guarded _ _ h

theorem exec_thermalAutoRestart_of_restarts {t : Nat} {s : State} (x : BootIn) (h : thermalRestarts (start t s) = true) :
    exec (.thermalAutoRestart t x) s = .next (coldStarted t s (wakeReset (start t s) x 5)) := by
  rw [exec_thermalAutoRestart, execThermalAutoRestart, whenWf_of_wf _ _ _ rfl]
  exact resetEffect_guarded _ _ h

theorem exec_vaultTimerExpiry_of_over {t : Nat} {s : State} (x : BootIn) (h : vaultTimerOver (start t s) = true) :
    exec (.vaultTimerExpiry t x) s = .next (coldStarted t s (wakeReset (start t s) x 4)) := by
  rw [exec_vaultTimerExpiry, execVaultTimerExpiry, whenWf_of_wf _ _ _ rfl]
  exact resetEffect_guarded _ _ h

section
variable {t : Nat} {s : State} (source orient : Bool) (rp : BitVec 2) (x : BootIn)

theorem exec_typecAttach_of_wakes (h : attachWakes (start t s) = true) : exec (.typecAttach t source orient rp x) s =
    .next (coldStarted t s (wakeReset (portAttach (start t s) source orient rp.toNat) x 3)) := by
  rw [exec_typecAttach, execTypecAttach, whenWf_of_wf _ _ _ rfl]
  exact resetEffect_guarded _ _ h

theorem exec_typecAttach_of_on (h : (start t s).pw.off = false) : exec (.typecAttach t source orient rp x) s =
    .next (ended t s (lullWake (portAttach (start t s) source orient rp.toNat) 7)) := by
  have stays := attachWakes_of_on h
  rw [exec_typecAttach, execTypecAttach, whenWf_of_wf _ _ _ rfl]
  refine (resetEffect_of_not_reset _ stays).trans ?_
  rw [start_pw] at h
  simp [stays, h]

end

theorem exec_vbusRemoved_of_recovery {t : Nat} {s : State} (x : BootIn) (rail : (start t s).port.aoRail = true)
    (inRec : (start t s).pw.recovery ≠ 0) :
    exec (.vbusRemoved t x) s = .next (coldStarted t s (vbusGone (start t s) x)) := by
  rw [exec_vbusRemoved, execVbusRemoved, whenWf_of_wf _ _ _ rfl]
  rw [start_pw] at inRec
  exact resetEffect_of_reset _ (by simp [rail, inRec])

theorem exec_vbusRemoved_of_not_recovery {t : Nat} {s : State} (x : BootIn)
    (h : (start t s).port.aoRail = false ∨ (start t s).pw.recovery = 0) :
    exec (.vbusRemoved t x) s = .next (ended t s (vbusGone (start t s) x)) := by
  rw [exec_vbusRemoved, execVbusRemoved, whenWf_of_wf _ _ _ rfl]
  rw [start_pw] at h
  exact resetEffect_of_not_reset _ (by rcases h with h | h <;> simp [h])

theorem exec_restart_of_recovery {t : Nat} {s : State} (c : MaintCmd) (x : BootIn) (up : maintUp (start t s) = true)
    (inRec : (start t s).pw.recovery ≠ 0) (rail : (start t s).port.aoRail = true) : exec (.restart t c x) s =
      .next (coldStarted t s (resetButAo (maintReply (start t s) 7 Status.done c.tag.toNat []) x 1)) := by
  rw [exec_restart, execRestart, whenWf_of_wf _ _ _ rfl, ← maintRestart_of_recovery c x inRec rail]
  rw [start_pw] at inRec
  refine (resetEffect_of_reset _ (by simp [up, inRec, rail])).trans ?_
  rw [maintCmd, if_pos up]

/-- Settles O51: each row is a reset exactly under its condition. -/
theorem coldStartsRun : Obligations.ColdStartsRun := by
  rintro t x s b rfl
  exact ⟨exec_powerOnReset_eq t x s, exec_perst_of_takes x, fun _ => exec_perstNRelease_of_wakes x,
    exec_thermalAutoRestart_of_restarts x, exec_vaultTimerExpiry_of_over x,
    fun source orient rp => exec_typecAttach_of_wakes source orient rp x,
    fun source orient rp => exec_typecAttach_of_on source orient rp x,
    exec_vbusRemoved_of_recovery x, exec_vbusRemoved_of_not_recovery x, fun c => exec_restart_of_recovery c x⟩

/-! ## The first framing of a branch (R15, R219, R220, R284) -/

theorem roleTaken_iff {s : State} :
    roleTaken s = true ↔ isBranch s = true ∧ (s.link upLink).st = 6 ∧ (s.link upLink).authDone = true := by
  simp [roleTaken, and_assoc]

theorem roleClock_of_unframed {frame : Nat} {s : State} (up : awake s = true) (taken : roleTaken s = true)
    (h : s.neverFramed = true) : roleClock frame s = { s.fc with frameNo := frame } := by
  simp [roleClock, up, taken, h]

theorem framesNow_iff {s : State} : framesNow s = true ↔ awake s = true ∧ isBranch s = true ∧ s.neverFramed = true ∧
    (s.link upLink).st = 7 ∧ 7 ≤ (s.link upLink).exchanges := by
  simp [framesNow, and_assoc]

theorem syncClock_of_framesNow {m : SyncMsg} {s : State} (h : framesNow s = true) :
    syncClock m s = ⟨s.fc.now, m.frame, s.fc.now - (sinceBoundary m).toNat, 0⟩ := if_pos h

theorem orphanStarts_iff {s : State} : orphanStarts s = true ↔ awake s = true ∧ s.neverFramed = true ∧ isBranch s = true ∧
    (s.link upLink).st ≠ 8 ∧ s.bootAt + 1850000000 ≤ s.fc.now := by
  simp [orphanStarts, and_assoc]

section
variable {t : Nat} {s : State} (up : awake (start t s) = true) (branch : isBranch (start t s) = true)
  (unframed : (start t s).neverFramed = true)
include up branch unframed

theorem exec_role_of_unframed (hub : BitVec 5) (frame : Word) (ftime : Nat) (p : UpParams)
    (st : ((start t s).link upLink).st = 6) (auth : ((start t s).link upLink).authDone = true) :
    exec (.role t hub frame ftime p) s = .next { takeRole (start t s) hub.toNat frame.toNat p with
      fc := { (start t s).fc with frameNo := frame.toNat }, pending := s.pending } := by
  have clock := roleClock_of_unframed (frame := frame.toNat) up (roleTaken_iff.mpr ⟨branch, st, auth⟩) unframed
  rw [exec_role, execRole, whenWf_of_wf _ _ _ rfl, ← clock]
  simp only [tickEffect, up, if_true]

theorem exec_timeSync_of_unframed (m : SyncMsg) (fits : m.frame < 2 ^ 32) (st : ((start t s).link upLink).st = 7)
    (seven : 7 ≤ ((start t s).link upLink).exchanges) :
    exec (.timeSync t m) s = .next { takeSync (start t s) m with
      fc := ⟨(start t s).fc.now, m.frame, (start t s).fc.now - (sinceBoundary m).toNat, 0⟩, pending := s.pending } := by
  have clock := syncClock_of_framesNow (m := m) (framesNow_iff.mpr ⟨up, branch, unframed, st, seven⟩)
  rw [exec_timeSync, execTimeSync, whenWf_of_wf (c := .timeSync t m) _ _ _ (decide_eq_true fits), ← clock]
  simp only [tickEffect, up, if_true]

theorem exec_orphanStartTimeout_of_unframed (down : ((start t s).link upLink).st ≠ 8)
    (late : (start t s).bootAt + 1850000000 ≤ (start t s).fc.now) :
    exec (.orphanStartTimeout t) s = .next (coldStarted t s
      ({ start t s with neverFramed := false, fc := coldClock (start t s) }.modLink upLink fun k =>
        { k with orphanSince := some (start t s).fc.now })) := by
  rw [exec_orphanStartTimeout, execOrphanStartTimeout, whenWf_of_wf _ _ _ rfl]
  exact resetEffect_guarded _ _ (orphanStarts_iff.mpr ⟨up, unframed, branch, down, late⟩)

end

/-- Settles O52: each of the three rows on a branch that has never framed. -/
theorem branchStartsFraming : Obligations.BranchStartsFraming := by
  rintro t s b rfl up branch unframed
  exact ⟨exec_role_of_unframed up branch unframed, exec_timeSync_of_unframed up branch unframed,
    exec_orphanStartTimeout_of_unframed up branch unframed⟩

end Sys2Proof.Proofs
end

section
/-! Descriptor rows: each runs its opcode's meaning on the fetched descriptor (R18, R80, R81, R83 to R85, R104, R105,
R254). -/
namespace Sys2Proof.Proofs
open Sys2Proof.Machine Sys2Proof.Laws Sys2Proof.Safety

/-- What a descriptor row does to the state at its instant. -/
def fetchRow (q : SqCmd) (b : State) : State :=
  if q.settles then settle (fetched b q.d (q.rule b) q.op) else fetched b q.d (q.rule b) q.op

/-- Every descriptor row is the fetch of its entry, on a domain that stops with its state held. -/
theorem exec_of_sqCmd {c : Instr} {q : SqCmd} (h : sqCmd c = some q) (s : State) :
    exec c s = whenWf (WellFormed.wf c) q.t s (effect q.t s (fetchRow q)) := by
  unfold sqCmd at h
  split at h
  all_goals cases h
  all_goals rfl

/-- A descriptor that its function may execute, that R18 does not reject and whose hub number was not vacated is served. -/
theorem checked_eq_served {s : State} {x : Desc} {d : SqEntry} {r : OpRule} (op : Desc → State → State)
    (may : r.standby = true ∨ mayExecute s x.fn = true) (addr : addrStatus s r.opcode x.tea = none)
    (stays : vacatedOf s (teaHub x.tea) = none) : checked s x d r op = served s x d r op := by
  have allowed : (r.standby || x.handover || mayExecute s x.fn) = true := by
    rcases may with h | h <;> simp [h]
  simp [checked, addressed, allowed, addr, stays]

/-- A descriptor that its SQ takes and that names this hub has its opcode's own meaning. -/
theorem served_eq_op {s : State} {x : Desc} {d : SqEntry} {r : OpRule} (op : Desc → State → State)
    (sq : galeSqOk s x = true) (here : teaHub x.tea = hubOf s ∨ r.here = true)
    (form : r.mgmt = true → hubForm x.tea = true) : served s x d r op = op x s := by
  have notAway : ¬(teaHub x.tea ≠ hubOf s ∧ !r.here) := by
    rcases here with h | h <;> simp [h]
  have formOk : (r.mgmt && !hubForm x.tea) = false := by
    cases e : r.mgmt
    · rfl
    · simp [form e]
  simp only [served, sq, notAway, formOk, Bool.not_true, Bool.false_eq_true, if_false]

/-- A descriptor keeps the address and the function of its entry. -/
theorem desc_tea (q : SqCmd) (b : State) : (q.desc b).tea = q.d.tea.toNat := rfl
theorem desc_fn (q : SqCmd) (b : State) : (q.desc b).fn = q.d.fn := rfl

/-- The fetch of a descriptor leaves the hub's number alone. -/
theorem hubOf_taken (q : SqCmd) (b : State) : hubOf (q.taken b) = hubOf b := takeDesc_hubNo _ _

/-- The fetched descriptor of a row that runs has its opcode's own meaning. -/
theorem fetched_eq_op {q : SqCmd} {b : State} (hf : q.Fetches b) (hr : q.Runs b) :
    fetched b q.d (q.rule b) q.op = q.op (q.desc b) (q.taken b) := by
  obtain ⟨may, addr, stays, sq, here, form⟩ := hr
  rw [← desc_fn q b] at may
  rw [← desc_tea q b] at addr stays here form
  rw [← hubOf_taken q b] at here
  rw [fetched_checked q b hf, checked_eq_served _ may addr stays, served_eq_op _ sq here form]

/-- Settles O37: a row is the fetch of its descriptor, and a fetched descriptor that runs is its opcode's meaning. -/
theorem descriptorsRun : Obligations.DescriptorsRun := by
  rintro c q s b row ok rfl up hf hr
  rw [exec_of_sqCmd row, whenWf_of_wf _ _ _ ok, effect_awake _ up, fetchRow, fetched_eq_op hf hr]

end Sys2Proof.Proofs
end

section
/-! Accesses of the registers: which bytes act (R40), what a read leaves alone (R41, R42, R319), what a field takes (R53),
the clamp count (R55, R68), who is secure (R60 to R63), and the rows that access a register. -/
namespace Sys2Proof.Proofs
open Sys2Proof.Machine Sys2Proof.Laws Sys2Proof.Safety

/-- A row of a domain that runs does to the state at its instant what its meaning says. -/
theorem exec_runs {c : Instr} {t : Nat} {s u : State} {f : State → State}
    (row : exec c s = whenWf (WellFormed.wf c) t s (effect t s f)) (ok : WellFormed.wf c = true)
    (up : awake (start t s) = true) (does : f (start t s) = u) : exec c s = .next (ended t s u) := by
  rw [row, whenWf_of_wf t s _ ok, effect_awake f up, does]

/-! ## Accesses by bytes (R40, R319) -/

theorem writeAccess_of_crossing {acc : Access} (h : inUnit acc = false) (x : WriteIn) (s : State) :
    writeAccess x s acc = hostTouches s acc.ini := by simp [writeAccess, h]

theorem readAccess_of_crossing {acc : Access} (h : inUnit acc = false) (s : State) :
    readAccess s acc = (hostTouches s acc.ini).emit (.readData 0) := by simp [readAccess, h]

theorem writeAccess_of_inUnit {acc : Access} (h : inUnit acc = true) (x : WriteIn) (s : State) :
    writeAccess x s acc = writeHalf x (writeHalf x (hostTouches s acc.ini) acc 0) acc 1 := by simp [writeAccess, h]

/-- A half of which not all four bytes are enabled is not written. -/
theorem writeHalf_of_partial {acc : Access} {h : Nat} (part : ((enabledBytes acc).filter fun i => i / 4 == h).length ≠ 4)
    (x : WriteIn) (s : State) : writeHalf x s acc h = s := if_neg part

/-- A half of which all four bytes are enabled is the write of its register. -/
theorem writeHalf_of_whole {acc : Access} {h : Nat} (whole : ((enabledBytes acc).filter fun i => i / 4 == h).length = 4)
    (x : WriteIn) (s : State) : writeHalf x s acc h = writeOne x s acc.ini (acc.addr.toNat / 8 * 8 + 4 * h)
      (BitVec.ofNat 32 (bitsOf acc.data.toNat (32 * h) 32)) := if_pos whole

section
variable {acc : Access} (aligned : acc.addr.toNat % 8 = 0) (size : acc.size = 8) (all : acc.be = 0xFF)
include aligned size

theorem inUnit_of_whole : inUnit acc = true := by simp [inUnit, aligned, size]

include all

theorem enabledBytes_of_whole : enabledBytes acc = List.range 8 := by
  rw [enabledBytes, aligned, size, all]
  decide

/-- A write of all 8 bytes of a unit is one of each of its registers, the lower first. -/
theorem writeAccess_of_whole (x : WriteIn) (s : State) : writeAccess x s acc =
    writeOne x (writeOne x (hostTouches s acc.ini) acc.ini acc.addr.toNat (BitVec.ofNat 32 (bitsOf acc.data.toNat 0 32)))
      acc.ini (acc.addr.toNat + 4) (BitVec.ofNat 32 (bitsOf acc.data.toNat 32 32)) := by
  have bytes := enabledBytes_of_whole aligned size all
  have base : acc.addr.toNat / 8 * 8 = acc.addr.toNat := by omega
  rw [writeAccess_of_inUnit (inUnit_of_whole aligned size), writeHalf_of_whole (h := 0) (by rw [bytes]; decide),
    writeHalf_of_whole (h := 1) (by rw [bytes]; decide), base]
  rfl

end

/-- Settles O21: outside a unit no half is written, and a half is written by its four bytes alone. -/
theorem partialWritesDiscarded : Obligations.PartialWritesDiscarded := by
  refine fun x s acc => ⟨fun crossing => ⟨writeAccess_of_crossing crossing x s, readAccess_of_crossing crossing s⟩,
    fun inside part => ?_, fun aligned size all => writeAccess_of_whole aligned size all x s⟩
  rw [writeAccess_of_inUnit inside, writeHalf_of_partial (part 1), writeHalf_of_partial (part 0)]

/-! ## What a read leaves alone (R41, R42, R319) -/

theorem sameContexts_refl (s : State) : SameContexts s s := by simp [SameContexts]

theorem sameContexts_trans {a b c : State} (hab : SameContexts a b) (hbc : SameContexts b c) : SameContexts a c := by
  unfold SameContexts at *
  simp only [hab, hbc, and_self]

theorem sameContexts_wr (s : State) (a : Nat) (w : Word) : SameContexts (s.wr a w) s := by simp [SameContexts]

theorem sameContexts_setFld (s : State) (a : Nat) (r : BitRange) (v : Nat) : SameContexts (s.setFld a r v) s :=
  sameContexts_wr ..

theorem sameContexts_emit (s : State) (o : Out) : SameContexts (s.emit o) s := by simp [SameContexts]

theorem sameContexts_modPw (s : State) (f : Power → Power) : SameContexts (s.modPw f) s := by simp [SameContexts]

theorem sameContexts_pwrInt (s : State) (bit : Nat) : SameContexts (pwrInt s bit) s := by simp [pwrInt, SameContexts]

/-- The end of Lull sets its registers, its transition and two interrupts. -/
theorem sameContexts_lullWake (s : State) (cause : Nat) : SameContexts (lullWake s cause) s := by
  unfold lullWake
  dsimp only
  split
  · refine sameContexts_trans (sameContexts_pwrInt ..) (sameContexts_trans (sameContexts_pwrInt ..) ?_)
    refine sameContexts_trans (sameContexts_modPw ..) (sameContexts_trans (sameContexts_setFld ..) ?_)
    exact sameContexts_trans (sameContexts_setFld ..) (sameContexts_setFld ..)
  · exact sameContexts_refl s

theorem sameContexts_hostTouches (s : State) (ini : Initiator) : SameContexts (hostTouches s ini) s := by
  cases ini with
  | pf f => exact sameContexts_lullWake s 2
  | branchCtl | maint | jtag | mgmt => exact sameContexts_refl s

theorem sameContexts_noteFrame (s : State) : SameContexts (noteFrame s) s :=
  sameContexts_trans (sameContexts_wr ..) (sameContexts_trans (sameContexts_wr ..) (sameContexts_wr ..))

theorem sameContexts_latchUppers (s : State) (ini : Initiator) (a : Nat) : SameContexts (latchUppers s ini a) s := by
  have frame : SameContexts (if a = Reg.GLB_FRAME then noteFrame s else s) s := by
    split
    · exact sameContexts_noteFrame s
    · exact sameContexts_refl s
  unfold latchUppers
  cases iniFn ini with
  | some f => exact frame
  | none => exact frame

theorem sameContexts_dropLatch (s : State) (ini : Initiator) (a : Nat) : SameContexts (dropLatch s ini a) s := by
  unfold dropLatch
  split <;> exact sameContexts_refl s

theorem sameContexts_clearRc (s : State) (a : Nat) : SameContexts (clearRc s a) s := by
  unfold clearRc
  dsimp only
  split
  · exact sameContexts_refl s
  · split
    · exact sameContexts_trans (sameContexts_modPw ..) (sameContexts_wr ..)
    · exact sameContexts_wr ..

theorem sameContexts_readReg (s : State) (ini : Initiator) (a : Nat) (full : Bool) :
    SameContexts (readReg s ini a full).1 s := by
  unfold readReg
  split
  · exact sameContexts_dropLatch s ini a
  · cases full
    · exact sameContexts_latchUppers s ini a
    · exact sameContexts_trans (sameContexts_clearRc ..) (sameContexts_latchUppers s ini a)

theorem sameContexts_readHalf (s : State) (acc : Access) (h : Nat) : SameContexts (readHalf s acc h).1 s := by
  unfold readHalf
  dsimp only
  split
  · exact sameContexts_refl s
  · exact sameContexts_readReg ..

theorem sameContexts_readAccess (s : State) (acc : Access) : SameContexts (readAccess s acc) s := by
  refine sameContexts_trans ?_ (sameContexts_hostTouches s acc.ini)
  unfold readAccess
  dsimp only
  split
  · exact sameContexts_trans (sameContexts_emit ..)
      (sameContexts_trans (sameContexts_readHalf ..) (sameContexts_readHalf ..))
  · exact sameContexts_emit ..

/-- A row whose meaning leaves the contexts alone leaves them alone, whether its domain runs or not. -/
theorem sameContexts_of_row {c : Instr} {t : Nat} {s u : State} {f : State → State}
    (row : exec c s = whenWf (WellFormed.wf c) t s (effect t s f)) (same : ∀ b, SameContexts (f b) b)
    (hu : exec c s = .next u) : SameContexts u (start t s) := by
  rw [row] at hu
  cases ok : WellFormed.wf c <;> rw [ok] at hu
  · rw [whenWf_false] at hu
    cases hu
    exact sameContexts_refl (start t s)
  · rw [whenWf_true] at hu
    cases up : awake (start t s)
    · rw [effect_asleep f up] at hu
      cases hu
      exact sameContexts_refl (start t s)
    · rw [effect_awake f up] at hu
      cases hu
      exact same (start t s)

/-- Settles O23: each of the rows is a read access. -/
theorem readsTouchNoContext : Obligations.ReadsTouchNoContext := by
  refine fun t a s u => ⟨sameContexts_of_row (exec_lowerWordRead t a s) ?_,
    sameContexts_of_row (exec_rcFieldRead t a s) ?_,
    sameContexts_of_row (exec_glbFrameRead t a s) ?_, sameContexts_of_row (exec_cenWindowRead t a s) ?_⟩
  all_goals exact fun b => sameContexts_readAccess b a

/-! ## What a field takes (R53) -/

theorem clampNat_of_lt {lo hi v : Nat} (h : v < lo) : clampNat lo hi v = lo := if_pos h

theorem clampNat_of_gt {lo hi v : Nat} (hle : lo ≤ hi) (h : hi < v) : clampNat lo hi v = hi := by
  rw [clampNat, if_neg (by omega), if_pos h]

theorem clampNat_of_mem {lo hi v : Nat} (h : lo ≤ v) (h' : v ≤ hi) : clampNat lo hi v = v := by
  rw [clampNat, if_neg (by omega), if_neg (by omega)]

theorem clampNat_mem {lo hi : Nat} (v : Nat) (hle : lo ≤ hi) : lo ≤ clampNat lo hi v ∧ clampNat lo hi v ≤ hi := by
  unfold clampNat
  split_ifs <;> omega

/-- A number is moved exactly when it is beyond a limit. -/
theorem clampNat_ne_iff {lo hi v : Nat} : clampNat lo hi v ≠ v ↔ v < lo ∨ hi < v := by
  unfold clampNat
  split_ifs <;> omega

theorem clampField_of_range {f : FieldDef} {lo hi : Nat} (h : f.clamp = .range lo hi) (prev v : Nat) :
    clampField f prev v = (clampNat lo hi v, clampNat lo hi v != v) := by simp [clampField, h]

/-- Settles O25: a range clamps as clampNat does, and a code that is not defined is the other case of a test. -/
theorem clampsToLimits : Obligations.ClampsToLimits := by
  refine ⟨fun f lo hi prev v range hle => ?_, fun f n prev v codes => by simp [clampField, codes],
    fun f n prev v codes => by simp [clampField, codes]⟩
  rw [clampField_of_range range]
  obtain ⟨low, high⟩ := clampNat_mem v hle
  exact ⟨low, high, clampNat_of_lt, clampNat_of_gt hle, clampNat_of_mem, by rw [bne_iff_ne]; exact clampNat_ne_iff⟩

/-! ## The clamp count (R53, R55, R68) -/

/-- HIF_CLAMP_COUNT is a window on GLB_CNT0, in either HIF block and in every role. -/
theorem derived_clampCount (s : State) (ini : Initiator) :
    derived s ini (Reg.HIF_CLAMP_COUNT 0) = some (s.rd (Reg.GLB_CNT 0)).toNat ∧
      derived s ini (Reg.HIF_CLAMP_COUNT 1) = some (s.rd (Reg.GLB_CNT 0)).toNat := ⟨rfl, rfl⟩

theorem liveWord_of_derived {s : State} {ini : Initiator} {a : Nat} {w : Word} (h : derived s ini a = some w.toNat) :
    liveWord s ini a = w := by simp [liveWord, h]

/-- Settles O26: a clamp is a count of GLB_CNT0, which HIF_CLAMP_COUNT shows. -/
theorem oneClampCounter : Obligations.OneClampCounter := by
  intro s h
  refine ⟨?_, fun x hx => rd_wr_ne s _ h hx, fun ini => ?_⟩
  · rw [State.clamped, State.glb, rd_bump_self s _ 1 h]
    simp
  · obtain ⟨pf0, pf1⟩ := derived_clampCount s ini
    exact ⟨liveWord_of_derived pf0, liveWord_of_derived pf1⟩

/-! ## Who is secure (R60 to R63) -/

theorem isSecure_pf_iff (s : State) (f : Fn) : isSecure s (.pf f) = true ↔ s.nvm.lifecycle = 1 ∧ s.locked = false := by
  simp [isSecure]

/-- An ignored access counts in GLB_CNT4; its address and its interrupt are other registers. -/
theorem rd_secFault_count (s : State) (ini : Initiator) (a : Nat) (bar4 : Bool) (h : s.regs.wf = true) :
    (secFault s ini a bar4).rd (Reg.GLB_CNT 4) = s.rd (Reg.GLB_CNT 4) + 1 := by
  have counted : (s.glb 4 1).regs.wf = true := wf_bump s _ 1 h
  rw [secFault, glbInt, rd_raise_ne _ _ _ _ (wf_wr _ _ _ counted) (by decide), rd_wr_ne _ _ counted (by decide), State.glb,
    rd_bump_self s _ 1 h]
  rfl

theorem writeOne_of_standby {s : State} {f : Fn} {a : Nat} (there : reaches s (.pf f) a = true)
    (standby : isStandby s f = true) (outside : ownHif f a = false) (x : WriteIn) (w : Word) :
    writeOne x s (.pf f) a w = secFault s (.pf f) a false := by simp [writeOne, there, standby, outside]

/-- A write that its initiator reaches is that of the register, unless a standby function makes it outside its own HIF
block. -/
theorem writeOne_of_allowed {s : State} {ini : Initiator} {a : Nat} (there : reaches s ini a = true)
    (allowed : ∀ f, ini = .pf f → isStandby s f = false ∨ ownHif f a = true) (x : WriteIn) (w : Word) :
    writeOne x s ini a w = writeReg x s ini a w := by
  cases ini with
  | pf f => rcases allowed f rfl with h | h <;> simp [writeOne, there, h]
  | branchCtl | maint | jtag | mgmt => simp [writeOne, there]

/-- Settles O27: security is a fact of the initiator, and a standby function writes its own HIF block. -/
theorem secureInitiators : Obligations.SecureInitiators := by
  refine ⟨fun _ => ⟨rfl, rfl, rfl⟩, fun s f => ⟨rfl, isSecure_pf_iff s f⟩, fun s ini a h => ?_,
    fun x s f a w there standby => ⟨fun outside => writeOne_of_standby there standby outside x w,
      fun own => writeOne_of_allowed there (fun g hg => .inr ?_) x w⟩⟩
  · rw [rd_secFault_count s ini a true h]
    simp
  · cases hg
    exact own

/-! ## The rows that access a register (R47 to R64) -/

/-- Every row that writes one register is the write of its word there, on a domain that stops with its state held. -/
theorem exec_of_regCmd {c : Instr} {r : RegCmd} (h : regCmd c = some r) (s : State) :
    exec c s = whenWf (WellFormed.wf c) r.t s
      (effect r.t s fun b => settle (writeWord r.found b r.ini r.addr (r.word b))) := by
  unfold regCmd at h
  split at h
  all_goals cases h
  all_goals rfl

/-- A write that is taken and allowed, in a block that is not held, to a register that has not failed its check. -/
theorem writeReg_of_open {s : State} {ini : Initiator} {a : Nat} (taken : ignoredWrite s a = false)
    (allowed : isSecure s ini = true ∨ hasSecField a = false) (there : (Reg.at a).isSome = true)
    (free : isHeld s (regBlock a) = false) (good : memNat s.badRegs a = false) (x : WriteIn) (w : Word) :
    writeReg x s ini a w = acts x (writeRw (writeW1c s a w (isSecure s ini)) ini a w (isSecure s ini) false) a (s.rd a) w
      (isSecure s ini) := by
  obtain ⟨⟨bit, r⟩, found⟩ := Option.isSome_iff_exists.mp there
  have block : regBlock a = bit := by simp only [regBlock, found]
  have noFault : (!isSecure s ini && hasSecField a) = false := by
    rcases allowed with h | h <;> simp [h]
  rw [block] at free
  simp [writeReg, found, taken, noFault, free, good]

/-- A write that lands is that of the register's fields and what it starts. -/
theorem writeOne_of_lands {r : RegCmd} {s : State} (lands : r.Lands s) (w : Word) :
    writeOne r.found s r.ini r.addr w = acts r.found
      (writeRw (writeW1c s r.addr w (isSecure s r.ini)) r.ini r.addr w (isSecure s r.ini) false) r.addr (s.rd r.addr) w
      (isSecure s r.ini) := by
  obtain ⟨reached, active, taken, allowed, there, free, good⟩ := lands
  rw [writeOne_of_allowed reached active, writeReg_of_open taken allowed there free good]

section
variable {s : State} {ini : Initiator} (addr : Nat)

theorem bar4Access_write_of_insecure (h : isSecure s ini = false) :
    bar4Access s ini addr true = secFault s ini addr true := by simp [bar4Access, h]

theorem bar4Access_read_of_insecure (h : isSecure s ini = false) :
    bar4Access s ini addr false = (secFault s ini addr true).emit (.readData 0) := by simp [bar4Access, h]

theorem bar4Access_write_of_secure (h : isSecure s ini = true) : bar4Access s ini addr true = s := by simp [bar4Access, h]

theorem bar4Access_read_of_secure (h : isSecure s ini = true) : bar4Access s ini addr false =
    { s with freeCtr := s.freeCtr + 1 }.emit (.readData (Config.debugWord s.freeCtr)) := by
  simp [bar4Access, h, State.fresh]

end

/-- Settles O29: a row that writes is the write of its register, and each other row is its access. -/
theorem registerCommandsRun : Obligations.RegisterCommandsRun := by
  refine ⟨?_, ?_⟩
  · rintro c r s b h x row ok rfl up rfl lands rfl
    exact exec_runs (exec_of_regCmd row s) ok up (congrArg settle (writeOne_of_lands lands _))
  · rintro t s b rfl up
    refine ⟨fun a ok => exec_runs (exec_registerWrite t a s) (decide_eq_true ok) up rfl,
      fun a ok => exec_runs (exec_lowerWordRead t a s) (decide_eq_true ok) up rfl,
      fun a ok => exec_runs (exec_rcFieldRead t a s) (decide_eq_true ok) up rfl,
      fun a ok => exec_runs (exec_glbFrameRead t a s) (decide_eq_true ok) up rfl,
      fun a ok => exec_runs (exec_cenWindowRead t a s) (decide_eq_true ok) up rfl,
      fun ini addr open_ => exec_runs (exec_bar4Access t ini addr true s) rfl up (bar4Access_write_of_insecure _ open_),
      fun ini addr open_ => exec_runs (exec_bar4Access t ini addr false s) rfl up (bar4Access_read_of_insecure _ open_),
      fun ini addr secure => exec_runs (exec_bar4Access t ini addr true s) rfl up (bar4Access_write_of_secure _ secure),
      fun ini addr secure => exec_runs (exec_bar4Access t ini addr false s) rfl up (bar4Access_read_of_secure _ secure)⟩

end Sys2Proof.Proofs
end

section
/-! Faults of registers and SRAM, flash, and the random source: what each row does under its condition (R56 to R59, R347,
R350, R353, R367, R373, R376, R380, R394 to R396). -/
namespace Sys2Proof.Proofs
open Sys2Proof.Machine Sys2Proof.Laws Sys2Proof.Safety

/-! ## Faults (R56 to R59, R394) -/

/-- A scrub in the modes that vote judges each register with an upset once (R58). -/
theorem voteScrub_of_votes {s : State} (h : protMode s ≠ 1) (upsets : List Upset) : voteScrub s upsets =
    forEach (upsets.foldl (fun l u => addNat l u.addr.toNat) []) s fun s a => voteReg s upsets a := if_neg h

section
variable {s : State} {addr : Nat} (there : (Reg.at addr).isSome = true)
include there

/-- Parity is checked in modes 1 and 2 (R56). -/
theorem checkFails_of_parity (h : protMode s ≠ 0) : checkFails s addr false = protFault s addr false := by
  simp [checkFails, Option.isNone_eq_false_iff.mpr there, h]

/-- The copies of /T fields are compared in modes 0 and 2 (R56, R57). -/
theorem checkFails_of_copies (h : protMode s ≠ 1) (hasCopies : tripMask addr ≠ 0) :
    checkFails s addr true = protFault s addr true := by
  have compared : ¬(protMode s = 1 ∨ tripMask addr = 0) := not_or.mpr ⟨h, hasCopies⟩
  simp only [checkFails, Option.isNone_eq_false_iff.mpr there, if_neg compared, Bool.false_eq_true, if_false, if_true]

end

theorem patrolPass_of_enabled {s : State} (h : s.flag Reg.FOL_SCRUB Fld.FOL_SCRUB_SCRUB_EN = true) (words : List Nat) :
    patrolPass s words = sramShow ((forEach words s corrected).bumpFld Reg.FOL_SCRUB Fld.FOL_SCRUB_PASSES) := if_pos h

/-- Settles O54: each row is its fault, under the condition on which the check is made. -/
theorem faultsRun : Obligations.FaultsRun := by
  rintro t s b rfl up
  exact ⟨fun upsets votes => exec_runs (exec_voteScrub t upsets s) rfl up (voteScrub_of_votes votes upsets),
    fun addr there parity => exec_runs (exec_parityFault t addr false s) rfl up (checkFails_of_parity there parity),
    fun addr there votes hasCopies =>
      exec_runs (exec_parityFault t addr true s) rfl up (checkFails_of_copies there votes hasCopies),
    fun words enabled => exec_runs (exec_sramPatrolScrub t words s) rfl up (patrolPass_of_enabled enabled words),
    fun region page off items _ => exec_runs (exec_sramUncorrectable t region page off items s) rfl up rfl⟩

/-! ## Flash, Folio and the random source -/

/-- A hub whose domains run is not off. -/
theorem on_of_awake {s : State} (h : awake s = true) : s.pw.off = false := by
  simp only [awake, Bool.and_eq_true, Bool.not_eq_true'] at h
  exact h.1

section
variable {t : Nat} {s : State} (up : awake (start t s) = true)
include up

theorem exec_activating_of_due (h : isActivating (start t s) = true) : exec (.activating t) s =
    .next (ended t s (imageEvent (start t s) 3 (start t s).nvm.sessionVol 0)) :=
  exec_runs (exec_activating t s) rfl up (if_pos h)

/-- The mode that a BOOT write left pending is stored (R50). -/
theorem exec_bootSyncComplete_of_pending {m : Nat} (calm : squallOn (start t s) = false)
    (h : (start t s).nvm.pendingMode = some m) : exec (.bootSyncComplete t) s =
      .next (ended t s ((start t s).modNvm fun n => { n with storedMode := some m, pendingMode := none })) :=
  exec_runs (exec_bootSyncComplete t s) rfl up (by simp only [calm, h, Bool.false_eq_true, if_false])

theorem exec_censusCopyComplete_of_busy (h : censusBusy (start t s) = true) : exec (.censusCopyComplete t) s =
    .next (ended t s (glbInt ((start t s).setFlag Reg.GLB_CENSUS Fld.GLB_CENSUS_BUSY false) 2)) :=
  exec_runs (exec_censusCopyComplete t s) rfl up (if_pos h)

/-- The sector that Bank C erased ahead is free; how long the erase took is a free value (log entry 45). -/
theorem exec_folioEraseAheadDone_of_sector {k : Nat} (calm : squallOn (start t s) = false)
    (h : aheadSector (start t s).nvm = some k) : exec (.folioEraseAheadDone t) s =
      .next (ended t s (flashKick (folioEraseEnd (showErase { start t s with freeCtr := (start t s).freeCtr + 1 }
        (Config.eraseUs (start t s).freeCtr).toNat) (.folioAhead k) k true))) := by
  have on := on_of_awake up
  refine exec_runs (exec_folioEraseAheadDone t s) rfl up ?_
  simp only [calm, on, h, State.fresh, Bool.or_self, Bool.false_eq_true, if_false]

theorem exec_nvmScrubScan_of_enabled (h : (start t s).flag Reg.NVM_CTRL Fld.NVM_CTRL_SCRUB_EN = true) :
    exec (.nvmScrubScan t) s = .next (ended t s (beginScan (start t s))) :=
  exec_runs (exec_nvmScrubScan t s) rfl up (if_pos h)

theorem exec_nvmScanEnd_of_scanning (h : (start t s).flag Reg.NVM_STATUS Fld.NVM_STATUS_SCANNING = true) (words : Nat) :
    exec (.nvmScanEnd t words) s = .next (ended t s (((start t s).setFlag Reg.NVM_STATUS Fld.NVM_STATUS_SCANNING false).wr
      Reg.NVM_CORR_WORDS (BitVec.ofNat 32 words))) :=
  exec_runs (exec_nvmScanEnd t words s) rfl up (if_pos h)

end

/-- Settles O55: each row under its condition. -/
theorem flashRuns : Obligations.FlashRuns := by
  rintro t s b rfl up
  exact ⟨exec_activating_of_due up, fun _ => exec_bootSyncComplete_of_pending up, exec_censusCopyComplete_of_busy up,
    exec_runs (exec_folioProgram t s) rfl up rfl, fun _ => exec_folioEraseAheadDone_of_sector up,
    fun r => exec_runs (exec_flashOperationComplete t r s) rfl up rfl, exec_nvmScrubScan_of_enabled up,
    fun words scanning => exec_nvmScanEnd_of_scanning up scanning words,
    fun adaptive => exec_runs (exec_trngHealthFailure t adaptive s) rfl up rfl,
    exec_runs (exec_trngRecovery t s) rfl up rfl⟩

end Sys2Proof.Proofs
end

section
/-! Rings of a host function: which registers they hold (R101), what a doorbell may say (R77), the slot of a completion
(R80, R91), and the numbers of records (R95). -/
namespace Sys2Proof.Proofs
open Sys2Proof.Machine Sys2Proof.Laws

/-! ## Registers that rings in use hold (R101) -/

/-- The base registers of a function, and where it takes events: what R101 holds while its rings are in use. -/
def ringBases (f : Fn) : List Nat :=
  [Reg.HIF_RCT_BASE_LO (fnIx f), Reg.HIF_RCT_BASE_HI (fnIx f), Reg.HIF_DB_BASE_LO (fnIx f), Reg.HIF_DB_BASE_HI (fnIx f),
    Reg.HIF_SYS_EQ (fnIx f)]

/-- Each of them has fields that every initiator may write, and none is the BOOT register. -/
theorem writable_of_ringBase {f : Fn} {a : Nat} (h : a ∈ ringBases f) (secure : Bool) :
    fieldsMask a (FieldDef.writable secure) ≠ 0 ∧ a ≠ Reg.GLB_PROT := by
  revert a
  cases f <;> cases secure <;> decide

theorem memNat_of_mem {l : List Nat} {n : Nat} (h : n ∈ l) : memNat l n = true :=
  List.any_eq_true.mpr ⟨n, h, beq_self_eq_true n⟩

theorem keeps_of_ringBase {s : State} {f : Fn} {a : Nat} (busy : ringsBusy s f = true) (h : a ∈ ringBases f) (w : Word) :
    keeps s a w = true := by
  have held : ringHeld s a = true :=
    List.any_eq_true.mpr ⟨f, by cases f <;> decide, Bool.and_eq_true_iff.mpr ⟨memNat_of_mem h, busy⟩⟩
  simp [keeps, held]

/-- A write of RW fields that a hold rule keeps as they are only counts. -/
theorem writeRw_of_keeps {s : State} {a : Nat} {w : Word} {secure : Bool}
    (fields : fieldsMask a (FieldDef.writable secure) ≠ 0) (live : a ≠ Reg.GLB_PROT) (kept : keeps s a w = true)
    (ini : Initiator) (held : Bool) : writeRw s ini a w secure held = s.clamped := by
  simp only [writeRw, fields, live, kept, if_false, if_true]

/-- Settles O28: a base register has writable fields, and a hold rule keeps them while a ring is in use. -/
theorem heldBases : Obligations.HeldBases := by
  intro s f ini w secure held busy a base
  obtain ⟨fields, live⟩ := writable_of_ringBase base secure
  exact writeRw_of_keeps fields live (keeps_of_ringBase busy base w) ini held

/-! ## Doorbell values (R77) -/

section
variable {s : State} {f : Fn} {d : Doorbell} (live : (s.ring f d.ring.toNat).st.live = true)
include live

/-- The tail of a live SQ is taken unless it is beyond SIZE. -/
theorem takeSlot_of_sq (sq : d.ring.toNat < 256) : takeSlot s f d =
    if (s.ring f d.ring.toNat).size < (d.value.toNat + 2 ^ 32 - (s.ring f d.ring.toNat).count) % 2 ^ 32 then s.clamped
    else s.setRing f d.ring.toNat { s.ring f d.ring.toNat with ext := d.value.toNat } := by
  simp only [takeSlot, live, sq, Bool.not_true, Bool.false_eq_true, if_false, if_true]

/-- The head of another live ring is taken unless it moves by more than the entries in use. -/
theorem takeSlot_of_head (other : 256 ≤ d.ring.toNat) : takeSlot s f d =
    if (s.ring f d.ring.toNat).used < (d.value.toNat + 2 ^ 32 - (s.ring f d.ring.toNat).ext) % 2 ^ 32 then s.clamped
    else s.setRing f d.ring.toNat { s.ring f d.ring.toNat with ext := d.value.toNat } := by
  simp only [takeSlot, live, Nat.not_lt.mpr other, Bool.not_true, Bool.false_eq_true, if_false]

end

/-- Settles O31: each kind of ring has one bound, and the two outcomes are the sides of its test. -/
theorem doorbellChecks : Obligations.DoorbellChecks := by
  refine fun s f d live => ⟨fun sq => ?_, fun other => ?_⟩
  · rw [takeSlot_of_sq live sq]
    exact ⟨fun beyond => if_pos beyond, fun within => if_neg (Nat.not_lt.mpr within)⟩
  · rw [takeSlot_of_head live other]
    exact ⟨fun beyond => if_pos beyond, fun within => if_neg (Nat.not_lt.mpr within)⟩

/-! ## The slot of a completion (R80, R91, R99) -/

theorem ring_modRing_self (s : State) (f : Fn) (i : Nat) (g : Ring → Ring) (h : s.rings.wf = true) :
    (s.modRing f i g).ring f i = g (s.ring f i) := ring_setRing_self s f i _ h

theorem wf_modRing (s : State) (f : Fn) (i : Nat) (g : Ring → Ring) (h : s.rings.wf = true) :
    (s.modRing f i g).rings.wf = true := wf_put _ _ _ _ h

theorem ring_congr {s u : State} (h : s.rings = u.rings) (f : Fn) (i : Nat) : s.ring f i = u.ring f i := by
  simp only [State.ring, h]

/-- A message is one output more, or waits for its vector. -/
theorem mem_out_sendMsix {s : State} {o : Out} (h : o ∈ s.out) (f : Fn) (vec : Nat) : o ∈ (sendMsix s f vec).out := by
  simp only [sendMsix]
  split
  · exact List.mem_append_left _ h
  · rwa [setFn_out]

/-- Moderation counts in its ring, and changes nothing else of it. -/
theorem ring_moderate (s : State) (f : Fn) (i n : Nat) (h : s.rings.wf = true) :
    ∃ count since, (moderate s f i n).ring f i = { s.ring f i with modCount := count, modSince := since } := by
  simp only [moderate]
  split_ifs
  · exact ⟨_, _, rfl⟩
  · rw [ring_congr (sendMsix_rings ..), ring_setRing_self s f i _ h]
    exact ⟨_, _, rfl⟩
  · rw [ring_setRing_self s f i _ h]
    exact ⟨_, _, rfl⟩

theorem mem_out_moderate {s : State} {o : Out} (h : o ∈ s.out) (f : Fn) (i n : Nat) : o ∈ (moderate s f i n).out := by
  simp only [moderate]
  split_ifs
  · exact h
  · exact mem_out_sendMsix (s := s.setRing ..) h _ _
  · exact h

/-- The entry of a completion as it is written, at the produce count of its CQ (R91). -/
def cqSlot (s : State) (d : Desc) (e : CqEntry) : Out :=
  let q := s.ring d.fn d.cq
  .cq d.fn d.cq (q.count % q.size) (q.phase q.count) d.sq { e with sqHead := (s.ring d.fn d.sq).count }

/-- The completion in its slot, before moderation counts it. -/
def cqPlaced (s : State) (d : Desc) (e : CqEntry) : State :=
  (s.emit (cqSlot s d e)).modRing d.fn d.cq fun r => { r with count := (r.count + 1) % 2 ^ 32, reserved := r.reserved - 1 }

theorem cqWrite_eq (s : State) (d : Desc) (e : CqEntry) :
    cqWrite s d e = if d.quiet then cqPlaced s d e else moderate (cqPlaced s d e) d.fn d.cq 1 := rfl

/-- A completion advances the CQ by one entry and one reservation; besides, moderation may count it. -/
theorem ring_cqWrite (s : State) (d : Desc) (e : CqEntry) (h : s.rings.wf = true) :
    ∃ count since, (cqWrite s d e).ring d.fn d.cq = { s.ring d.fn d.cq with
      count := ((s.ring d.fn d.cq).count + 1) % 2 ^ 32, reserved := (s.ring d.fn d.cq).reserved - 1,
      modCount := count, modSince := since } := by
  have placed : (cqPlaced s d e).ring d.fn d.cq = { s.ring d.fn d.cq with
      count := ((s.ring d.fn d.cq).count + 1) % 2 ^ 32, reserved := (s.ring d.fn d.cq).reserved - 1 } :=
    ring_modRing_self _ _ _ _ h
  rw [cqWrite_eq]
  split
  · exact ⟨_, _, placed⟩
  · obtain ⟨count, since, moderated⟩ := ring_moderate (cqPlaced s d e) d.fn d.cq 1 (wf_modRing _ _ _ _ h)
    rw [placed] at moderated
    exact ⟨count, since, moderated⟩

theorem mem_out_cqWrite (s : State) (d : Desc) (e : CqEntry) : cqSlot s d e ∈ (cqWrite s d e).out := by
  have placed : cqSlot s d e ∈ (cqPlaced s d e).out := List.mem_append_right s.out (List.mem_singleton_self _)
  rw [cqWrite_eq]
  split
  · exact placed
  · exact mem_out_moderate placed _ _ _

theorem phase_of_firstPass {r : Ring} {c : Nat} (h : c < r.size) : r.phase c = true := by
  simp [Ring.phase, Nat.div_eq_of_lt h]

/-- A wrap is one pass more, and PHASE is the parity of the passes. -/
theorem phase_add_size {r : Ring} (h : 0 < r.size) (c : Nat) : r.phase (c + r.size) = !r.phase c := by
  rw [Bool.eq_iff_iff]
  simp only [Ring.phase, Nat.add_div_right c h, beq_iff_eq, Bool.not_eq_true', beq_eq_false_iff_ne]
  omega

/-- Settles O34: a completion is placed in its slot and moderated; a descriptor notes its CQ when it is made. -/
theorem completionSlots : Obligations.CompletionSlots := by
  refine ⟨?_, fun _ _ _ _ _ => rfl, fun r c size => ⟨phase_of_firstPass, phase_add_size size c⟩⟩
  rintro s d e _ h rfl
  obtain ⟨count, since, ring⟩ := ring_cqWrite s d e h
  rw [ring]
  exact ⟨rfl, rfl, mem_out_cqWrite s d e⟩

/-! ## The numbers of records (R95) -/

theorem nextSeq_seqs (s : State) (tea : Nat) :
    (nextSeq s tea).2.seqs = s.seqs.put tea 0 ((s.seqs.getD tea 0 + 1) % 65536) := rfl

/-- The root counts apart what it gives away for an endpoint of a branch. -/
theorem nextSeq_seqOwn_of_away {s : State} {tea : Nat} (away : teaHub tea ≠ s.hubNo) :
    (nextSeq s tea).2.seqOwn = s.seqOwn.put tea 0 ((s.seqOwn.getD tea 0 + 1) % 65536) := if_neg away

/-- The number of a branch's record runs on after those the root gave away, and the root's count goes on from it. -/
theorem branchSeq_of_away {s : State} {tea : Nat} (away : teaHub tea ≠ s.hubNo) (n : Nat) :
    branchSeq s tea n = ((n + s.seqOwn.getD tea 0) % 65536,
      { s with seqs := s.seqs.put tea 0 (((n + s.seqOwn.getD tea 0) % 65536 + 1) % 65536) }) := if_neg away

/-- Settles O35: each count is one entry of its table, put anew. -/
theorem recordNumbers : Obligations.RecordNumbers := by
  refine ⟨fun s tea h => ⟨rfl, ?_, fun x other => ?_, rfl⟩, fun s tea n h own away => ⟨?_, ?_⟩⟩
  · rw [nextSeq_seqs, getD_put_self _ _ _ _ h]
  · rw [nextSeq_seqs, getD_put_ne _ _ _ _ h other]
  · rw [nextSeq_seqOwn_of_away away, getD_put_self _ _ _ _ own]
  · rw [branchSeq_of_away away]
    exact ⟨rfl, getD_put_self _ _ _ _ h, rfl⟩

end Sys2Proof.Proofs
end

section
/-! The rows of the host interface (R71, R76, R78, R79, R99, R100, R102, R105, R319), and the opcodes that only complete
(R84, R85, R90). -/
namespace Sys2Proof.Proofs
open Sys2Proof.Machine Sys2Proof.Laws Sys2Proof.Safety

/-! ## Opcodes that only complete (R84, R85, R90) -/

/-- With one host there is no lease to renew or to take (R90). -/
theorem opLeaseRenew_of_single {s : State} (single : isDual s = false) (x : Desc) :
    opLeaseRenew x s = complete s x Status.done := by simp [opLeaseRenew, single]

theorem opRoleTake_of_single {s : State} (single : isDual s = false) (left : List Unfetched) (heads : List Doorbell)
    (x : Desc) : opRoleTake left heads x s = complete s x Status.done := by simp [opRoleTake, single]

/-- The fetch of a descriptor leaves the role of the hub alone. -/
theorem isDual_taken (q : SqCmd) (b : State) : isDual (q.taken b) = isDual b := by
  simp only [isDual, SqCmd.taken, takeDesc_role]

/-- A descriptor row that runs, whose opcode's meaning is one completion, does that and nothing else. -/
theorem exec_completes {c : Instr} {q : SqCmd} {s : State} {st : Status} (row : sqCmd c = some q)
    (ok : WellFormed.wf c = true) (up : awake (start q.t s) = true) (hf : q.Fetches (start q.t s))
    (hr : q.Runs (start q.t s)) (plain : q.settles = false) (does : q.op (q.desc (start q.t s)) (q.taken (start q.t s)) =
      complete (q.taken (start q.t s)) (q.desc (start q.t s)) st) :
    exec c s = .next (ended q.t s (complete (q.taken (start q.t s)) (q.desc (start q.t s)) st)) := by
  rw [descriptorsRun c q s _ row ok rfl up hf hr, plain, does]
  rfl

/-- Settles O39: each is a descriptor row that runs, whose opcode's meaning is one completion. -/
theorem simpleCompletions : Obligations.SimpleCompletions := by
  rintro t d s b rfl up
  refine ⟨fun q row hf hr => ?_, fun op q ok row hf hr => ?_, fun q single row hf hr => ?_,
    fun left heads q single row hf hr => ?_⟩
  · cases row
    exact exec_completes rfl rfl up hf hr rfl rfl
  · cases row
    exact exec_completes rfl ok up hf hr rfl rfl
  · rw [← isDual_taken q] at single
    cases row
    exact exec_completes rfl rfl up hf hr rfl (opLeaseRenew_of_single single _)
  · rw [← isDual_taken q] at single
    cases row
    exact exec_completes rfl rfl up hf hr rfl (opRoleTake_of_single single left heads _)

/-! ## Doorbell reads (R76, R78) -/

theorem kick_of_readable {s : State} {f : Fn} (h : readsDoorbells s f = true) (slots : List Doorbell) :
    kick s f slots = fullRead s f slots := if_pos h

/-- A kick that comes while the hub may not read is due (log entry 68). -/
theorem kick_of_unreadable {s : State} {f : Fn} (h : readsDoorbells s f = false) (there : hostThere s f = true)
    (ready : isReady s = true) (slots : List Doorbell) :
    kick s f slots = s.modFn f fun x => { x with kickDue := true } := by simp [kick, h, there, ready]

theorem doorbells_of_sweepMode {s : State} {f : Fn} (mode : kickMode s f = false) (due : (s.fnS f).kickDue = false)
    (words : List SummaryWord) (slots : List Doorbell) : doorbells s f words slots = sweep s f words slots := by
  simp [doorbells, mode, due]

theorem doorbells_of_due {s : State} {f : Fn} (mode : kickMode s f = true) (due : (s.fnS f).kickDue = true)
    (words : List SummaryWord) (slots : List Doorbell) : doorbells s f words slots = fullRead s f slots := by
  simp [doorbells, mode, due]

/-! ## Timeouts (R99, R105) -/

/-- The time of the ring's profile has passed since the first entry that counts. -/
theorem moderationDue_of_passed {s : State} {f : Fn} {i t0 : Nat} (since : (s.ring f i).modSince = some t0)
    (counted : (s.ring f i).modCount ≠ 0)
    (passed : t0 + s.fld (Reg.HIF_MOD_PROFILE (fnIx f) (s.ring f i).profile) Fld.HIF_MOD_PROFILE_TIME_US * 1000 ≤
      s.fc.now) :
    moderationDue s f i = sendMsix (s.setRing f i { s.ring f i with modCount := 0, modSince := none }) f
      (s.ring f i).vector := by
  simp only [moderationDue, since, bne_iff_ne.mpr counted, decide_eq_true passed, Bool.and_self, if_true]

/-- The state of a hub whose lease has ended without renewal. -/
def leaseOver (s : State) : State :=
  { s with lease := { s.lease with valid := false, expired := true, switchAt := none } }

theorem leaseExpires_of_past {s : State} (valid : s.lease.valid = true) (past : s.lease.until_ ≤ s.fc.now) :
    leaseExpires s = leaseEvent (leaseOver s) (leaseData (leaseOver s) 2 (fnIx (s.lease.holder.getD .pf0))
      (fnIx (s.lease.holder.getD .pf0)) 2 0 0 0) := by
  simp only [leaseExpires, valid, decide_eq_true past, Bool.and_self, if_true]
  rfl

/-! ## The rows -/

/-- Every slot of a list names a ring of the hub. -/
theorem slots_wf {slots : List Doorbell} (h : ∀ x ∈ slots, x.ring.toNat ≤ 1536) :
    (slots.all fun x => decide (x.ring.toNat ≤ 1536)) = true :=
  List.all_eq_true.mpr fun x hx => decide_eq_true (h x hx)

/-- Settles O36: each row under its condition. -/
theorem hostInterfaceRuns : Obligations.HostInterfaceRuns := by
  rintro t s b rfl up
  refine ⟨fun fn ring ctx named writes =>
      exec_runs (exec_ringEnable t fn ring ctx s) (decide_eq_true named) up (if_pos writes),
    fun fn ring named writes => exec_runs (exec_ringDisable t fn ring s) (decide_eq_true named) up (if_pos writes),
    fun fn slots named reads => exec_runs (exec_kick t fn slots s) (slots_wf named) up (kick_of_readable reads slots),
    fun fn slots named waits there ready =>
      exec_runs (exec_kick t fn slots s) (slots_wf named) up (kick_of_unreadable waits there ready slots),
    fun fn words slots named reads mode due => exec_runs (exec_doorbellSweep t fn ⟨words, slots⟩ s) (slots_wf named) up
      ((if_pos reads).trans (doorbells_of_sweepMode mode due words slots)),
    fun fn words slots named reads mode due => exec_runs (exec_doorbellSweep t fn ⟨words, slots⟩ s) (slots_wf named) up
      ((if_pos reads).trans (doorbells_of_due mode due words slots)),
    fun fn reads mode => exec_runs (exec_atomicFail t fn s) rfl up (if_pos (by simp [reads, mode])),
    fun fn slots there off => exec_runs (exec_busMasterEnable t fn slots s) rfl up (if_pos (by simp [there, off])),
    fun fn there => exec_runs (exec_busMasterEnableClear t fn s) rfl up (if_pos there),
    fun fn on there => exec_runs (exec_atomicopRequesterEnable t fn on s) rfl up (if_pos there),
    fun fn vec there => exec_runs (exec_msixUnmask t fn vec s) rfl up (if_pos there),
    fun fn w there on => exec_runs (exec_hostDmaError t fn w s) rfl up (if_pos (by simp [there, on])),
    fun fn _ => exec_runs (exec_hostTlpInLull t fn s) rfl up rfl,
    fun fn ring t0 named since counted passed => exec_runs (exec_interruptModerationTimeout t fn ring s)
      (decide_eq_true named) up (moderationDue_of_passed since counted passed),
    fun valid past => exec_runs (exec_leaseExpiry t s) rfl up (leaseExpires_of_past valid past)⟩

end Sys2Proof.Proofs
end

section
/-! Frames that nodes send: the header CRC, the frame that received bytes hold, when it is taken for a reply, and COV
entries (R109 to R117, R173, R177). -/
namespace Sys2Proof.Proofs
open Sys2Proof.Machine Sys2Proof.Laws Sys2Proof.Safety

/-! ## The header CRC (R110) -/

theorem crc8Bit_lt {c : Nat} (h : c < 256) : crc8Bit c < 256 := by
  unfold crc8Bit
  split
  · exact Nat.xor_lt_two_pow (n := 8) (by omega) (by decide)
  · omega

theorem crc8Byte_lt {c : Nat} (b : Byte) (h : c < 256) : crc8Byte c b < 256 := by
  have mixed : c ^^^ b.toNat < 256 := Nat.xor_lt_two_pow (n := 8) h b.isLt
  unfold crc8Byte
  exact List.foldlRecOn (motive := (· < 256)) (List.range 8) _ mixed fun _ hc _ _ => crc8Bit_lt hc

theorem hcrc_lt (bs : List Byte) : hcrc bs < 256 := by
  have register : bs.foldl crc8Byte 0xFF < 256 :=
    List.foldlRecOn (motive := (· < 256)) bs crc8Byte (by decide) fun _ hc b _ => crc8Byte_lt b hc
  exact Nat.xor_lt_two_pow (n := 8) register (by decide)

/-- The bit that leaves the register decides on the polynomial. -/
theorem bitOf_top {c : Nat} (h : c < 256) : bitOf c 7 = decide (128 ≤ c) := by
  rw [bitOf, bitsOf_eq, beq_eq_decide]
  congr 1
  exact propext ⟨fun _ => by omega, fun _ => by omega⟩

theorem crc8Bit_eq {c : Nat} (h : c < 256) :
    crc8Bit c = if bitOf c 7 then (c * 2 % 256) ^^^ 0x2F else c * 2 % 256 := by
  rw [crc8Bit, bitOf_top h]
  by_cases top : 128 ≤ c
  · simp [top]
  · simp only [top, decide_false, Bool.false_eq_true, if_false]
    omega

/-- The check value over the ASCII digits 123456789 (R110). -/
theorem hcrc_check : hcrc [0x31, 0x32, 0x33, 0x34, 0x35, 0x36, 0x37, 0x38, 0x39] = 0xDF := by
  simp [hcrc, crc8Byte, crc8Bit, List.range_succ]

/-- Settles O11: the parameters by definition, the shift below 256 by its top bit, the check value by computation. -/
theorem headerCrc : Obligations.HeaderCrc :=
  ⟨fun _ => rfl, fun _ _ => rfl, fun _ => crc8Bit_eq, hcrc_check⟩

/-! ## The frame that bytes hold (R109) -/

/-- The length that the header gives for the payload. -/
def payloadLen (bs : List Byte) : Nat := byteAt bs 2 % 8 * 256 + byteAt bs 3

/-- The length of the trailer that the header announces. -/
def trailerLen (bs : List Byte) : Nat := if bitOf (byteAt bs 0) 1 then 12 else 0

/-- The length of the whole frame that the header announces. -/
def frameSize (bs : List Byte) : Nat :=
  5 + payloadLen bs + trailerLen bs + if payloadLen bs = 0 then 0 else 4

/-- The frame at the start of bytes, whether or not it is a good reply. -/
def frameOf (bs : List Byte) : Vfp where
  ftype := byteAt bs 0 / 16
  toggle := bitOf (byteAt bs 0) 3
  more := bitOf (byteAt bs 0) 2
  secure := bitOf (byteAt bs 0) 1
  node := byteAt bs 1
  ep := byteAt bs 2 / 8
  payload := (bs.drop 5).take (payloadLen bs)
  trailer := (bs.drop (5 + payloadLen bs)).take (trailerLen bs)

/-- What bytes must meet to be taken for a reply (R113, R115, R173, R177). -/
structure GoodReply (pads : Padding) (bs : List Byte) : Prop where
  long : 5 ≤ bs.length
  header : hcrc (bs.take 4) = byteAt bs 4
  ftype : (frameOf bs).ftype < 7
  allowed : replyLenOk (frameOf bs).ftype (payloadLen bs) = true
  fits : pads.allows (frameSize bs) bs.length = true
  ep : (frameOf bs).ftype = 5 ∨ (frameOf bs).ftype = 6 → (frameOf bs).ep = 0
  crc : payloadLen bs ≠ 0 →
    beAt bs (5 + payloadLen bs + trailerLen bs) 4 = crc32c ((frameOf bs).payload ++ (frameOf bs).trailer)

/-- The checks of a received frame, in their order. -/
theorem readReply_eq (pads : Padding) (bs : List Byte) : readReply pads bs =
    if bs.length < 5 ∨ hcrc (bs.take 4) ≠ byteAt bs 4 then .badHcrc
    else if 7 ≤ (frameOf bs).ftype then .malformed (frameOf bs).node
    else if !replyLenOk (frameOf bs).ftype (payloadLen bs) then .malformed (frameOf bs).node
    else if !pads.allows (frameSize bs) bs.length then .malformed (frameOf bs).node
    else if ((frameOf bs).ftype = 5 ∨ (frameOf bs).ftype = 6) ∧ (frameOf bs).ep ≠ 0 then .malformed (frameOf bs).node
    else if payloadLen bs ≠ 0 ∧ beAt bs (5 + payloadLen bs + trailerLen bs) 4 ≠
        crc32c ((frameOf bs).payload ++ (frameOf bs).trailer) then .malformed (frameOf bs).node
    else .ok (frameOf bs) := rfl

theorem readReply_of_good {pads : Padding} {bs : List Byte} (h : GoodReply pads bs) :
    readReply pads bs = .ok (frameOf bs) := by
  obtain ⟨long, header, ftype, allowed, fits, ep, crc⟩ := h
  rw [readReply_eq, if_neg (not_or.mpr ⟨Nat.not_lt.mpr long, not_not.mpr header⟩), if_neg (Nat.not_le.mpr ftype),
    if_neg (by simp [allowed]), if_neg (by simp [fits]), if_neg (fun h => h.2 (ep h.1)),
    if_neg (fun h => h.2 (crc h.1))]

/-- Bytes that are read as a frame hold it, and passed every check. -/
theorem good_of_readReply {pads : Padding} {bs : List Byte} {f : Vfp} (h : readReply pads bs = .ok f) :
    GoodReply pads bs ∧ frameOf bs = f := by
  rw [readReply_eq] at h
  split_ifs at h with head ftype allowed fits ep crc
  rw [not_or, not_not] at head
  exact ⟨⟨Nat.not_lt.mp head.1, head.2, Nat.not_le.mp ftype, by simpa using allowed, by simpa using fits,
    fun h => by_contra fun h' => ep ⟨h, h'⟩, fun h => by_contra fun h' => crc ⟨h, h'⟩⟩, Read.ok.inj h⟩

/-! ## What an accepted reply meets (R113, R173, R177) -/

/-- Whatever a line pads, the frame itself is there. -/
theorem frame_fits {pads : Padding} {n m : Nat} (h : pads.allows n m = true) : n ≤ m := by
  cases pads <;> simp [Padding.allows] at h <;> omega

theorem frameOf_payload_length {bs : List Byte} (h : frameSize bs ≤ bs.length) :
    (frameOf bs).payload.length = payloadLen bs := by
  rw [frameSize] at h
  simp only [frameOf, List.length_take, List.length_drop]
  omega

/-- Settles O15: what is read as a reply passed every check. -/
theorem acceptedRepliesAreSound : Obligations.AcceptedRepliesAreSound := by
  rintro pads bs f total rfl read
  obtain ⟨⟨long, header, ftype, allowed, fits, ep, crc⟩, rfl⟩ := good_of_readReply read
  have whole := frame_fits fits
  have len := frameOf_payload_length whole
  have size : frameSize bs = 5 + payloadLen bs + (if (frameOf bs).secure then 12 else 0) +
    if payloadLen bs = 0 then 0 else 4 := rfl
  rw [len, ← size]
  refine ⟨long, header, ftype, allowed, ep, whole, ?_, ?_, fun filled => crc fun empty => filled ?_⟩
  · rintro rfl
    simpa [Padding.allows] using fits
  · rintro rfl
    simp only [Padding.allows, Bool.and_eq_true, decide_eq_true_eq] at fits
    exact fits.2
  · exact List.eq_nil_of_length_eq_zero (len.trans empty)

/-! ## Reading back what a node sends (R109, R113) -/

/-- A bit of a number is the flag that stands there. -/
theorem bitOf_eq_flag {v i : Nat} {b : Bool} (h : v / 2 ^ i % 2 = b2n b) : bitOf v i = b := by
  rw [bitOf, bitsOf_eq, Nat.pow_one, h]
  cases b <;> rfl

theorem replyLenOk_le {ftype n : Nat} (h : replyLenOk ftype n = true) : n ≤ 1024 := by
  unfold replyLenOk at h
  split at h <;> simp at h <;> omega

/-- The four bytes of the header, of a frame that a node may send. -/
theorem byteAt_vfpHeader {f : Vfp} (h : ReplyOk f) (rest : List Byte) :
    byteAt (vfpHeader f ++ rest) 0 = f.ftype * 16 + b2n f.toggle * 8 + b2n f.more * 4 + b2n f.secure * 2 ∧
    byteAt (vfpHeader f ++ rest) 1 = f.node ∧ byteAt (vfpHeader f ++ rest) 2 = f.ep * 8 + f.payload.length / 256 ∧
    byteAt (vfpHeader f ++ rest) 3 = f.payload.length % 256 := by
  obtain ⟨ftype, allowed, node, ep, -, -⟩ := h
  have len := replyLenOk_le allowed
  have toggle := b2n_le_one f.toggle
  have more := b2n_le_one f.more
  have secure := b2n_le_one f.secure
  simp only [vfpHeader, byteAt, List.cons_append, List.getD_cons_zero, List.getD_cons_succ, BitVec.toNat_ofNat]
  omega

section
variable {f : Vfp} (h : ReplyOk f)
include h

theorem payloadLen_vfpHeader (rest : List Byte) : payloadLen (vfpHeader f ++ rest) = f.payload.length := by
  obtain ⟨-, -, high, low⟩ := byteAt_vfpHeader h rest
  have len := replyLenOk_le h.2.1
  rw [payloadLen, high, low]
  omega

/-- The type, the flags and the endpoint stand in their bits of the first and the third byte. -/
theorem fields_vfpHeader (rest : List Byte) : byteAt (vfpHeader f ++ rest) 0 / 16 = f.ftype ∧
    bitOf (byteAt (vfpHeader f ++ rest) 0) 3 = f.toggle ∧ bitOf (byteAt (vfpHeader f ++ rest) 0) 2 = f.more ∧
    bitOf (byteAt (vfpHeader f ++ rest) 0) 1 = f.secure ∧ byteAt (vfpHeader f ++ rest) 2 / 8 = f.ep := by
  obtain ⟨first, -, third, -⟩ := byteAt_vfpHeader h rest
  have len := replyLenOk_le h.2.1
  have toggle := b2n_le_one f.toggle
  have more := b2n_le_one f.more
  have secure := b2n_le_one f.secure
  rw [first, third]
  exact ⟨by omega, bitOf_eq_flag (by omega), bitOf_eq_flag (by omega), bitOf_eq_flag (by omega), by omega⟩

theorem trailerLen_vfpHeader (rest : List Byte) : trailerLen (vfpHeader f ++ rest) = f.trailer.length := by
  obtain ⟨-, -, -, secure, -⟩ := fields_vfpHeader h rest
  obtain ⟨-, -, -, -, -, trailer⟩ := h
  rw [trailerLen, secure, trailer]

/-- Bytes that hold a header, an HCRC, a payload and a trailer hold the frame, whatever follows. -/
theorem frameOf_parts (x : Byte) (rest : List Byte) :
    frameOf (vfpHeader f ++ ([x] ++ (f.payload ++ (f.trailer ++ rest)))) = f := by
  obtain ⟨-, node, -⟩ := byteAt_vfpHeader h ([x] ++ (f.payload ++ (f.trailer ++ rest)))
  obtain ⟨ftype, toggle, more, secure, ep⟩ := fields_vfpHeader h ([x] ++ (f.payload ++ (f.trailer ++ rest)))
  have body : (vfpHeader f ++ ([x] ++ (f.payload ++ (f.trailer ++ rest)))).drop 5 =
    f.payload ++ (f.trailer ++ rest) := rfl
  rw [frameOf, ftype, toggle, more, secure, node, ep, payloadLen_vfpHeader h, trailerLen_vfpHeader h, ← List.drop_drop,
    body, List.take_left, List.drop_left, List.take_left]

/-- A frame without SECURE has no trailer to leave out. -/
theorem sentTrailer_eq : (if f.secure then f.trailer else []) = f.trailer := by
  obtain ⟨-, -, -, -, -, trailer⟩ := h
  split
  · rfl
  · next plain => exact (List.eq_nil_of_length_eq_zero (by simpa [plain] using trailer)).symm

/-- The parts of a frame in their order, and any bytes behind them. -/
theorem vfpEncode_parts (pad : List Byte) : vfpEncode f ++ pad =
    vfpHeader f ++ ([BitVec.ofNat 8 (hcrc (vfpHeader f))] ++ (f.payload ++ (f.trailer ++
      ((if f.payload.isEmpty then [] else beBytes 4 (crc32c (crcCovered f))) ++ pad)))) := by
  simp only [vfpEncode_eq, vfpTail, sentTrailer_eq h, List.append_assoc]

theorem payloadLen_vfpEncode (pad : List Byte) : payloadLen (vfpEncode f ++ pad) = f.payload.length := by
  rw [vfpEncode_parts h, payloadLen_vfpHeader h]

theorem trailerLen_vfpEncode (pad : List Byte) : trailerLen (vfpEncode f ++ pad) = f.trailer.length := by
  rw [vfpEncode_parts h, trailerLen_vfpHeader h]

/-- The bytes of a frame hold it, whatever follows. -/
theorem frameOf_vfpEncode (pad : List Byte) : frameOf (vfpEncode f ++ pad) = f := by
  rw [vfpEncode_parts h]
  exact frameOf_parts h _ _

theorem frameSize_vfpEncode (pad : List Byte) : frameSize (vfpEncode f ++ pad) = (vfpEncode f).length := by
  rw [frameSize, payloadLen_vfpEncode h, trailerLen_vfpEncode h, vfpEncode_eq, vfpTail, sentTrailer_eq h]
  by_cases empty : f.payload = [] <;> simp [empty, vfpHeader] <;> omega

/-- The HCRC stands behind the header. -/
theorem hcrc_vfpEncode (pad : List Byte) :
    hcrc ((vfpEncode f ++ pad).take 4) = byteAt (vfpEncode f ++ pad) 4 := by
  rw [vfpEncode_parts h]
  exact (Nat.mod_eq_of_lt (hcrc_lt (vfpHeader f))).symm

/-- The frame CRC stands behind the trailer of a frame with payload. -/
theorem crc_vfpEncode (pad : List Byte) (filled : f.payload.length ≠ 0) :
    beAt (vfpEncode f ++ pad) (5 + f.payload.length + f.trailer.length) 4 = crc32c (f.payload ++ f.trailer) := by
  have covered : crcCovered f = f.payload ++ f.trailer := by rw [crcCovered, sentTrailer_eq h]
  have word : crc32c (f.payload ++ f.trailer) < 256 ^ 4 := crc32c_lt _
  have crc := beAt_embedded 4 (crc32c (crcCovered f)) (vfpBody f) pad
  rwa [← vfpEncode_of_payload (fun empty => filled (by rw [empty]; rfl)), vfpBody_length, covered, List.length_append,
    ← Nat.add_assoc, Nat.mod_eq_of_lt word] at crc

/-- A frame that a node may send is a good reply, when the line may bring that many bytes for it. -/
theorem goodReply_vfpEncode {pads : Padding} {pad : List Byte}
    (fits : pads.allows (vfpEncode f).length (vfpEncode f ++ pad).length = true) :
    GoodReply pads (vfpEncode f ++ pad) := by
  have holds := frameOf_vfpEncode h pad
  have len := payloadLen_vfpEncode h pad
  have size := frameSize_vfpEncode h pad
  have long : 5 ≤ (vfpEncode f ++ pad).length := by
    have whole := frame_fits fits
    rw [← size, frameSize] at whole
    omega
  have crc := crc_vfpEncode h pad
  rw [← trailerLen_vfpEncode h pad] at crc
  have header := hcrc_vfpEncode h pad
  obtain ⟨ftype, allowed, -, -, ep, -⟩ := h
  refine ⟨long, header, ?_, ?_, size ▸ fits, ?_, ?_⟩
  all_goals rw [holds]
  · exact ftype
  · rwa [len]
  · exact ep
  · rwa [len]

theorem readReply_vfpEncode {pads : Padding} {pad : List Byte}
    (fits : pads.allows (vfpEncode f).length (vfpEncode f ++ pad).length = true) :
    readReply pads (vfpEncode f ++ pad) = .ok f := by
  rw [readReply_of_good (goodReply_vfpEncode h fits), frameOf_vfpEncode h]

end

/-- Settles O14: the bytes of a frame hold it and pass every check, on each line by what it pads. -/
theorem replyRoundTrip : Obligations.ReplyRoundTrip := by
  intro f h
  refine ⟨?_, fun pad short => readReply_vfpEncode h ?_, fun pad => readReply_vfpEncode h ?_⟩
  · have alone := readReply_vfpEncode h (pads := .none) (pad := []) (by simp [Padding.allows])
    rwa [List.append_nil] at alone
  · simpa [Padding.allows] using short
  · simp [Padding.allows]

/-! ## COV entries (R117) -/

theorem covEntryBytes_length (e : CovEntry) : (covEntryBytes e).length = 4 + e.data.length := by
  simp [covEntryBytes]
  omega

/-- The first byte of an entry holds the endpoint and the two flags. -/
theorem covEntry_first {e : CovEntry} (h : CovEntryOk e) (rest : List Byte) :
    byteAt (covEntryBytes e ++ rest) 0 / 8 = e.ep ∧ bitOf (byteAt (covEntryBytes e ++ rest) 0) 2 = e.toggle ∧
    bitOf (byteAt (covEntryBytes e ++ rest) 0) 1 = e.halted := by
  have toggle := b2n_le_one e.toggle
  have halted := b2n_le_one e.halted
  have first : byteAt (covEntryBytes e ++ rest) 0 = (e.ep * 8 + b2n e.toggle * 4 + b2n e.halted * 2) % 256 := rfl
  rw [first, Nat.mod_eq_of_lt (by have := h.1; omega)]
  exact ⟨by omega, bitOf_eq_flag (by omega), bitOf_eq_flag (by omega)⟩

/-- The length, the age and the data of an entry stand behind its first byte. -/
theorem covEntry_rest {e : CovEntry} (h : CovEntryOk e) (rest : List Byte) :
    byteAt (covEntryBytes e ++ rest) 1 = e.data.length ∧ beAt (covEntryBytes e ++ rest) 2 2 = e.age ∧
    (covEntryBytes e ++ rest).drop 4 = e.data ++ rest := by
  obtain ⟨-, age, short⟩ := h
  have ageBytes := beAt_embedded 2 e.age
    [BitVec.ofNat 8 (e.ep * 8 + b2n e.toggle * 4 + b2n e.halted * 2), BitVec.ofNat 8 e.data.length] (e.data ++ rest)
  rw [Nat.mod_eq_of_lt (by omega), ← List.append_assoc _ e.data] at ageBytes
  exact ⟨Nat.mod_eq_of_lt (by omega : e.data.length < 2 ^ 8), ageBytes, rfl⟩

/-- An entry in range is parsed off the bytes that it stands before. -/
theorem covEntries_cons {e : CovEntry} (h : CovEntryOk e) (rest : List Byte) (fuel : Nat) :
    covEntries (fuel + 1) (covEntryBytes e ++ rest) = (covEntries fuel rest).map (e :: ·) := by
  obtain ⟨ep, toggle, halted⟩ := covEntry_first h rest
  obtain ⟨len, age, body⟩ := covEntry_rest h rest
  obtain ⟨-, -, short⟩ := h
  have size : (covEntryBytes e ++ rest).length = 4 + e.data.length + rest.length := by
    rw [List.length_append, covEntryBytes_length]
  rw [covEntries, if_neg (by simp [covEntryBytes]), len, if_neg (by omega), ← List.drop_drop, body, List.drop_left,
    List.take_left, age]
  cases covEntries fuel rest with
  | none => rfl
  | some r => simp only [Option.map_some, ep, toggle, halted]

/-- Settles O16, entry by entry. -/
theorem covRoundTrip : Obligations.CovRoundTrip := by
  intro es fuel ok fits
  induction es generalizing fuel with
  | nil => cases fuel <;> rfl
  | cons e es ih =>
    obtain _ | fuel := fuel
    · simp at fits
    · rw [covBytes, List.flatMap_cons, covEntries_cons (ok e (by simp)), ← covBytes,
        ih fuel (fun x hx => ok x (by simp [hx])) (by simpa using fits), Option.map_some]

end Sys2Proof.Proofs
end

section
/-! The rows of the field segments: timers and line signals (R131, R133, R136, R140, R142, R154, R157, R158, R178,
R319), and the replies of nodes (R113, R121, R124, R125, R128, R129, R135, R144, R159, R231). -/
namespace Sys2Proof.Proofs
open Sys2Proof.Machine Sys2Proof.Laws Sys2Proof.Safety

/-! ## Timers of a segment -/

/-- Outside a wait for credit the end of a reply window fails the first attempt on the wire (R133). -/
theorem windowExpired_of_cur {s : State} {p : Nat} {x : Txn} {rest : List Txn}
    (sent : 48 ≤ p → ((s.link (p - 48)).held.any fun h => h.msg.mtype == 0x20) = false)
    (cur : (s.seg p).cur = x :: rest) : windowExpired s p = failAttempt s p x := by
  rw [windowExpired, if_neg (by rintro ⟨link, held⟩; simp [sent link] at held), cur]

/-- A remote wake that no RESET to a waking node holds up (R158, R319). -/
theorem wakeSignal_of_suspended {s : State} {p : Nat} (suspended : (s.seg p).st = 4)
    (clear : ((s.seg p).tokens.filter fun k =>
      k.tok == Tok.reset && (k.node == 255 || memNat (wakers s p) k.node)) = []) :
    wakeSignal s p = lullWake (((forEach (wakers s p) s fun s n => s.modNode (nodeKey p n) fun m =>
      { m with wakeFirst := true }).modSeg p fun g => { g with woken := true }).atFrame (.wakeSeg p)) 4 := by
  rw [wakeSignal, if_neg (not_not.mpr suspended), clear]
  rfl

/-- Settles O42: each row under its condition. -/
theorem fieldTimersRun : Obligations.FieldTimersRun := by
  rintro t s b rfl up
  exact ⟨fun port node there attached =>
      exec_runs (exec_nodeKeepalive t port node s) there up (congrArg settle (if_pos attached)),
    fun port there runs => exec_runs (exec_discoverSweep t port s) there up (congrArg settle (if_pos runs)),
    fun port f there again due runs => exec_runs (exec_discoverRepeat t port s) there up (by
      simp only [again, due, runs, and_self, if_true]),
    fun port x rest there sent cur => exec_runs (exec_replyWindowExpiry t port s) there up
      (congrArg settle (windowExpired_of_cur sent cur)),
    fun port node c since there runs begun late => exec_runs (exec_controlTimeout t port node s) there up (by
      simp only [runs, begun, late, if_true]),
    fun port there => exec_runs (exec_bulkNakTimeout t port s) there up rfl,
    fun port since there begun resumes late => exec_runs (exec_resumeEnd t port s) there up (by
      simp only [begun, resumes, late, and_self, if_true]),
    fun port there enabled => exec_runs (exec_foreignFrame t port s) there up (if_neg enabled),
    fun port there => exec_runs (exec_currentStep t port s) there up rfl,
    fun port there => exec_runs (exec_currentDrop t port s) there up rfl,
    fun port there suspended clear =>
      exec_runs (exec_remoteWake t port s) there up (wakeSignal_of_suspended suspended clear),
    fun port there enabled gen => exec_runs (exec_lineFault t port s) there up (if_neg (by simp [enabled, gen])),
    fun port there => exec_runs (exec_lineFaultEnd t port s) there up rfl⟩

/-! ## Replies of nodes -/

/-- A segment listens, an attempt on it waits for the node of the frame, and the frame is a good reply with a right
trailer (R113, R133, R153, R178). -/
structure Answers (s : State) (p : Nat) (f : RxFrame) (x : Txn) (v : Vfp) : Prop where
  enabled : (s.seg p).st ≠ 0
  kept : (s.seg p).lost = false
  sound : (s.seg p).faulted = false
  read : readReply (padding s p) f.bytes = .ok v
  waits : (s.seg p).cur.find? (fun x => x.node == v.node) = some x
  trailer : trailerOf (s.node (nodeKey p x.node)) v f.tagOk = .fine

section
variable {s : State} {p : Nat} {f : RxFrame} {x : Txn} {v : Vfp} (h : Answers s p f x v)
include h

theorem reply_of_answers (act : State → Txn → Vfp → State) : reply s p f act = act (heard s p x v) x v := by
  obtain ⟨-, kept, sound, read, waits, trailer⟩ := h
  unfold reply
  split
  · next cur => simp [cur] at waits
  · simp only [kept, sound, read, waits, trailer, Bool.false_eq_true, if_false]
    rfl

/-- While an attempt is on the wire, a frame is its answer and no HELLO of a sweep (R113). -/
theorem frameIn_of_answers (verdict : Nat) : frameIn s p f verdict = anyReply s p f verdict := by
  have busy : (s.seg p).cur.isEmpty = false := by
    cases cur : (s.seg p).cur with
    | nil => simpa [cur] using h.waits
    | cons => rfl
  simp [frameIn, h.enabled, busy]

/-! An answer has the effect of its type. -/

theorem frameIn_data (type : v.ftype = 0) (verdict : Nat) :
    frameIn s p f verdict = takeData (heard s p x v) p x v verdict := by
  simp only [frameIn_of_answers h, anyReply, reply_of_answers h, type]

theorem frameIn_ack (type : v.ftype = 1) (verdict : Nat) :
    frameIn s p f verdict = takeHandshake (heard s p x v) p x v false := by
  simp only [frameIn_of_answers h, anyReply, reply_of_answers h, type]

theorem frameIn_nak (type : v.ftype = 2) (verdict : Nat) : frameIn s p f verdict = takeNak (heard s p x v) p x := by
  simp only [frameIn_of_answers h, anyReply, reply_of_answers h, type]

theorem frameIn_nyet (type : v.ftype = 3) (verdict : Nat) :
    frameIn s p f verdict = takeHandshake (heard s p x v) p x v true := by
  simp only [frameIn_of_answers h, anyReply, reply_of_answers h, type]

theorem frameIn_stall (type : v.ftype = 4) (verdict : Nat) : frameIn s p f verdict = takeStall (heard s p x v) p x := by
  simp only [frameIn_of_answers h, anyReply, reply_of_answers h, type]

theorem frameIn_cov (type : v.ftype = 5) (verdict : Nat) :
    frameIn s p f verdict = takeCovFrame (heard s p x v) p x v f.since := by
  simp only [frameIn_of_answers h, anyReply, reply_of_answers h, type]

end

/-- In a sweep without an attempt on the wire a HELLO is judged for its slot (R142, R144). -/
theorem helloIn_of_sweep {s : State} {p : Nat} (enabled : (s.seg p).st ≠ 0) (notResuming : (s.seg p).st ≠ 2)
    (sweeps : (s.seg p).sweeping.isSome = true) (idle : (s.seg p).cur = []) (slot : Nat) (f : RxFrame) :
    helloIn s p slot f = sweepLonger (takeHello s p slot (readReply (padding s p) f.bytes)) p 672 := by
  simp [helloIn, enabled, notResuming, sweeps, idle]

/-- During a RESUME a HELLO is held for the burst that follows (R159). -/
theorem helloIn_of_resume {s : State} {p : Nat} (resumes : (s.seg p).st = 2) (slot : Nat) (f : RxFrame) :
    helloIn s p slot f = s.modSeg p fun x => { x with stepHeld := true } := by
  simp [helloIn, resumes]

/-- Settles O43: a row hands its frame to its segment, which judges it by its type. -/
theorem fieldRepliesRun : Obligations.FieldRepliesRun := by
  rintro t s b rfl up
  exact ⟨fun port f there => exec_runs (exec_cov t port f s) there up rfl,
    fun port f authOk keyEdge sigEdge there => exec_runs (exec_data t port f authOk keyEdge sigEdge s) there up rfl,
    fun port f there => exec_runs (exec_ack t port f s) there up rfl,
    fun port f there => exec_runs (exec_nyet t port f s) there up rfl,
    fun port f there => exec_runs (exec_nak t port f s) there up rfl,
    fun port f there => exec_runs (exec_stall t port f s) there up rfl,
    fun port f x v there enabled kept sound read waits trailer type => exec_runs (exec_cov t port f s) there up
      (congrArg settle (frameIn_cov ⟨enabled, kept, sound, read, waits, trailer⟩ type 1)),
    fun port f x v authOk keyEdge sigEdge there enabled kept sound read waits trailer type =>
      exec_runs (exec_data t port f authOk keyEdge sigEdge s) there up (congrArg settle
        (frameIn_data ⟨enabled, kept, sound, read, waits, trailer⟩ type (authVerdict authOk keyEdge sigEdge))),
    fun port f x v there enabled kept sound read waits trailer type => exec_runs (exec_ack t port f s) there up
      (congrArg settle (frameIn_ack ⟨enabled, kept, sound, read, waits, trailer⟩ type 1)),
    fun port f x v there enabled kept sound read waits trailer type => exec_runs (exec_nyet t port f s) there up
      (congrArg settle (frameIn_nyet ⟨enabled, kept, sound, read, waits, trailer⟩ type 1)),
    fun port f x v there enabled kept sound read waits trailer type => exec_runs (exec_nak t port f s) there up
      (congrArg settle (frameIn_nak ⟨enabled, kept, sound, read, waits, trailer⟩ type 1)),
    fun port f x v there enabled kept sound read waits trailer type => exec_runs (exec_stall t port f s) there up
      (congrArg settle (frameIn_stall ⟨enabled, kept, sound, read, waits, trailer⟩ type 1)),
    fun port slot f there enabled notResuming sweeps idle => exec_runs (exec_hello t port slot f s) there up
      (congrArg settle (helloIn_of_sweep enabled notResuming sweeps idle slot.toNat f)),
    fun port slot f there resumes => exec_runs (exec_hello t port slot f s) there up
      (congrArg settle (helloIn_of_resume resumes slot.toNat f)),
    fun link f stream serves => exec_runs (exec_vfpMessage t link f s) rfl up (if_pos ⟨stream, serves⟩)⟩

end Sys2Proof.Proofs
end

section
/-! The rows of the Craora links: those that move the state of a link (R198, R199, R201, R204, R212, R222 to R228), and
the messages that arrive on one (R209, R211, R212, R216, R217, R219 to R221, R233, R269, R272, R278). -/
namespace Sys2Proof.Proofs
open Sys2Proof.Machine Sys2Proof.Laws Sys2Proof.Safety

/-! ## A command of a link -/

/-- A link that the hub has meets its event in the state that a marker has left (log entry 92). -/
theorem onLink_of_there {s : State} {link : BitVec 5} (there : link.toNat = upLink → isBranch s = true)
    (f : State → Nat → State) : onLink s link f = f (markersDue s link.toNat) link.toNat := by
  rw [onLink, if_neg]
  rintro absent
  simp only [Bool.and_eq_true, decide_eq_true_eq, Bool.not_eq_true'] at absent
  obtain ⟨isUp, root⟩ := absent
  simp [there isUp] at root

/-- A row of a link that the hub has does to the state that a marker has left what its meaning says. -/
theorem exec_runs_onLink {c : Instr} {t : Nat} {s u v : State} {link : BitVec 5} {f : State → Nat → State}
    (row : exec c s = whenWf (WellFormed.wf c) t s (effect t s fun b => onLink b link f)) (ok : WellFormed.wf c = true)
    (up : awake (start t s) = true) (there : link.toNat = upLink → isBranch (start t s) = true)
    (due : u = markersDue (start t s) link.toNat) (does : f u link.toNat = v) : exec c s = .next (ended t s v) :=
  exec_runs row ok up (by rw [onLink_of_there there, ← due, does])

/-! ## The state of a link -/

section
variable {t : Nat} {s u : State} {link : BitVec 5} (up : awake (start t s) = true) (named : link.toNat ≤ 16)
  (there : link.toNat = upLink → isBranch (start t s) = true) (due : u = markersDue (start t s) link.toNat)
include up named there due

/-- A partner is there for 5 s and the link was never UP: this is reported once, and bring-up restarts (R201). -/
theorem exec_noPartnerTimeout_of_late {since : Nat} (seen : (u.link link.toNat).presentAt = some since)
    (present : (u.link link.toNat).presence = true) (begun : 2 ≤ (u.link link.toNat).st)
    (notUp : (u.link link.toNat).st ≤ 7) (unreported : (u.link link.toNat).noPartner = false)
    (late : since + 5000000000 ≤ u.fc.now) : exec (.noPartnerTimeout t link) s =
      .next (ended t s (startLink ((linkEvent u link.toNat 0x0F).modLink link.toNat fun k =>
        { k with noPartner := true, downAt := some (linkEvent u link.toNat 0x0F).fc.now }) link.toNat)) := by
  refine exec_runs_onLink (exec_noPartnerTimeout t link s) (decide_eq_true named) up there due ?_
  have notBefore : ¬(u.link link.toNat).st < 2 := not_lt.mpr begun
  have notAfter : ¬7 < (u.link link.toNat).st := not_lt.mpr notUp
  simp [seen, present, notBefore, notAfter, unreported, late]

/-- A rate change that has not relocked in its time loses the link (R222) (log entry 56). -/
theorem exec_rateChangeTimeout_of_late {limit : Nat} (changing : (u.link link.toNat).st = 9)
    (deadline : (u.link link.toNat).downAt = some limit) (late : limit ≤ u.fc.now) :
    exec (.rateChangeTimeout t link) s = .next (ended t s (settle (linkDown u link.toNat 4))) := by
  refine exec_runs_onLink (exec_rateChangeTimeout t link s) (decide_eq_true named) up there due (if_pos ⟨changing, ?_⟩)
  simp only [deadline, Option.map_some, decide_eq_true late]

end

/-- Settles O44: each row is that of its link, on the state that a marker has left, under its condition. -/
theorem linkStatesRun : Obligations.LinkStatesRun := by
  rintro t s b rfl up
  exact ⟨fun link _ rates named there due =>
      exec_runs_onLink (exec_linkPresence t ⟨link, rates⟩ s) (decide_eq_true named) up there due rfl,
    fun link _ lp named there due =>
      exec_runs_onLink (exec_autonegComplete t link lp s) (decide_eq_true named) up there due rfl,
    fun link _ named there due =>
      exec_runs_onLink (exec_c2mRateTrialTimeout t link s) (decide_eq_true named) up there due rfl,
    fun link _ txeq named there due trains =>
      exec_runs_onLink (exec_trainingComplete t link txeq s) (decide_eq_true named) up there due (if_pos trains),
    fun link _ named there due trains =>
      exec_runs_onLink (exec_trainingTimeout t link s) (decide_eq_true named) up there due (if_pos trains),
    fun link _ m named there due =>
      exec_runs_onLink (exec_markerLock t link m s) (decide_eq_true named) up there due rfl,
    fun _ _ _ named there due => exec_noPartnerTimeout_of_late up named there due,
    fun link _ lane los named there due =>
      exec_runs_onLink (exec_laneFail t link lane los s) (decide_eq_true named) up there due rfl,
    fun link _ named there due serves failed => exec_runs_onLink (exec_laneRejoinAttempt t link s)
      (decide_eq_true named) up there due (if_pos ⟨serves, failed⟩),
    fun link _ named there due =>
      exec_runs_onLink (exec_replayTimeout t link s) (decide_eq_true named) up there due rfl,
    fun link _ named there due serves silent => exec_runs_onLink (exec_noFlitsTimeout t link s)
      (decide_eq_true named) up there due (if_pos ⟨serves, silent⟩),
    fun link _ named there due =>
      exec_runs_onLink (exec_presenceLost t link s) (decide_eq_true named) up there due rfl,
    fun _ _ _ named there due => exec_rateChangeTimeout_of_late up named there due,
    fun link fn sq tag => exec_runs (exec_linkHoldTimeout t link fn sq tag s) rfl up rfl,
    fun link => exec_runs (exec_cplHoldExpiry t link s) rfl up rfl,
    fun link _ named there due =>
      exec_runs_onLink (exec_goodbyeDrainEnd t link s) (decide_eq_true named) up there due rfl,
    fun link _ named there due =>
      exec_runs_onLink (exec_calibrationComplete t link s) (decide_eq_true named) up there due rfl⟩

/-! ## Messages -/

section
variable {t : Nat} {s : State} (up : awake (start t s) = true)
include up

/-- ROLE leaves the frame number of a branch that has framed alone (R219). -/
theorem exec_role_of_framed (framed : (start t s).neverFramed = false) (hub : BitVec 5) (frame : Word) (ftime : Nat)
    (p : UpParams) : exec (.role t hub frame ftime p) s =
      .next (ended t s (takeRole (start t s) hub.toNat frame.toNat p)) := by
  rw [exec_role, execRole, whenWf_of_wf _ _ _ rfl, tickEffect_kept _ (roleClock_of_framed _ framed), if_pos up]

/-- TIME_SYNC leaves the frame clock of a branch that has framed to its servo (R220, R284). -/
theorem exec_timeSync_of_framed (framed : (start t s).neverFramed = false) {m : SyncMsg} (fits : m.frame < 2 ^ 32) :
    exec (.timeSync t m) s = .next (ended t s (takeSync (start t s) m)) := by
  rw [exec_timeSync, execTimeSync, whenWf_of_wf (c := .timeSync t m) _ _ _ (decide_eq_true fits),
    tickEffect_kept _ (syncClock_of_framed m framed), if_pos up]

/-- A deposit is kept on the branch of its target while there is room, or in place of one of the same rule (R272). -/
theorem exec_gustDeposit_of_room {ra : BitVec 21} {rule : BitVec 256} (branch : isBranch (start t s) = true)
    (target : teaHub (leAt (leBytes 32 rule.toNat) 20 3) = hubOf (start t s))
    (room : (start t s).deposits.length < 4096 ∨ ((start t s).deposits.find ra.toNat).isSome = true) :
    exec (.gustDeposit t ra rule) s = .next (ended t s (gustShow { start t s with
      deposits := (start t s).deposits.insert ra.toNat (leBytes 32 rule.toNat) })) := by
  refine exec_runs (exec_gustDeposit t ra rule s) rfl up (if_pos ?_)
  simpa [branch, target] using room

/-- A branch that hears no TIME_SYNC for 5 ms holds over (R278). -/
theorem exec_timeSyncLoss_of_silence {seen : Nat} (last : (start t s).tt.syncSeen = some seen)
    (branch : isBranch (start t s) = true) (silent : seen + 5000000 ≤ (start t s).fc.now)
    (follows : (start t s).tt.own = .acquiring ∨ (start t s).tt.own = .locked) :
    exec (.timeSyncLoss t) s = .next (ended t s (toHoldover (start t s))) := by
  refine exec_runs (exec_timeSyncLoss t s) rfl up ?_
  simp only [last]
  exact if_pos (by simpa [branch, silent] using follows)

end

/-- Settles O45: a message of a link acts on the state that a marker has left, and every other one on the state at its
instant. -/
theorem linkMessagesRun : Obligations.LinkMessagesRun := by
  rintro t s b rfl up
  exact ⟨fun link _ f named there due whole => exec_runs_onLink (exec_flitReceived t link f s)
      (Bool.and_eq_true_iff.mpr ⟨decide_eq_true named, beq_iff_eq.mpr whole⟩) up there due rfl,
    fun link _ seq named there due =>
      exec_runs_onLink (exec_llctlNak t link seq s) (decide_eq_true named) up there due rfl,
    fun link _ c0 c1 c2 c3 named there due =>
      exec_runs_onLink (exec_creditInit t link c0 c1 c2 c3 s) (decide_eq_true named) up there due rfl,
    fun link _ rate marker named there due serves =>
      exec_runs_onLink (exec_rateStep t link rate marker s) (decide_eq_true named) up there due (if_pos serves),
    fun link _ lanes named there due =>
      exec_runs_onLink (exec_laneDrop t link lanes s) (decide_eq_true named) up there due rfl,
    fun link _ lanes marker named there due serves failed full => exec_runs_onLink (exec_laneRejoin t link lanes marker s)
      (decide_eq_true named) up there due (if_pos ⟨serves, failed, full⟩),
    fun link _ cause named there due on =>
      exec_runs_onLink (exec_goodbye t link cause s) (decide_eq_true named) up there due (if_pos on),
    fun link _ x named there due => exec_runs_onLink (exec_lid t link x s) (decide_eq_true named) up there due rfl,
    fun link _ x named there due => exec_runs_onLink (exec_lauth t link x s) (decide_eq_true named) up there due rfl,
    fun opcode d ok age _ => exec_runs (exec_desc t opcode ⟨d, age⟩ ok s) rfl up rfl,
    fun link fn sq e bytes => exec_runs (exec_cpl t link fn sq ⟨e, bytes⟩ s) rfl up rfl,
    fun link gen rs branch => exec_runs (exec_record t link gen rs s) rfl up (if_pos branch),
    fun link fn r branch => exec_runs (exec_fault t link fn r s) rfl up (if_pos branch),
    fun hub frame ftime p _ _ _ framed => exec_role_of_framed up framed hub frame ftime p,
    fun p branch => exec_runs (exec_config t p s) rfl up (if_pos branch),
    fun link accepted => exec_runs (exec_roleAck t link accepted s) rfl up rfl,
    fun link tag ep bytes => exec_runs (exec_stream t link tag ep bytes s) rfl up rfl,
    fun link tag stalled => exec_runs (exec_streamAck t link tag stalled s) rfl up rfl,
    fun link tag => exec_runs (exec_grantTimeout t link tag s) rfl up rfl,
    fun link tag => exec_runs (exec_streamAckTimeout t link tag s) rfl up rfl,
    fun link tea cap bytes => exec_runs (exec_gustSense t link tea cap bytes s) rfl up rfl,
    fun tea ra gale cap mask bytes => exec_runs (exec_gustAct t tea ra gale cap mask bytes s) rfl up rfl,
    fun tea gale branch => exec_runs (exec_gustSubscribe t tea gale s) rfl up (if_pos branch),
    fun tea branch => exec_runs (exec_gustUnsubscribe t tea s) rfl up (if_pos branch),
    fun _ _ => exec_gustDeposit_of_room up,
    fun ra branch => exec_runs (exec_gustWithdraw t ra s) rfl up (if_pos branch),
    fun link tea ra outcome at_ => exec_runs (exec_gustResult t link tea ra outcome at_ s) rfl up rfl,
    fun link => exec_runs (exec_timeSyncSend t link s) rfl up rfl,
    fun _ fits _ _ framed => exec_timeSync_of_framed up framed fits,
    fun link m => exec_runs (exec_timeReply t link m s) rfl up rfl,
    fun _ => exec_timeSyncLoss_of_silence up⟩

end Sys2Proof.Proofs
end

section
/-! Conditions of Gust rules: operands and comparisons (R261, R262). -/
namespace Sys2Proof.Proofs
open Sys2Proof.Machine Sys2Proof.Laws

/-! ## Operands (R261) -/

theorem beAt_one (bs : List Byte) (i : Nat) : beAt bs i 1 = byteAt bs i := by
  simp [beAt]

theorem beAt_two (bs : List Byte) (i : Nat) : beAt bs i 2 = byteAt bs i * 256 + byteAt bs (i + 1) := by
  rw [beAt_succ, beAt_one]

theorem operand_byte (bs : List Byte) (off mask : Nat) : operand bs off false mask =
    if off + 1 ≤ bs.length then some (byteAt bs off &&& mask) else none := by
  rw [← beAt_one]
  rfl

theorem operand_wide (bs : List Byte) (off mask : Nat) : operand bs off true mask =
    if off + 2 ≤ bs.length then some ((byteAt bs off * 256 + byteAt bs (off + 1)) &&& mask) else none := by
  rw [← beAt_two]
  rfl

/-! ## Comparisons (R262) -/

section
variable {v thr q : Nat}

/-- A rising edge crosses the threshold upwards. -/
theorem compareOp_rising_iff : compareOp 4 v thr (some q) = true ↔ q < thr ∧ thr ≤ v :=
  Bool.and_eq_true_iff.trans (and_congr decide_eq_true_iff decide_eq_true_iff)

/-- A falling edge leaves the threshold downwards. -/
theorem compareOp_falling_iff : compareOp 5 v thr (some q) = true ↔ thr ≤ q ∧ v < thr :=
  Bool.and_eq_true_iff.trans (and_congr decide_eq_true_iff decide_eq_true_iff)

end

/-- From code 4 on every comparison needs the operand before. -/
theorem compareOp_edge_none (v thr : Nat) : ∀ n, compareOp (n + 4) v thr none = false
  | 0 | 1 | 2 | _ + 3 => rfl

/-- Settles O57: an operand is read byte by byte, and each code of a comparison is one test. -/
theorem ruleOperands : Obligations.RuleOperands := by
  refine ⟨fun bs off mask => ⟨operand_byte bs off mask, operand_wide bs off mask⟩,
    fun v thr p => ⟨beq_iff_eq, bne_iff_ne, decide_eq_true_iff, decide_eq_true_iff⟩,
    fun v thr q => ⟨compareOp_rising_iff, compareOp_falling_iff, bne_iff_ne⟩, fun op v thr edge => ?_⟩
  obtain ⟨n, rfl⟩ := Nat.exists_eq_add_of_le' edge
  exact compareOp_edge_none v thr n

end Sys2Proof.Proofs
end

section
/-! The buffer pool (R244, R247, R251): reading a field that was set, what the write data of the reserve tier holds, and
the count of free granules when an endpoint's buffer is taken and given back. -/
namespace Sys2Proof.Proofs
open Sys2Proof.Machine Sys2Proof.Laws

/-! ## A field reads back what was put there -/

/-- The bits above and below a field stay; the field takes the new value, cut to its width. -/
theorem setBits_eq (v lo w x : Nat) :
    setBits v lo w x = v % 2 ^ lo + 2 ^ lo * (x % 2 ^ w + 2 ^ w * (v / 2 ^ lo / 2 ^ w)) := by
  have parts : v = v % 2 ^ lo + 2 ^ lo * (2 ^ w * (v / 2 ^ lo / 2 ^ w)) + v / 2 ^ lo % 2 ^ w * 2 ^ lo := by
    calc v = v % 2 ^ lo + 2 ^ lo * (v / 2 ^ lo) := (Nat.mod_add_div v _).symm
      _ = v % 2 ^ lo + 2 ^ lo * (v / 2 ^ lo % 2 ^ w + 2 ^ w * (v / 2 ^ lo / 2 ^ w)) := by rw [Nat.mod_add_div (v / 2 ^ lo)]
      _ = _ := by ring
  have rest : v - v / 2 ^ lo % 2 ^ w * 2 ^ lo = v % 2 ^ lo + 2 ^ lo * (2 ^ w * (v / 2 ^ lo / 2 ^ w)) :=
    Nat.sub_eq_of_eq_add parts
  rw [setBits, bitsOf_eq, rest]
  ring

theorem bitsOf_setBits (v lo w x : Nat) : bitsOf (setBits v lo w x) lo w = x % 2 ^ w := by
  rw [bitsOf_eq, setBits_eq, Nat.add_mul_div_left _ _ (Nat.two_pow_pos lo),
    Nat.div_eq_of_lt (Nat.mod_lt _ (Nat.two_pow_pos lo)), Nat.zero_add, Nat.add_mul_mod_self_left, Nat.mod_mod]

/-- A field within the low n bits is read from them alone. -/
theorem bitsOf_mod_two_pow {lo w n : Nat} (inside : lo + w ≤ n) (v : Nat) : bitsOf (v % 2 ^ n) lo w = bitsOf v lo w := by
  obtain ⟨k, rfl⟩ := Nat.exists_eq_add_of_le inside
  rw [bitsOf_eq, bitsOf_eq, Nat.add_assoc, Nat.pow_add, Nat.mod_mul_right_div_self, Nat.pow_add,
    Nat.mod_mul_right_mod]

theorem getField_putField {f : BitRange} (inside : f.lo + f.width ≤ 32) (w : Word) (x : Nat) :
    getField (putField w f x) f = x % 2 ^ f.width := by
  rw [getField, putField, BitVec.toNat_ofNat, bitsOf_mod_two_pow inside, bitsOf_setBits]

theorem fld_setFld_self {s : State} (h : s.regs.wf = true) (a : Nat) {f : BitRange} (inside : f.lo + f.width ≤ 32)
    (v : Nat) : (s.setFld a f v).fld a f = v % 2 ^ f.width := by
  rw [State.fld, State.setFld, rd_wr_self s a _ h, getField_putField inside]

theorem fld_lt (s : State) (a : Nat) (f : BitRange) : s.fld a f < 2 ^ f.width := bitsOf_lt _ _ _

/-! ## Sums over a table -/

section
variable {α : Type} (f : α → Nat)

/-- What the listed values of a table amount to. -/
def tableSum (t : Table α) : Nat := (t.map fun kv => f kv.2).sum

theorem tableSum_cons (k : Nat) (v : α) (t : Table α) : tableSum f ((k, v) :: t) = f v + tableSum f t := by
  simp [tableSum]

theorem tableSum_insert (i : Nat) (v : α) :
    ∀ t : Table α, tableSum f (t.insert i v) + (t.find i).elim 0 f = tableSum f t + f v
  | [] => by simp [tableSum, Table.insert, Table.find]
  | (k, w) :: r => by
    have ih := tableSum_insert i v r
    simp only [Table.insert, Table.find]
    split_ifs <;> simp only [tableSum_cons, Option.elim] at ih ⊢ <;> omega

theorem tableSum_erase (i : Nat) : ∀ t : Table α, tableSum f (t.erase i) + (t.find i).elim 0 f = tableSum f t
  | [] => rfl
  | (k, w) :: r => by
    have ih := tableSum_erase i r
    simp only [Table.erase, Table.find]
    split_ifs <;> simp only [tableSum_cons, Option.elim] at ih ⊢ <;> omega

/-- What is put under a key takes the place of what was read there, where the default amounts to nothing. -/
theorem tableSum_put [DecidableEq α] {d : α} (unlisted : f d = 0) (t : Table α) (i : Nat) (v : α) :
    tableSum f (t.put i d v) + f (t.getD i d) = tableSum f t + f v := by
  have read : f (t.getD i d) = (t.find i).elim 0 f := by
    cases e : t.find i <;> simp [Table.getD, e, unlisted]
  rw [read, Table.put]
  split
  · next isDefault => rw [tableSum_erase, isDefault, unlisted, Nat.add_zero]
  · exact tableSum_insert f i v t

end

/-! ## Write data of the reserve tier (R247) -/

/-- The granules that the write data of one endpoint holds in Stacks. -/
def writeHeld (c : EpCtx) : Nat := if c.reserve then c.hostWrites.length + c.sending.toList.length else 0

theorem writeHeld_of_stacks {c : EpCtx} (h : c.reserve = false) : writeHeld c = 0 := by
  simp [writeHeld, h]

theorem writeGranules_eq_tableSum (s : State) : writeGranules s = tableSum writeHeld s.eps := by
  have fold : ∀ (t : Table EpCtx) (n : Nat),
      t.foldl (fun a kv => if kv.2.reserve then a + kv.2.hostWrites.length + kv.2.sending.toList.length else a) n =
        n + tableSum writeHeld t := by
    intro t
    induction t with
    | nil => exact fun _ => rfl
    | cons kv r ih =>
      intro n
      rw [List.foldl_cons, ih, tableSum_cons]
      by_cases tier : kv.2.reserve <;> simp [writeHeld, tier, Nat.add_assoc]
  exact (fold s.eps 0).trans (Nat.zero_add _)

/-- A context outside the reserve tier that stays outside it holds no write data. -/
theorem writeGranules_setEp {s : State} {k : Nat} {c : EpCtx} (before : (s.ep k).reserve = false)
    (after : c.reserve = false) : writeGranules (s.setEp k c) = writeGranules s := by
  have balance : tableSum writeHeld (s.setEp k c).eps + writeHeld (s.ep k) = tableSum writeHeld s.eps + writeHeld c :=
    tableSum_put writeHeld (writeHeld_of_stacks rfl) s.eps k c
  rw [writeHeld_of_stacks before, writeHeld_of_stacks after] at balance
  rw [writeGranules_eq_tableSum, writeGranules_eq_tableSum]
  exact balance

/-! ## The count of free granules -/

theorem ep_setPool (s : State) (n k : Nat) : (setPool s n).ep k = s.ep k := rfl

theorem writeGranules_setPool (s : State) (n : Nat) : writeGranules (setPool s n) = writeGranules s := rfl

/-- A count reads back where FREE holds it together with the write data, and a count of 0 in any case. -/
theorem poolFree_setPool {s : State} {n : Nat} (h : s.regs.wf = true) (fits : n + writeGranules s < 2 ^ 20 ∨ n = 0) :
    poolFree (setPool s n) = n := by
  have shown : (setPool s n).fld Reg.LIB_POOL Fld.LIB_POOL_FREE = (n + writeGranules s) % 2 ^ 20 :=
    fld_setFld_self h _ (by decide) _
  rw [poolFree, shown, writeGranules_setPool]
  rcases fits with fits | rfl
  · rw [Nat.mod_eq_of_lt fits, Nat.add_sub_cancel]
  · rw [Nat.zero_add, Nat.sub_eq_zero_of_le (Nat.mod_le _ _)]

/-- FREE holds every count up to the present one. -/
theorem poolFree_fits {s : State} {n : Nat} (h : n ≤ poolFree s) : n + writeGranules s < 2 ^ 20 ∨ n = 0 := by
  have field : s.fld Reg.LIB_POOL Fld.LIB_POOL_FREE < 2 ^ 20 := fld_lt s _ _
  simp only [poolFree] at h
  omega

theorem poolFree_setEp {s : State} {k : Nat} {c : EpCtx} (before : (s.ep k).reserve = false) (after : c.reserve = false) :
    poolFree (s.setEp k c) = poolFree s := by
  simp only [poolFree, writeGranules_setEp before after]
  rfl

/-! ## Taking a buffer and giving it back (R244, R251) -/

section
variable {s : State} {k : Nat}

theorem takeStacks_regs_wf (regs : s.regs.wf = true) : (takeStacks s k).regs.wf = true := wf_setFld s _ _ _ regs

theorem takeStacks_eps_wf (eps : s.eps.wf = true) : (takeStacks s k).eps.wf = true := wf_put _ _ _ _ eps

theorem ep_takeStacks (eps : s.eps.wf = true) :
    (takeStacks s k).ep k = { s.ep k with held := (s.ep k).granules, reserve := false } :=
  ep_setEp_self (setPool s _) k _ eps

theorem writeGranules_takeStacks (inStacks : (s.ep k).reserve = false) :
    writeGranules (takeStacks s k) = writeGranules s :=
  writeGranules_setEp (s := setPool s _) inStacks rfl

theorem poolFree_takeStacks (regs : s.regs.wf = true) (inStacks : (s.ep k).reserve = false) :
    poolFree (takeStacks s k) = poolFree s - (s.ep k).granules := by
  have kept : poolFree (takeStacks s k) = poolFree (setPool s (poolFree s - (s.ep k).granules)) :=
    poolFree_setEp inStacks rfl
  rw [kept, poolFree_setPool regs (poolFree_fits (Nat.sub_le _ _))]

variable (own : ownKey k = true) (inStacks : (s.ep k).reserve = false)
include own inStacks

theorem releaseBuf_of_stacks : releaseBuf s k =
    (setPool s (poolFree s + (s.ep k).held)).setEp k { s.ep k with held := 0, reserve := false } := by
  simp only [releaseBuf, inStacks, own, Bool.false_eq_true, if_false, if_true]

theorem ep_releaseBuf (eps : s.eps.wf = true) : (releaseBuf s k).ep k = { s.ep k with held := 0, reserve := false } := by
  rw [releaseBuf_of_stacks own inStacks]
  exact ep_setEp_self (setPool s _) k _ eps

theorem poolFree_releaseBuf (regs : s.regs.wf = true)
    (fits : poolFree s + (s.ep k).held + writeGranules s < 2 ^ 20 ∨ poolFree s + (s.ep k).held = 0) :
    poolFree (releaseBuf s k) = poolFree s + (s.ep k).held := by
  have kept : poolFree (releaseBuf s k) = poolFree (setPool s (poolFree s + (s.ep k).held)) := by
    rw [releaseBuf_of_stacks own inStacks]
    exact poolFree_setEp inStacks rfl
  rw [kept, poolFree_setPool regs fits]

end

/-- Settles O59: what is taken and given back is the same count, and beside it the write data of the reserve tier stays. -/
theorem bufferPool : Obligations.BufferPool := by
  intro s k regs eps own _ inStacks room
  have taken := poolFree_takeStacks regs inStacks
  have ep := ep_takeStacks (k := k) eps
  have inStacks' : ((takeStacks s k).ep k).reserve = false := by rw [ep]
  have back : poolFree (takeStacks s k) + ((takeStacks s k).ep k).held = poolFree s := by
    rw [taken, ep, Nat.sub_add_cancel room]
  have fits := poolFree_fits (Nat.le_refl (poolFree s))
  rw [← back, ← writeGranules_takeStacks inStacks] at fits
  refine ⟨taken, by rw [ep], ?_, ?_⟩
  · rw [poolFree_releaseBuf own inStacks' (takeStacks_regs_wf regs) fits, back]
  · rw [ep_releaseBuf own inStacks' (takeStacks_eps_wf eps)]

end Sys2Proof.Proofs
end

section
/-! Restarts and failures: the rows of an awake hub that reset it warm, reset one function, or lose a core or an engine
(R257, R259, R367, R370, R398, R399, R413, R415). -/
namespace Sys2Proof.Proofs
open Sys2Proof.Machine Sys2Proof.Laws Sys2Proof.Safety

section
variable {t : Nat} {s : State} (up : awake (start t s) = true)
include up

/-- A trial that nothing has confirmed when its window ends (R370). -/
theorem exec_confirmWindowExpiry_of_over (x : BootIn) {e : Nat} (window : (start t s).nvm.windowEnd = some e)
    (passed : e ≤ (start t s).fc.now) (trial : trialRuns (start t s).nvm = true) :
    exec (.confirmWindowExpiry t x) s = .next (ended t s (unplanned (start t s) x 8 1 1)) := by
  refine exec_runs (exec_confirmWindowExpiry t x s) rfl up ?_
  simp only [window, trial, passed, decide_true, Bool.and_self, if_true]

/-- The armed instant has come in tree time (R367). -/
theorem exec_scheduledActivation_of_due (x : BootIn) {t0 : Nat} (armed : (start t s).nvm.armedT = some t0)
    (due : t0 ≤ treeNs (start t s)) :
    exec (.scheduledActivation t x) s = .next (ended t s (hubRestart (start t s) x 16 true true 2)) := by
  refine exec_runs (exec_scheduledActivation t x s) rfl up ?_
  simp only [armed, due, decide_true, if_true]

/-- Training shows in HIF_STATUS on a hub with a host interface, outside Recovery (R415). -/
theorem exec_pcieLinkUp_of_host (fn : Fn) (width : BitVec 5) (speed : BitVec 4) (root : isBranch (start t s) = false)
    (on : (start t s).pw.recovery = 0) : exec (.pcieLinkUp t fn width speed) s =
      .next (ended t s (((start t s).setFld (Reg.HIF_STATUS (fnIx fn)) Fld.HIF_STATUS_WIDTH width.toNat).setFld
        (Reg.HIF_STATUS (fnIx fn)) Fld.HIF_STATUS_SPEED speed.toNat)) :=
  exec_runs (exec_pcieLinkUp t fn width speed s) rfl up (if_neg (by rw [root, on]; decide))

end

/-- Settles O53: each row under its condition. -/
theorem warmResetsRun : Obligations.WarmResetsRun := by
  rintro t s b rfl up
  exact ⟨fun x _ => exec_confirmWindowExpiry_of_over up x, fun x _ => exec_scheduledActivation_of_due up x,
    fun fn dual => exec_runs (exec_singlePerst t fn s) rfl up (if_pos dual), exec_pcieLinkUp_of_host up,
    fun core cause x => exec_runs (exec_serviceCoreFailure t core cause x s) rfl up rfl,
    fun port cause named => exec_runs (exec_engineFailure t port cause s) named up rfl,
    fun x on => exec_runs (exec_lockstepMismatch t x s) rfl up (if_neg (by simpa using on)),
    fun x => exec_runs (exec_watchdogExpiry t x s) rfl up rfl⟩

end Sys2Proof.Proofs
end

section
/-! Tree time: the slew that it takes up as it moves (R285), and the rows of its sources (R278, R280, R281, R287,
R393). -/
namespace Sys2Proof.Proofs
open Sys2Proof.Machine Sys2Proof.Laws Sys2Proof.Safety

/-! ## The slew (R285) -/

/-- The most that a slew of slewMax µs a second takes in dt ns, in units of 2^-16 ns. -/
def slewMost (slewMax dt : Nat) : Nat := dt * slewMax * 65536 / 1000000

/-- The part of a pending slew that tree time takes up when it may take up to most: all that is left, held to the range
from -most to most. -/
def slewPart (left : Int) (most : Nat) : Int := max (-most) (min left most)

/-- What moving tree time to an instant gives each field it changes. -/
theorem to_eq_slewPart (tt : TreeTime) (slewMax now : Nat) : tt.to slewMax now = { tt with
    time := ofSigned 80 ((tt.time : Int) + ((now - tt.takenAt) * 65536 : Nat) +
      slewPart tt.slewLeft (slewMost slewMax (now - tt.takenAt)))
    takenAt := now
    slewLeft := tt.slewLeft - slewPart tt.slewLeft (slewMost slewMax (now - tt.takenAt)) } := by
  have cut (left : Int) (most : Nat) : (if left < 0 then (if -(most : Int) < left then left else -most)
      else if (most : Int) < left then most else left) = slewPart left most := by
    unfold slewPart; split_ifs <;> omega
  simp only [TreeTime.to, timeMod, ← cut, slewMost]

section
variable (left : Int) (most : Nat)

theorem natAbs_slewPart_le_most : (slewPart left most).natAbs ≤ most := by unfold slewPart; omega

theorem natAbs_slewPart_le_left : (slewPart left most).natAbs ≤ left.natAbs := by unfold slewPart; omega

theorem slewPart_nonneg {left : Int} (h : 0 ≤ left) : 0 ≤ slewPart left most := by unfold slewPart; omega

theorem slewPart_nonpos {left : Int} (h : left ≤ 0) : slewPart left most ≤ 0 := by unfold slewPart; omega

end

/-- A slew of at most 1 s a second takes back no more than the time that passes. -/
theorem slewMost_le_elapsed {slewMax : Nat} (h : slewMax ≤ 1000000) (dt : Nat) : slewMost slewMax dt ≤ dt * 65536 := by
  refine Nat.div_le_of_le_mul ?_
  calc dt * slewMax * 65536 ≤ dt * 1000000 * 65536 := by gcongr
    _ = 1000000 * (dt * 65536) := by ring

/-- Settles O46: the part is what is left of the slew, held to the most that the elapsed time allows. -/
theorem slewBound : Obligations.SlewBound := by
  intro tt slewMax now _
  have bound := natAbs_slewPart_le_most tt.slewLeft (slewMost slewMax (now - tt.takenAt))
  refine ⟨slewPart tt.slewLeft (slewMost slewMax (now - tt.takenAt)), ?_, ?_, ?_, bound,
    natAbs_slewPart_le_left _ _, slewPart_nonneg _, slewPart_nonpos _, fun below => ?_⟩
  · rw [to_eq_slewPart]
  · rw [to_eq_slewPart]
  · rw [to_eq_slewPart]
  · have elapsed := slewMost_le_elapsed below (now - tt.takenAt)
    omega

/-! ## The rows of tree time -/

/-- A row of the TIME domain, which needs no REFCLK_SYS, does to the state at its instant what its meaning says while
the chip is not off (R393). -/
theorem exec_runs_time {c : Instr} {t : Nat} {s u : State} {f : State → State}
    (row : exec c s = whenWf (WellFormed.wf c) t s (timeEffect t s f)) (ok : WellFormed.wf c = true)
    (on : (start t s).pw.off = false) (does : f (start t s) = u) : exec c s = .next (ended t s u) := by
  rw [row, whenWf_of_wf t s _ ok, timeEffect_on f on, does]

section
variable {t : Nat} {s : State} (on : (start t s).pw.off = false)
include on

section
variable (root : isBranch (start t s) = false)
include root

/-- An exchange with the active function of a root that PTM serves is measured (R281). -/
theorem exec_ptmExchange_of_offset (ptm : timeSource (start t s) = 1) {fn : Fn}
    (active : activeFn (start t s) = some fn) (o : Int) : exec (.ptmExchange t fn (some o)) s =
      .next (ended t s (measure ((start t s).modTt fun x => { x with ptmFails := 0 }) (o * 65536))) :=
  exec_runs_time (exec_ptmExchange t fn (some o) s) rfl on (if_neg (by simp [root, ptm, active]))

/-- A failed exchange before the third in a row only counts. -/
theorem exec_ptmExchange_of_failed (ptm : timeSource (start t s) = 1) {fn : Fn}
    (active : activeFn (start t s) = some fn) (few : (start t s).tt.ptmFails < 2) : exec (.ptmExchange t fn none) s =
      .next (ended t s ((start t s).modTt fun x => { x with ptmFails := (start t s).tt.ptmFails + 1 })) := by
  refine exec_runs_time (exec_ptmExchange t fn none s) rfl on ((if_neg (by simp [root, ptm, active])).trans (if_neg ?_))
  have notThird : ¬3 ≤ (start t s).tt.ptmFails + 1 := by omega
  simp [notThird]

section
variable (pps : timeSource (start t s) = 0)
include pps

/-- The configured edge of an expected pulse is measured against its second (R281). -/
theorem exec_ppsInEdge_of_counted (expected : pulseExpected (start t s) = true) {sec : Nat}
    (counted : (pulseTaken (start t s)).tt.second = some sec) :
    exec (.ppsInEdge t ((start t s).flag Reg.TIM_CTRL Fld.TIM_CTRL_PPS_IN_FALLING)) s =
      .next (ended t s (measure (pulseTaken (start t s))
        ((sec * 1000000000 * 65536 : Nat) - ((pulseTaken (start t s)).tt.time : Int)))) := by
  refine exec_runs_time (exec_ppsInEdge t _ s) rfl on ?_
  simp only [root, pps, expected, counted, bne_self_eq_false, Bool.or_self, Bool.not_true, Bool.false_eq_true, if_false]

/-- A root that its pulses have disciplined holds over when none has come for 1.5 s (R278). -/
theorem exec_ppsLoss_of_silence {p : Nat} (last : (start t s).tt.lastPulse = some p)
    (silent : p + 1500000000 ≤ (start t s).fc.now) (ever : (start t s).tt.everMeasured = true)
    (follows : (start t s).tt.own = .acquiring ∨ (start t s).tt.own = .locked) :
    exec (.ppsLoss t) s = .next (ended t s (toHoldover (start t s))) := by
  refine exec_runs_time (exec_ppsLoss t s) rfl on ?_
  simp only [last]
  rw [if_pos (by simp [root, pps, silent]), if_pos (by simpa [ever] using follows)]

section
variable {ms : Nat} (notEarly : 100 ≤ ms) (notLate : ms ≤ 900) (pulsed : (start t s).tt.lastPulse.isSome = true)
  {utc tai : Nat} (names : tai = ((utc : Int) + toSigned 16 ((start t s).fld Reg.TIM_LEAP Fld.TIM_LEAP_TAI_UTC)).toNat)
include notEarly notLate pulsed names

/-- A sentence in its window is compared with the count of seconds, where there is one (R281). -/
theorem exec_zdaSentence_of_counted {sec : Nat} (counted : (start t s).tt.second = some sec) :
    exec (.zdaSentence t utc true ms) s =
      .next (ended t s (if sec = tai then start t s else timInt (start t s) 2)) := by
  refine exec_runs_time (exec_zdaSentence t utc true ms s) rfl on ((if_neg ?_).trans ?_)
  · simp [root, pps, notEarly, notLate, Option.isSome_iff_ne_none.mp pulsed]
  · simp only [counted, names]

/-- Without a count of seconds a sentence in its window agrees with the one before it or is the first, and the second
that agrees gives the count (R281). -/
theorem exec_zdaSentence_of_uncounted {agree : Nat} (uncounted : (start t s).tt.second = none)
    (agrees : (if (start t s).tt.zdaSecond = some tai then (start t s).tt.zdaAgree + 1 else 1) = agree) :
    exec (.zdaSentence t utc true ms) s = .next (ended t s ((start t s).modTt fun x =>
      { x with zdaSecond := some tai, zdaAgree := agree, second := if 2 ≤ agree then some tai else none })) := by
  refine exec_runs_time (exec_zdaSentence t utc true ms s) rfl on ((if_neg ?_).trans ?_)
  · simp [root, pps, notEarly, notLate, Option.isSome_iff_ne_none.mp pulsed]
  · simp only [uncounted, ← names, agrees]

end

end

end

/-- Holdover ends HOLDOVER_S after it began (R278). -/
theorem exec_holdoverExpiry_of_over {since : Nat} (began : (start t s).tt.holdSince = some since)
    (holds : (start t s).tt.own = .holdover)
    (passed : since + (start t s).fld Reg.TIM_LIMITS Fld.TIM_LIMITS_HOLDOVER_S * 1000000000 ≤ (start t s).fc.now) :
    exec (.holdoverExpiry t) s = .next (ended t s (setOwn (start t s) .expired)) := by
  refine exec_runs_time (exec_holdoverExpiry t s) rfl on ?_
  simp only [began]
  exact if_pos (by simp [holds, passed])

/-- The first pulse on PPS_OUT, at a whole second, with no sentence after it (R287). -/
theorem exec_ppsOutPulse_of_first (first : (start t s).tt.ppsRise = none)
    (enabled : (start t s).flag Reg.TIM_CTRL Fld.TIM_CTRL_PPS_OUT_EN = true)
    (whole : treeNs (start t s) % 1000000000 < 2)
    (silent : (start t s).flag Reg.TIM_CTRL Fld.TIM_CTRL_TOD_TX_EN = false) :
    exec (.ppsOutPulse t) s = .next (ended t s (drive ((start t s).modTt fun x =>
      { x with ppsRise := some (start t s).fc.now, ppsHigh := true }) .ppsOut true)) := by
  refine exec_runs_time (exec_ppsOutPulse t s) rfl on ?_
  have notOff : ¬2 ≤ treeNs (start t s) % 1000000000 := not_le.mpr whole
  simp only [first, enabled, silent, notOff, decide_false, Bool.not_true, Bool.or_self, Bool.false_and,
    Bool.false_eq_true, if_false]

/-- PPS_OUT falls PPS_WIDTH_MS after its rise (R287). -/
theorem exec_ppsOutFall_of_over {r : Nat} (rose : (start t s).tt.ppsRise = some r)
    (high : (start t s).tt.ppsHigh = true)
    (passed : r + (start t s).fld Reg.TIM_CTRL Fld.TIM_CTRL_PPS_WIDTH_MS * 1000000 ≤ (start t s).fc.now) :
    exec (.ppsOutFall t) s =
      .next (ended t s (drive ((start t s).modTt fun x => { x with ppsHigh := false }) .ppsOut false)) := by
  refine exec_runs_time (exec_ppsOutFall t s) rfl on ?_
  simp only [rose]
  exact if_pos (by simp [high, passed])

end

/-- Settles O47: each row under its condition. -/
theorem timeRuns : Obligations.TimeRuns := by
  rintro t s b rfl on
  exact ⟨fun _ o root ptm active => exec_ptmExchange_of_offset on root ptm active o,
    fun _ root ptm active few => exec_ptmExchange_of_failed on root ptm active few,
    fun _ root pps expected counted => exec_ppsInEdge_of_counted on root pps expected counted,
    fun _ last root pps silent ever follows => exec_ppsLoss_of_silence on root pps last silent ever follows,
    fun _ _ _ root pps early late pulsed names uncounted same one => by
      rw [exec_zdaSentence_of_uncounted on root pps early late pulsed names uncounted (if_pos same),
        if_pos (Nat.succ_le_succ one)],
    fun _ _ _ root pps early late pulsed names uncounted other =>
      exec_zdaSentence_of_uncounted on root pps early late pulsed names uncounted (if_neg other),
    fun _ _ _ root pps early late pulsed names counted => by
      rw [exec_zdaSentence_of_counted on root pps early late pulsed names counted, if_pos rfl],
    fun _ _ _ _ root pps early late pulsed names counted other => by
      rw [exec_zdaSentence_of_counted on root pps early late pulsed names counted, if_neg other],
    fun _ began holds passed => exec_holdoverExpiry_of_over on began holds passed,
    fun slews spent => exec_runs_time (exec_slewComplete t s) rfl on (if_pos (by simp [slews, spent])),
    exec_ppsOutPulse_of_first on,
    fun _ rose high passed => exec_ppsOutFall_of_over on rose high passed,
    fun kept => exec_runs_time (exec_timeRefLoss t s) rfl on (if_neg (by rw [kept]; decide)),
    exec_runs_time (exec_timeRefRestore t s) rfl on rfl⟩

end Sys2Proof.Proofs
end

section
/-! The delay before a retry and what latches a trip (R297, R302), and the rows of segment power (R292 to R294, R296,
R297, R298, R301 to R303) and of the chip's own supply (R306, R310, R312, R314, R318, R321, R327, R340, R383, R393,
R408). -/
namespace Sys2Proof.Proofs
open Sys2Proof.Machine Sys2Proof.Laws Sys2Proof.Safety

/-! ## Retries of a tripped segment (R297, R302) -/

theorem backoffS_le_sixty (s : State) (n : Nat) : backoffS s n ≤ 60 := Nat.min_le_left ..

theorem backoffS_one (s : State) : backoffS s 1 = Nat.min 60 (s.fld Reg.SPW_BUDGET Fld.SPW_BUDGET_BACKOFF_S) := by
  simp [backoffS]

/-- Doubling commutes with the cap, since what the cap cuts stays above it. -/
theorem backoffS_succ {n : Nat} (h : 1 ≤ n) (s : State) : backoffS s (n + 1) = Nat.min 60 (2 * backoffS s n) := by
  obtain ⟨m, rfl⟩ := Nat.exists_eq_add_of_le' h
  simp only [backoffS, Nat.add_sub_cancel, pow_succ, ← mul_assoc, Nat.min_eq_min]
  omega

theorem backoffS_le_succ (s : State) : ∀ n, backoffS s n ≤ backoffS s (n + 1)
  | 0 => le_rfl
  | n + 1 => by
    rw [backoffS_succ n.succ_pos]
    have below := backoffS_le_sixty s (n + 1)
    exact le_min below (Nat.le_mul_of_pos_left _ two_pos)

theorem tripLatches_iff (s : State) (p cause : Nat) : tripLatches s p cause = true ↔
    cause = 5 ∨ s.flag (Reg.SPW_CTRL p) Fld.SPW_CTRL_ACTION = false ∨
      5 ≤ s.fld (Reg.SPW_STATUS p) Fld.SPW_STATUS_RETRIES := by
  simp [tripLatches, or_assoc]

/-- Settles O48: the series by the doubling of one delay, the latch by its three conditions. -/
theorem retryBackoff : Obligations.RetryBackoff :=
  ⟨fun s n => ⟨backoffS_le_sixty s n, backoffS_le_succ s n, backoffS_one s, fun h => backoffS_succ h s⟩, tripLatches_iff⟩

/-! ## The rows of segment power -/

/-- The cause that the trip of each test reports (R298). -/
def tripCause : TripTest → Nat
  | .curve => 1
  | .inrush => 2
  | .instant => 3

/-- The point of its curve that the trip of each test reports; the instant test has none (R298). -/
def tripPoint (point : BitVec 3) : TripTest → Nat
  | .curve | .inrush => point.toNat
  | .instant => 0xFF

/-- A test trips a segment whose SPW_EN is high, and a suspect one by the instant test alone (R296, R302). -/
theorem exec_breakerTrip_of_heeded {t : Nat} {s : State} (on : (start t s).pw.off = false) {port : Nat}
    (named : WellFormed.segPort port = true) (high : enHigh (start t s) port = true)
    {test : TripTest}
    (heeded : test = .instant ∨ (start t s).flag (Reg.SPW_STATUS port) Fld.SPW_STATUS_SUSPECT = false)
    (point : BitVec 3) : exec (.breakerTrip t port test point) s =
      .next (ended t s (settle (tripSeg (start t s) port (tripCause test) (tripPoint point test)))) := by
  refine exec_runs_time (exec_breakerTrip t port test point s) named on ((if_neg ?_).trans (by cases test <;> rfl))
  rcases heeded with rfl | clear
  · simp [high]
  · simp [high, clear]

/-- The open-sense test of a bank of an awake hub (R301). -/
theorem exec_openSenseTest_of_enabled {t : Nat} {s : State} (up : awake (start t s) = true) {bank : Nat}
    {shifts : List Int} (there : bank < 6) (full : shifts.length = 8)
    (enabled : (start t s).flag Reg.SPW_SENSE_CFG Fld.SPW_SENSE_CFG_TEST_EN = true) :
    exec (.openSenseTest t bank shifts) s = .next (ended t s (settle (senseTest (start t s) bank shifts))) :=
  exec_runs (exec_openSenseTest t bank shifts s) (by simp [WellFormed.wf, there, full]) up
    (if_pos (by rw [enabled, on_of_awake up]; rfl))

/-- Settles O49: each row under its condition. -/
theorem segmentPowerRuns : Obligations.SegmentPowerRuns := by
  rintro t s b rfl on
  exact ⟨fun port named ramps passed =>
      exec_runs_time (exec_rampComplete t port s) named on (if_pos ⟨ramps, passed⟩),
    fun _ point named high clear => exec_breakerTrip_of_heeded on named high (.inr clear) point,
    fun _ point named high clear => exec_breakerTrip_of_heeded on named high (.inr clear) point,
    fun _ point named high => exec_breakerTrip_of_heeded on named high (.inl rfl) point,
    fun port ma10 named => exec_runs_time (exec_senseSample t port ma10 s) named on (if_neg (by rw [on]; decide)),
    fun port named passed => exec_runs_time (exec_softStartEnd t port s) named on (if_pos passed),
    fun port named up waits passed => exec_runs (exec_backoffExpiry t port s) named up (if_pos ⟨waits, passed⟩),
    fun port named up runs passed => exec_runs (exec_retryCountReset t port s) named up (if_pos ⟨runs, passed⟩),
    fun _ _ up there full enabled => exec_openSenseTest_of_enabled up there full enabled⟩

/-! ## The rows of chip power -/

/-- A row of the AO domain does to the state at its instant what its meaning says in every chip state (R320). -/
theorem exec_runs_ao {c : Instr} {t : Nat} {s u : State} {f : State → State}
    (row : exec c s = whenWf (WellFormed.wf c) t s (aoEffect t s f)) (ok : WellFormed.wf c = true)
    (does : f (start t s) = u) : exec c s = .next (ended t s u) := by
  rw [row, whenWf_of_wf t s _ ok, aoEffect_eq, does]

section
variable {t : Nat} {s : State}

/-- The first crossing latches the Squall where it is enabled (R306, R309). -/
theorem exec_squallLatch_of_first (enabled : (start t s).flag Reg.PWR_SQUALL_CFG Fld.PWR_SQUALL_CFG_ENABLE = true)
    (first : (start t s).pw.squallAt = none) : exec (.squallLatch t) s = .next (ended t s (squallLatches (start t s))) :=
  exec_runs_ao (exec_squallLatch t s) rfl (if_pos (by rw [enabled, first]; rfl))

/-- The Squall sheds 200 µs after the crossing (R306). -/
theorem exec_squallShed_of_late {since : Nat} (holds : squallOn (start t s) = true)
    (crossed : (start t s).pw.squallAt = some since) (passed : since + 200000 ≤ (start t s).fc.now) :
    exec (.squallShed t) s = .next (ended t s (squallSheds (start t s))) :=
  exec_runs_ao (exec_squallShed t s) rfl (if_pos (by
    simp only [holds, crossed, Option.getD_some, passed, decide_true, Bool.and_self]))

theorem exec_sealComplete_of_sealing {test : Bool} (seals : (start t s).folio.sealing = some test) :
    exec (.sealComplete t) s = .next (ended t s (sendWaiting (portSealed (sealEnd (start t s) test)))) :=
  exec_runs_ao (exec_sealComplete t s) rfl (by simp only [seals])

/-- The Squall ends after its recovery time, once no seal of its own runs (R310). -/
theorem exec_squallRecovery_of_over {since : Nat} (crossed : (start t s).pw.squallAt = some since)
    (passed : since + (start t s).fld Reg.PWR_SQUALL_CFG Fld.PWR_SQUALL_CFG_RECOVER * 10000000 ≤ (start t s).fc.now)
    (sealed : (start t s).folio.sealing ≠ some false) :
    exec (.squallRecovery t) s = .next (ended t s (settle (squallEnds (start t s)))) :=
  exec_runs_ao (exec_squallRecovery t s) rfl (if_pos (by
    simp only [crossed, Option.isSome_some, Option.getD_some, passed, sealed, decide_true, decide_false, Bool.not_false,
      Bool.and_self]))

/-- REFCLK_SYS stops the clocked domains of a chip that is on and has them running (R393). -/
theorem exec_refclkSysLoss_of_running (on : (start t s).pw.off = false)
    (runs : (start t s).pw.clocksStopped = false) : exec (.refclkSysLoss t) s =
      .next (ended t s ((start t s).modPw fun w =>
        { w with clocksStopped := true, refLostAt := some (start t s).fc.now })) :=
  exec_runs_ao (exec_refclkSysLoss t s) rfl (if_neg (by rw [on, runs]; decide))

end

/-- Settles O50: each row under its condition. -/
theorem chipPowerRuns : Obligations.ChipPowerRuns := by
  rintro t s b rfl
  exact ⟨exec_squallLatch_of_first, fun _ => exec_squallShed_of_late, fun _ => exec_sealComplete_of_sealing,
    fun _ => exec_squallRecovery_of_over,
    fun bank samples up there lull => exec_runs (exec_watchCycle t bank samples s) (decide_eq_true there) up (if_pos lull),
    fun temps full normal => exec_runs_ao (exec_thermalReading t temps s) (beq_iff_eq.mpr full) (if_pos normal),
    fun dom wakeStep up there =>
      exec_runs (exec_domainWakeStepTimeout t dom wakeStep s) (decide_eq_true there) up rfl,
    fun up => exec_runs (exec_powerTransitionComplete t s) rfl up rfl, exec_refclkSysLoss_of_running,
    fun x _ => exec_runs_ao (exec_refclkSysRestore t x s) rfl rfl,
    fun present => exec_runs_ao (exec_aoRailChange t present s) rfl rfl,
    fun absent => exec_runs_ao (exec_deadBatteryStart t s) rfl (if_neg (by rw [absent]; decide))⟩

end Sys2Proof.Proofs
end

section
/-! The rows of the service port (R326, R331, R333, R334, R336, R339) and the commands of the maintenance function
(R342, R343). -/
namespace Sys2Proof.Proofs
open Sys2Proof.Machine Sys2Proof.Laws Sys2Proof.Safety

/-! ## The service port -/

section
variable {t : Nat} {s : State}

/-- A port with a partner takes a message (R336); an Unattached one and one in ErrorRecovery do not. -/
theorem exec_pdMessage_of_attached (m : PdBlock) (attached : (start t s).port.st ≠ 0)
    (running : (start t s).port.st ≠ 3) : exec (.pdMessage t m) s = .next (ended t s (pdReceived (start t s) m)) :=
  exec_runs_ao (exec_pdMessage t m s) rfl (if_neg (not_or.mpr ⟨attached, running⟩))

/-- A port with a partner takes Hard Reset signalling (R331, R344). -/
theorem exec_hardReset_of_attached (attached : (start t s).port.st ≠ 0) (running : (start t s).port.st ≠ 3) :
    exec (.hardReset t) s =
      .next (ended t s (hardResetEnds ((dropWaitSend (start t s)).bump (Reg.PDP_CNT 8) 1) true)) :=
  exec_runs_ao (exec_hardReset t s) rfl (if_neg (not_or.mpr ⟨attached, running⟩))

/-- SenderResponseTimer runs out for a request of the hub or a Hard Reset that it sent; during a fast role swap the swap
fails (R331, R339). -/
theorem exec_senderResponseTimeout_of_due
    (waits : (start t s).port.ownReq ≠ 0 ∨ (start t s).port.resetOut = true)
    (passed : (start t s).port.sentAt +
      (start t s).fld Reg.PDP_TIMER Fld.PDP_TIMER_SENDER_RESP_MS * 1000000 ≤ (start t s).fc.now) :
    exec (.senderResponseTimeout t) s = .next (ended t s
      (if (start t s).port.frsBusy then frsFails (start t s) 3 else senderTimeout (start t s))) := by
  have awaited : ¬((start t s).port.ownReq = 0 ∧ (start t s).port.resetOut = false) := by
    simpa only [not_and_or, Bool.not_eq_false] using waits
  exact exec_runs_ao (exec_senderResponseTimeout t s) rfl (if_neg (not_or.mpr ⟨awaited, not_lt.mpr passed⟩))

/-- The AO core answers for a host that is late, once no seal of a fast role swap runs (R334, R338). -/
theorem exec_hostResponseTimeout_of_due {m : PdBlock} (asked : (start t s).port.asked = some m)
    (passed : (start t s).port.askedAt +
      (start t s).fld Reg.PDP_TIMER Fld.PDP_TIMER_HOST_RESP_MS * 1000000 ≤ (start t s).fc.now)
    (free : portWaits (start t s) = false) :
    exec (.hostResponseTimeout t) s = .next (ended t s (autoAnswer (start t s) m)) := by
  refine exec_runs_ao (exec_hostResponseTimeout t s) rfl ?_
  simp only [asked]
  exact if_pos ⟨passed, free⟩

/-- ErrorRecovery ends in a detach (R331). -/
theorem exec_errorRecoveryEnd_of_over (recovers : (start t s).port.st = 3)
    (passed : (start t s).port.recoveryEnd ≤ (start t s).fc.now) :
    exec (.errorRecoveryEnd t) s = .next (ended t s (portDetach (start t s))) :=
  exec_runs_ao (exec_errorRecoveryEnd t s) rfl (if_pos ⟨recovers, passed⟩)

/-- A connected maintenance function is configured at the speed of the bus (R342). -/
theorem exec_maintConfigured_of_connected (highSpeed : Bool)
    (connected : (start t s).flag Reg.PDP_USB_STATUS Fld.PDP_USB_STATUS_CONNECTED = true) :
    exec (.maintConfigured ⟨t, highSpeed⟩) s =
      .next (ended t s (pdpInt (((start t s).setFlag Reg.PDP_USB_STATUS Fld.PDP_USB_STATUS_CONFIGURED true).setFlag
        Reg.PDP_USB_STATUS Fld.PDP_USB_STATUS_HIGH_SPEED highSpeed) 6)) :=
  exec_runs_ao (exec_maintConfigured ⟨t, highSpeed⟩ s) rfl (if_pos connected)

end

/-! ## The maintenance function -/

theorem maintCmd_of_up {s : State} (h : maintUp s = true) (f : State → State) : maintCmd s f = f s := if_pos h

/-- Which registers REG_READ reaches: in Recovery without a management core those that the AO core reads (R340,
log entry 62). -/
def readsReach (s : State) (a : Nat) : Bool := if s.pw.recovery = 3 then aoThere a else maintThere s a

section
variable {s : State} (c : MaintCmd)

theorem maintRead_of_reached (h : s.pw.recovery ≠ 3 ∨ aoThere (c.arg0.toNat / 4 * 4) = true) :
    maintRead s c =
      maintData (readRun s .maint (readsReach s) (c.arg0.toNat / 4 * 4) (clampNat 1 64 c.arg1.toNat)).1 2 c
        (readRun s .maint (readsReach s) (c.arg0.toNat / 4 * 4) (clampNat 1 64 c.arg1.toNat)).2 := by
  refine if_neg ?_
  rintro ⟨noCore, beyond⟩
  rcases h with core | reached
  · exact core noCore
  · rw [reached] at beyond
    exact absurd beyond (by decide)

theorem maintWrite_of_served (served : maintServed s true = true) (nonempty : 1 ≤ c.data.length / 4)
    (most : c.data.length / 4 ≤ 64) :
    maintWrite s c = maintReply (writeRun s .maint (maintThere s) (c.arg0.toNat / 4 * 4) c.data (c.data.length / 4)) 3
      Status.done c.tag.toNat [] :=
  if_neg (by simp [served, most, Nat.ne_of_gt nonempty])

theorem maintFolio_of_served (served : maintServed s false = true) : maintFolio s c = maintData s 4 c
    (((folFrom s.folio c.arg0.toNat 0).take (Nat.min 1024 (Nat.min c.arg1.toNat (c.len.toNat / 64)))).flatMap
      folBytes) :=
  if_pos served

/-- KIND 1 of the ARGS delivers a piece (R343). -/
theorem maintImage_of_piece (tagOk : Bool) (served : maintServed s true = true)
    (piece : byteAt (fitBytes 40 c.data) 0 = 1) :
    maintImage s c tagOk = pieceDelivered s (fitBytes 40 c.data) tagOk none (some c.tag.toNat) := by
  simp only [maintImage, served, piece, Bool.not_true, Bool.false_eq_true, if_false]

theorem maintStatus_of_served (served : maintServed s false = true) :
    maintStatus s c = maintData s 6 c (imageStatus s) :=
  if_pos served

end

/-- A command of the AO core is answered whether or not the domains run (R340, R343). -/
theorem exec_maint_runs_ao {i : Instr} {t : Nat} {s u : State} {f : State → State}
    (row : exec i s = whenWf (WellFormed.wf i) t s (aoEffect t s fun s => maintCmd s f)) (ok : WellFormed.wf i = true)
    (up : maintUp (start t s) = true) (does : f (start t s) = u) : exec i s = .next (ended t s u) :=
  exec_runs_ao row ok ((maintCmd_of_up up f).trans does)

/-- A command of the management core is answered while the domains run (R343). -/
theorem exec_maint_runs {i : Instr} {t : Nat} {s u : State} {f : State → State}
    (row : exec i s = whenWf (WellFormed.wf i) t s (effect t s fun s => maintCmd s f)) (ok : WellFormed.wf i = true)
    (up : maintUp (start t s) = true) (runs : awake (start t s) = true) (does : f (start t s) = u) :
    exec i s = .next (ended t s u) :=
  exec_runs row ok runs ((maintCmd_of_up up f).trans does)

theorem exec_regWrite_of_served {t : Nat} {s : State} (up : maintUp (start t s) = true) (c : MaintCmd)
    (runs : awake (start t s) = true) (served : maintServed (start t s) true = true) (nonempty : 1 ≤ c.data.length / 4)
    (most : c.data.length / 4 ≤ 64) : exec (.regWrite t c) s =
      .next (ended t s (settle (maintReply (writeRun (start t s) .maint (maintThere (start t s)) (c.arg0.toNat / 4 * 4)
        c.data (c.data.length / 4)) 3 Status.done c.tag.toNat []))) :=
  exec_runs (exec_regWrite t c s) rfl runs
    (congrArg settle ((maintCmd_of_up up _).trans (maintWrite_of_served c served nonempty most)))

/-- Settles O56: a row of the port acts on the state at its instant, and a command of the maintenance function while it
runs, each under its condition. -/
theorem servicePortRuns : Obligations.ServicePortRuns := by
  constructor
  · rintro t s b rfl
    exact ⟨exec_runs_ao (exec_typecDetach t s) rfl rfl, exec_pdMessage_of_attached, exec_hardReset_of_attached,
      fun waits passed calm => by rw [exec_senderResponseTimeout_of_due waits passed, calm]; rfl,
      fun waits passed swaps => by rw [exec_senderResponseTimeout_of_due waits passed, swaps]; rfl,
      fun _ => exec_hostResponseTimeout_of_due, exec_errorRecoveryEnd_of_over,
      fun mv => exec_runs_ao (exec_frsVbusCheck t mv s) rfl rfl, exec_maintConfigured_of_connected⟩
  · rintro t s b rfl up
    exact ⟨fun c => exec_maint_runs_ao (exec_identify t c s) rfl up rfl,
      fun c reached => exec_maint_runs_ao (exec_regRead t c s) rfl up (maintRead_of_reached c reached),
      exec_regWrite_of_served up,
      fun c runs served => exec_maint_runs (exec_maintFolioRead t c s) rfl up runs (maintFolio_of_served c served),
      fun c tagOk runs served piece =>
        exec_maint_runs (exec_maintImagePiece t c tagOk s) rfl up runs (maintImage_of_piece c tagOk served piece),
      fun c runs served => exec_maint_runs (exec_maintImageStatus t c s) rfl up runs (maintStatus_of_served c served),
      fun c op runs unknown =>
        exec_maint_runs (exec_maintUnknownOp t c op s) (by simp only [WellFormed.wf, unknown, Bool.not_false]) up runs
          rfl⟩

end Sys2Proof.Proofs
end
section
/-! Commands and the queue: a step takes the front command, every command answers a next state with the queue it found,
and so a queue of commands runs to its end (spec/95_what_each_step_holds.md). -/
namespace Sys2Proof.Proofs
open Sys2Proof.Machine Sys2Proof.Laws Sys2Proof.Safety

/-! ## What a step does with the queue -/

theorem step_of_cons {c : Instr} {rest : List Instr} {s : State} (h : s.pending = c :: rest) :
    step s = exec c { s with pending := rest } := by
  simp only [step, h]

theorem step_of_empty {s : State} (h : s.pending = []) : step s = .next s := by
  simp only [step, h]

/-- Settles O1: a step is read off the queue's front, and there is none in an empty queue. -/
theorem stepTakesTheFront : Obligations.StepTakesTheFront :=
  ⟨fun _ _ _ => step_of_cons rfl, fun _ => step_of_empty⟩

/-! ## Every command answers a next state -/

/-- Every row is wrapped in tickEffect: the rows that only pass time through aoEffect, which is tickEffect with the clock
left at the command's instant; the two boundaries and the two messages outright; and the rows that may be a reset
through resetEffect. -/
theorem exec_eq_tickEffect (c : Instr) (s : State) :
    ∃ t at_ clock f, exec c s = whenWf (WellFormed.wf c) t s (tickEffect at_ s clock f) := by
  cases still : movesClock c with
  | false =>
    obtain ⟨t, f, row⟩ := exec_eq_aoEffect s still
    exact ⟨t, t, State.fc, f, row⟩
  | true =>
    cases c
    case frameBoundary | gustSlotBoundary | role | timeSync | powerOnReset | perst | perstNRelease | thermalAutoRestart
      | vaultTimerExpiry | typecAttach | vbusRemoved | restart | orphanStartTimeout =>
      dsimp only [exec]
      exact ⟨_, _, _, _, rfl⟩
    all_goals cases still

/-- The outcome is a next state with the queue of s. -/
def KeepsQueue (s : State) (o : Host.Outcome State Fault Refusal) : Prop :=
  ∃ u, o = .next u ∧ u.pending = s.pending

theorem keepsQueue_tickEffect (t : Nat) (s : State) (clock : State → FrameClock) (f : State → State) :
    KeepsQueue s (tickEffect t s clock f) := by
  obtain ⟨u, answers, -, queue⟩ := tickEffect_next t s clock f
  exact ⟨u, answers, queue⟩

theorem keepsQueue_whenWf (ok : Bool) (t : Nat) {s : State} {o : Host.Outcome State Fault Refusal}
    (h : KeepsQueue s o) : KeepsQueue s (whenWf ok t s o) := by
  cases ok with
  | false => exact ⟨_, whenWf_false t s o, ended_pending t s _⟩
  | true => exact h

theorem exec_keepsQueue (c : Instr) (s : State) : KeepsQueue s (exec c s) := by
  obtain ⟨t, at_, clock, f, row⟩ := exec_eq_tickEffect c s
  rw [row]
  exact keepsQueue_whenWf _ t (keepsQueue_tickEffect at_ s clock f)

/-- A term that names nothing the hub has answers the state at an instant (log entry 87). -/
theorem exec_of_not_wf {c : Instr} (s : State) (h : WellFormed.wf c = false) :
    ∃ t, exec c s = .next (start t s) := by
  obtain ⟨t, at_, clock, f, row⟩ := exec_eq_tickEffect c s
  rw [h] at row
  exact ⟨t, row⟩

/-- Settles O2: every row is wrapped in tickEffect, which answers a next state and puts the queue back. -/
theorem commandsComplete : Obligations.CommandsComplete :=
  fun c s => ⟨exec_keepsQueue c s, exec_of_not_wf s⟩

/-! ## A queue of commands runs to its end -/

/-- A step with a command at the front answers a next state whose queue is the rest. -/
theorem step_leaves_rest {c : Instr} {rest : List Instr} {s : State} (h : s.pending = c :: rest) :
    ∃ u, step s = .next u ∧ u.pending = rest := by
  rw [step_of_cons h]
  exact exec_keepsQueue c { s with pending := rest }

theorem run_succ_of_step {s u : State} (k : Nat) (h : step s = .next u) :
    Host.Core.run core (k + 1) s = Host.Core.run core k u := by
  have front : core.step s = .next u := h
  simp only [Host.Core.run, front]

/-- Settles O3, by induction on the commands ahead: each step takes one of them. -/
theorem queueDrains : Obligations.QueueDrains := by
  intro l rest s queue
  induction l generalizing s with
  | nil => exact ⟨s, rfl, queue⟩
  | cons c l ih =>
    obtain ⟨v, taken, left⟩ := step_leaves_rest queue
    obtain ⟨u, runs, drained⟩ := ih v left
    exact ⟨u, (run_succ_of_step l.length taken).trans runs, drained⟩

end Sys2Proof.Proofs
end
